-- ==== Sys2Proof/Word.lean ====
section
/-! DEFINITION. The fixed-width words of the LT-8's two links, and the number of a nest.

A quantity is a bit vector here only where the manual treats it as bits: the bytes and multi-byte
fields of a service cell, the slots of a front frame, the phase accumulator of R11, the fault kind
sets of R193.  Levels, f-codes, counts, stamps and samples are integers (0.6.3, 0.6.4). -/

namespace Sys2Proof

/-- One content byte of a service cell (R176). -/
abbrev Byte := BitVec 8

/-- A two-byte field (R190). -/
abbrev Half := BitVec 16

/-- A three-byte field or a 24-bit sample slot (R190, R191). -/
abbrev Triple := BitVec 24

/-- A management word (R190), or a four-byte field. -/
abbrev Word := BitVec 32

/-- The number of a nest, 0 to 7 (0.6.1). -/
abbrev NestId := Fin 8

end Sys2Proof
end

