-- ==== Sys2Proof/Config.lean ====
section
/-! DEFINITION. The fixed numbers of the part, each with the rule that states it, and the one free
value the model needs. -/

namespace Sys2Proof.Config

/-- R1: the frame stamp runs from 0 to 4,026,531,839 and wraps. -/
def stampRange : Nat := 4026531840

/-- R2: half the stamp range, the length of "at or after". -/
def halfRange : Nat := 2013265920

/-- R3: a block is 480 frames. -/
def blockFrames : Nat := 480

/-- R24: consecutive GOOD frames that take the link to LOCKED. -/
def lockRun : Nat := 48

/-- R24: consecutive BAD or ABSENT frames that take the link to SEARCHING. -/
def lossRun : Nat := 8

/-- R25: frames of SEARCHING after a loss at which FRONT_LOST is raised. -/
def frontLostFrames : Nat := 4800

/-- R55: frames from a trip's block start to the boundary that removes its record. -/
def tripLife : Nat := 10080

/-- R54: places of the trip list. -/
def tripPlaces : Nat := 16

/-- R19: places of a nest's drive-block history. -/
def historyPlaces : Nat := 16

/-- R48: places of a nest's pending block queue. -/
def pendingPlaces : Nat := 8

/-- R125: places of the marker queue. -/
def markerPlaces : Nat := 16

/-- R187: places of the unit report FIFO. -/
def reportPlaces : Nat := 16

/-- R186: places of the notice FIFO. -/
def noticePlaces : Nat := 8

/-- R180: places of the request queue. -/
def requestPlaces : Nat := 4

/-- R127: frames of SETUP before a strobe. -/
def setupFrames : Nat := 96

/-- R135: the greatest value of a counter. -/
def counterMax : Nat := 4294967295

/-- R71: the greatest value of a tally count. -/
def tallyMax : Nat := 262143

/-- Full scale of a sample (0.6.3). -/
def fullScale : Nat := 8388607

/-- R13: no drive sample lies below minus this or above it. -/
def driveLimit : Int := 8388351

/-- R42: 480 × 32,767. -/
def blockScale : Nat := 15728160

/-- R45: 32,767² × 480. -/
def fitDivisor : Nat := 515364618720

/-- R184: the identity code of the part. -/
def identityCode : Nat := 4108

/-- R184: the revision code of the part. -/
def revisionCode : Nat := 2

/-- The bytes of a reply whose value the manual does not state: those of READ_FAULTS for a record,
a nest or a serial that is absent, and the band byte of a READ_TICKET defect without a band (R193).
Nothing constrains it (DESIGN CHOICE, assumption log 6). -/
opaque freeByte : Nat → Byte

end Sys2Proof.Config
end

