-- ==== Sys2Proof/Syntax.lean ====
section
/-! DEFINITION. The commands of the LT-8: one constructor of `Instr` for each row of
spec/opcode_table.json.

The part is a block: it takes frames, words, line levels and requests from outside, and its own
events follow at frame-ends and at global boundaries (95_what_each_step_holds.md).  An event that
names a nest carries the nest.  A request carries its tag and the fields of its payload at the
widths of R193, so that every payload the station can send is a command. -/

namespace Sys2Proof

/-- A complete upstream front frame as received (R23, R191). -/
structure UpstreamFrame where
  mics  : Vector Triple 8
  guard : Triple
  clip  : Half
  check : Half
  deriving DecidableEq, Repr

/-- The 16 bytes of a segment entry (R193). -/
structure SegmentFields where
  type     : Byte
  law      : Byte
  fStart   : Triple
  fEnd     : Triple
  level    : Half
  duration : Half
  settle   : Half
  next     : Half
  deriving DecidableEq, Repr

/-- The 9 bytes of a limit header (R193). -/
structure HeaderFields where
  phase       : Half
  tolerance   : Half
  persistence : Byte
  presence    : Half
  voidPercent : Byte
  bandCount   : Byte
  deriving DecidableEq, Repr

/-- The 16 bytes of a band (R193). -/
structure BandFields where
  fLo         : Triple
  fHi         : Triple
  gLo         : Half
  gHi         : Half
  dnMax       : Half
  rbMax       : Half
  margin      : Byte
  persistence : Byte
  deriving DecidableEq, Repr

/-- The 3 bytes of a bin-map entry (R193). -/
structure BinFields where
  bin     : Byte
  pattern : Byte
  good    : Byte
  deriving DecidableEq, Repr

/-- The fields of WRITE_NEST after the nest number (R193). -/
structure NestFields where
  startMode : Byte
  sensor    : Byte
  debounce  : Half
  delay     : Half
  deriving DecidableEq, Repr

/-- The 18 bytes of the line fields (R193). -/
structure LineFields where
  threshold   : Half
  pre         : Half
  post        : Half
  reportWait  : Half
  unloadLimit : Half
  strobeWidth : Half
  gap         : Half
  markerWait  : Half
  stopMask    : Half
  deriving DecidableEq, Repr

/-- The 19 bytes of LOT_OPEN (R193). -/
structure LotFields where
  lotId        : Word
  firstSegment : Byte
  primarySet   : Byte
  retestSet    : Byte
  binBase      : Byte
  keyMode      : Byte
  attemptLimit : Byte
  tallyPoint   : Byte
  earlyOut     : Byte
  firstSerial  : Word
  rejectRun    : Byte
  entryDelay   : Byte
  retestDelay  : Byte
  deriving DecidableEq, Repr

/-- The commands, in the order of spec/opcode_table.json. -/
inductive Instr where
  | powerOnReset
  | warmReset
  /-- The frame-end of the current frame period: the upstream front frame (`none` for ABSENT), the
  raw nest sensor levels (bit n high when nest n is closed) and the READY input, as sampled. -/
  | upstreamFrontFrame (frame : Option UpstreamFrame) (sensors : Byte) (ready : Bool)
  | frontLost
  | globalBlockBoundary
  | sweepStart (nest : NestId)
  | driveBlockEnd (nest : NestId)
  | analysisBlockOpen (nest : NestId)
  | analysisBlockComplete (nest : NestId)
  | blockDeparture (nest : NestId)
  | drainComplete (nest : NestId)
  | reportTaken (nest : NestId)
  | entryDelayExpiry (nest : NestId)
  | retestDelayExpiry (nest : NestId)
  | reportStall (nest : NestId)
  | nestStuck (nest : NestId)
  | closeEvent (nest : NestId)
  | openEvent (nest : NestId)
  | guardBlockClose
  | tripRecordRemoval
  | saturationEnd
  | guardConfigTakeEffect
  | tapChange
  | markerJobStart
  | markerStrobeStart
  | markerGapStart
  | markerJobRemove
  | markerStall
  | managementWord (word : Word)
  | upstreamCellEnd
  | status (tag : Byte)
  | writeSegment (tag index : Byte) (entry : SegmentFields)
  | readSegment (tag index : Byte)
  | writeLimitHeader (tag set : Byte) (header : HeaderFields)
  | writeBand (tag set index : Byte) (band : BandFields)
  | readLimit (tag set selector : Byte)
  | writeBinmap (tag first count : Byte) (entries : List BinFields)
  | readBinmap (tag first count : Byte)
  | writeNest (tag nest : Byte) (fields : NestFields)
  | readNest (tag nest : Byte)
  | writeLine (tag : Byte) (fields : LineFields)
  | readLine (tag : Byte)
  | lotOpen (tag : Byte) (fields : LotFields)
  | lotClose (tag : Byte)
  | lotAbort (tag : Byte)
  | nestStart (tag nest : Byte)
  | nestEnable (tag nest : Byte)
  | nestDisable (tag nest : Byte)
  | releaseTicket (tag nest : Byte)
  | readTicket (tag nest first count : Byte)
  | readCounters (tag page flags : Byte)
  | readFaults (tag : Byte)
  | clearFaults (tag flags : Byte) (kinds : Half)
  | resumeLine (tag : Byte)
  | setTap (tag slot source nest : Byte)
  | lineReset (tag : Byte)
  | lineResetAction
  | unknownRequest (type tag : Byte) (payload : List Byte)
  deriving DecidableEq, Repr

end Sys2Proof
end

