-- ==== Sys2Proof/WellFormed.lean ====
section
/-! DEFINITION. The checks a command meets that the widths of its fields do not already make. -/

namespace Sys2Proof

/-- R193: a WRITE_BINMAP whose count is 1 to 8 carries that many entries, and one of any other count
carries none. -/
def binmapEntriesMatch (count : Byte) (entries : List BinFields) : Bool :=
  if 1 ≤ count.toNat ∧ count.toNat ≤ 8 then entries.length == count.toNat else entries.isEmpty

/-- R181: an unknown request has a type outside the request table, 1 to 26. -/
def isRequestType (type : Byte) : Bool := 1 ≤ type.toNat ∧ type.toNat ≤ 26

/-- A command is well formed: R193 for WRITE_BINMAP, R181 and R176 (a payload of at most 90 bytes)
for UNKNOWN_REQUEST; the fields of every other command fill their widths. -/
def Instr.wellFormed : Instr → Bool
  | .writeBinmap _ _ count entries => binmapEntriesMatch count entries
  | .unknownRequest type _ payload => !isRequestType type && decide (payload.length ≤ 90)
  | .powerOnReset => true
  | .warmReset => true
  | .upstreamFrontFrame _ _ _ => true
  | .frontLost => true
  | .globalBlockBoundary => true
  | .sweepStart _ => true
  | .driveBlockEnd _ => true
  | .analysisBlockOpen _ => true
  | .analysisBlockComplete _ => true
  | .blockDeparture _ => true
  | .drainComplete _ => true
  | .reportTaken _ => true
  | .entryDelayExpiry _ => true
  | .retestDelayExpiry _ => true
  | .reportStall _ => true
  | .nestStuck _ => true
  | .closeEvent _ => true
  | .openEvent _ => true
  | .guardBlockClose => true
  | .tripRecordRemoval => true
  | .saturationEnd => true
  | .guardConfigTakeEffect => true
  | .tapChange => true
  | .markerJobStart => true
  | .markerStrobeStart => true
  | .markerGapStart => true
  | .markerJobRemove => true
  | .markerStall => true
  | .managementWord _ => true
  | .upstreamCellEnd => true
  | .status _ => true
  | .writeSegment _ _ _ => true
  | .readSegment _ _ => true
  | .writeLimitHeader _ _ _ => true
  | .writeBand _ _ _ _ => true
  | .readLimit _ _ _ => true
  | .readBinmap _ _ _ => true
  | .writeNest _ _ _ => true
  | .readNest _ _ => true
  | .writeLine _ _ => true
  | .readLine _ => true
  | .lotOpen _ _ => true
  | .lotClose _ => true
  | .lotAbort _ => true
  | .nestStart _ _ => true
  | .nestEnable _ _ => true
  | .nestDisable _ _ => true
  | .releaseTicket _ _ => true
  | .readTicket _ _ _ _ => true
  | .readCounters _ _ _ => true
  | .readFaults _ => true
  | .clearFaults _ _ _ => true
  | .resumeLine _ => true
  | .setTap _ _ _ _ => true
  | .lineReset _ => true
  | .lineResetAction => true

end Sys2Proof
end

