-- ==== Sys2Proof/Decode.lean ====
section
/-! DEFINITION. Commands from words.  No row of spec/opcode_table.json gives its command bits: the
LT-8 takes events and service cells, not instruction words.  The bytes of a request cell are read by
`Sys2Proof.Machine.Request.parse` (R190, R193) when a cell is taken. -/

namespace Sys2Proof

/-- The command that a word spells by the table's bits: no row gives any, so no word spells one. -/
def decodeTableWord (_nbits _w : Nat) : Option Instr := none

end Sys2Proof
end

