-- ==== Sys2Proof/Machine/Arith.lean ====
section
/-! DEFINITION. The arithmetic of the part: roundings, the sine table, levels in 0.1 dB, the angle of a
point in 0.1 degree.

R41 asks for the value that exact real arithmetic gives, then the stated rounding.  A level is found
here by comparing integer powers, which is exact.  The sine table and the phase are found from a
160-bit fixed-point sine, whose error is below 2^-157.  The distances from the rounding points were
computed apart from Lean for every table index and every phase code (DEDUCED, assumption log 7): the
error is too small to move any result. -/

namespace Sys2Proof.Machine

/-- Division rounded to nearest with halves upward. -/
def roundUp (num den : Nat) : Nat := (2 * num + den) / (2 * den)

/-- Division rounded to nearest with halves away from zero. -/
def roundAway (num : Int) (den : Nat) : Int :=
  num.sign * ((2 * num.natAbs + den) / (2 * den) : Nat)

/-- A value brought into [lo, hi]. -/
def clamp (lo hi x : Int) : Int := max lo (min hi x)

/-- The greatest number below 2^k beyond `acc` at which `p` holds, for `p` that holds up to some point
and nowhere after it: one bit at a time from the top. -/
def greatest (p : Nat → Bool) : Nat → Nat → Nat
  | 0, acc => acc
  | k + 1, acc => greatest p k (if p (acc + 2 ^ k) then acc + 2 ^ k else acc)

/-! ### Levels -/

/-- 2n − 1 ≤ 200 log10 (num / den), for a ratio of squares num / den: that is, n − 1/2 does not exceed
200 log10 of the ratio itself. -/
def levelReached (num den : Nat) (n : Int) : Bool :=
  let e := 2 * n - 1
  if 0 ≤ e then 10 ^ e.toNat * den ^ 200 ≤ num ^ 200 else den ^ 200 ≤ num ^ 200 * 10 ^ (-e).toNat

/-- 200 log10 √(num / den) rounded to nearest and brought into [lo, hi].  No value lies on a half: 10 to
an odd 200th part is irrational, and num / den is rational. -/
def levelOf (num den : Nat) (lo hi : Int) : Int :=
  lo + greatest (fun m => decide (lo + m ≤ hi) && levelReached num den (lo + m)) 11 0

/-! ### Sine -/

/-- π in units of 2^-160. -/
def piFix : Nat := 4591442807048218921384805199743311128454155024418

/-- Terms of the sine series after the first, in units of 2^-160. -/
def sineSeries (x2 : Nat) : Nat → Nat → Nat → Nat → Nat
  | 0, _, _, acc => acc
  | fuel + 1, k, term, acc =>
    let next := term * x2 / 2 ^ 160 / ((2 * k + 2) * (2 * k + 3))
    sineSeries x2 fuel (k + 1) next (if k % 2 = 0 then acc - next else acc + next)

/-- sin (π m / d) in units of 2^-160, for m / d from 0 to 1/2. -/
def sineFix (m d : Nat) : Nat :=
  let x := piFix * m / d
  sineSeries (x * x / 2 ^ 160) 32 0 x x

/-- 32,767 sin (2π r / 16,384) rounded to nearest, for r from 0 to 4,096 (R11). -/
def quarterSine (r : Nat) : Nat := (2 * (32767 * sineFix r 8192) + 2 ^ 160) / 2 ^ 161

/-- R11: S(i), for an index taken modulo 16,384. -/
def sineTable (i : Nat) : Int :=
  let r := i % 4096
  match i / 4096 % 4 with
  | 0 => quarterSine r
  | 1 => quarterSine (4096 - r)
  | 2 => -(quarterSine r : Int)
  | _ => -(quarterSine (4096 - r) : Int)

/-- R11: the cosine value at index i. -/
def cosineTable (i : Nat) : Int := sineTable (i + 4096)

/-- R11: the phase index of an accumulator value, its top 14 bits. -/
def phaseIndex (p : Word) : Nat := p.toNat / 2 ^ 18

/-! ### Phase -/

/-- sin ((2n − 1) π / 3600) in units of 2^-160, for n from 1 to 1800. -/
def halfStepSine (n : Nat) : Nat :=
  let m := 2 * n - 1
  if m ≤ 1800 then sineFix m 3600 else sineFix (3600 - m) 3600

/-- cos ((2n − 1) π / 3600) in units of 2^-160, for n from 1 to 1800. -/
def halfStepCosine (n : Nat) : Int :=
  let m := 2 * n - 1
  if m ≤ 1800 then sineFix (1800 - m) 3600 else -(sineFix (m - 1800) 3600 : Int)

/-- R44: the angle of the point (q, i), i not negative, is at least n − 1/2 tenths of a degree. -/
def angleReached (i q : Int) (n : Nat) : Bool :=
  decide (n ≤ 1800) && decide (0 ≤ i * halfStepCosine n - q * halfStepSine n)

/-- R44: PH from I and Q; the angle in 0.1 degree rounded to nearest, +1800 written −1800. -/
def phaseOf (i q : Int) : Int :=
  let n : Int := greatest (angleReached i.natAbs q) 11 0
  let ph := if i < 0 then -n else n
  if ph = 1800 then -1800 else ph

end Sys2Proof.Machine
end

