-- ==== Sys2Proof/Machine/State.lean ====
section
/-! DEFINITION. The state of the LT-8, block by block (0.4), and its value after power-on reset.

Fields that the manual does not name, and that the model needs to know which events of the present
instant have been taken, are marked MODEL'S OWN in their docstrings
(DESIGN CHOICE, assumption log 2). -/

namespace Sys2Proof.Machine

/-! ### Time Base (TMB) -/

structure TimeBase where
  /-- R1: the frame stamp. -/
  stamp    : Nat
  /-- MODEL'S OWN: the frame-end of at least one frame has been taken since the reset. -/
  framed   : Bool
  /-- MODEL'S OWN: a step of the global boundary at `stamp` has been taken. -/
  boundary : Bool
  /-- MODEL'S OWN: the timers have counted at this boundary, so that one boundary is one event (R3). -/
  counted  : Bool
  deriving DecidableEq, Repr

/-! ### Sweep Generator (SWG) -/

/-- R5: segment types; `unused` is NONE. -/
inductive SegType where
  | unused | presence | polarity | measure | quiet
  deriving DecidableEq, Repr

/-- R5: how the frequency moves. -/
inductive Law where
  | step | log
  deriving DecidableEq, Repr

/-- R5: an entry of the segment table; `next = none` is END. -/
structure Segment where
  type     : SegType
  law      : Law
  fStart   : Nat
  fEnd     : Nat
  level    : Int
  duration : Nat
  settle   : Nat
  next     : Option (Fin 256)
  deriving DecidableEq, Repr

/-- R5: the empty entry. -/
def Segment.empty : Segment := ⟨.unused, .step, 0, 0, 0, 0, 0, none⟩

/-- 1.6: states of a sweep context. -/
inductive SweepState where
  | idle | armed | running
  deriving DecidableEq, Repr

/-- 1.6: the sweep context of a nest. -/
structure SweepCtx where
  state         : SweepState
  segment       : Fin 256
  copy          : Segment
  blockIndex    : Nat
  programBlock  : Nat
  /-- P, the phase accumulator (R13). -/
  phase         : Word
  /-- W, the frequency word (R10). -/
  freqWord      : Word
  /-- Lg, the level gain (R12). -/
  gain          : Nat
  stopRequested : Bool
  lastDriven    : Option Nat
  /-- MODEL'S OWN: the stamp of the boundary at which the present drive block began (R4, R18). -/
  blockStart    : Nat
  deriving DecidableEq, Repr

/-- R14: a sweep context after a reset; the segment copy is the empty entry (DESIGN CHOICE, assumption log 17). -/
def SweepCtx.reset : SweepCtx :=
  { state := .idle, segment := 0, copy := Segment.empty, blockIndex := 0, programBlock := 0, phase := 0,
    freqWord := 0, gain := 0, stopRequested := false, lastDriven := none, blockStart := 0 }

structure SweepGen where
  segments  : Vector Segment 256
  ctx       : Vector SweepCtx 8
  /-- MODEL'S OWN: SWG has processed the present boundary for the nest (R15, R21). -/
  processed : Vector Bool 8
  deriving DecidableEq, Repr

/-! ### Front Link Interface (FLI) -/

/-- R24: link states. -/
inductive LinkState where
  | searching | locked
  deriving DecidableEq, Repr

/-- R27: a received sample with its marks. -/
structure Sample where
  value   : Int
  invalid : Bool
  clipped : Bool
  deriving DecidableEq, Repr

/-- R27: what SEARCHING delivers. -/
def Sample.lost : Sample := ⟨0, true, false⟩

/-- 2.5: sources of a tap slot. -/
inductive TapSource where
  | off
  | mic (nest : NestId)
  | guard
  | drive (nest : NestId)
  | resid (nest : NestId)
  | follow
  deriving DecidableEq, Repr

/-- 2.5: one tap slot, and the sample that the upstream line link frame carries in it (R31). -/
structure TapSlot where
  current : TapSource
  pending : Option TapSource
  follow  : Option NestId
  carried : Int
  deriving DecidableEq, Repr

/-- R29: a tap slot after power-on or warm reset. -/
def TapSlot.reset : TapSlot := ⟨.off, none, none, 0⟩

structure FrontLink where
  link        : LinkState
  goodRun     : Nat
  badRun      : Nat
  absentCount : Nat
  /-- R25: the watch is open while this is present. -/
  lossStamp   : Option Nat
  /-- R27: the mic samples of the latest frame. -/
  mics        : Vector Sample 8
  /-- R27: the guard sample of the latest frame. -/
  guardMic    : Sample
  /-- R22: the drive slots of the latest downstream front frame. -/
  driveSlots  : Vector Int 8
  taps        : Vector TapSlot 2
  lastOpened  : Option NestId
  /-- MODEL'S OWN: the tap selection has been applied at the present boundary (R30). -/
  tapsTaken   : Bool
  deriving DecidableEq, Repr

/-! ### Block Analyzer (BKA) -/

/-- R19: a drive-block report, with b0 as BKA computes it when the report joins (R36). -/
structure DriveReport where
  start         : Nat
  programBlock  : Nat
  type          : SegType
  settle        : Bool
  lastOfSegment : Bool
  fcode         : Nat
  level         : Int
  freqWord      : Word
  phase         : Word
  b0            : Nat
  deriving DecidableEq, Repr

/-- R34: the block report of a reset context, all 0 or clear. -/
def DriveReport.zero : DriveReport := ⟨0, 0, .unused, false, false, 0, 0, 0, 0, 0⟩

/-- R49: release marks. -/
inductive Mark where
  | clean | void
  deriving DecidableEq, Repr

/-- R47: a block result record; `mark` is absent until the block departs. -/
structure BlockRecord where
  nest          : NestId
  programBlock  : Nat
  type          : SegType
  settle        : Bool
  lastOfSegment : Bool
  fcode         : Nat
  /-- The fundamental level of R42, kept beside the figures of R47 (DEDUCED, assumption log 9). -/
  lf            : Int
  g             : Int
  ph            : Int
  dn            : Int
  rb            : Int
  silent        : Bool
  damaged       : Bool
  b0            : Nat
  mark          : Option Mark
  deriving DecidableEq, Repr

/-- R45: the residual of a completed block with that block's b0. -/
structure Residual where
  b0     : Nat
  values : List Int
  /-- MODEL'S OWN: the last of the values has been carried, or its stamp has passed (R32). -/
  spent  : Bool
  deriving DecidableEq, Repr

/-- 3.1: states of an analysis context. -/
inductive AnalysisState where
  | closed | waiting | opened
  deriving DecidableEq, Repr

/-- 3.1: a nest's analysis context, drive-block history, pending block queue and residual. -/
structure Analysis where
  state    : AnalysisState
  cursor   : Nat
  report   : DriveReport
  b0       : Nat
  count    : Nat
  /-- The samples x[0], x[1], … taken into the block in progress, first one first. -/
  buffer   : List Int
  refPhase : Word
  i        : Int
  q        : Int
  damaged  : Bool
  history  : List DriveReport
  queue    : List BlockRecord
  residual : Option Residual
  deriving DecidableEq, Repr

/-- R34: BKA's state for one nest after a reset. -/
def Analysis.reset : Analysis :=
  { state := .closed, cursor := 0, report := DriveReport.zero, b0 := 0, count := 0, buffer := [],
    refPhase := 0, i := 0, q := 0, damaged := false, history := [], queue := [], residual := none }

/-! ### Guard Monitor (GDM) -/

/-- R53: a trip record. -/
structure Trip where
  t  : Nat
  gl : Int
  deriving DecidableEq, Repr

/-- 4.3: the guard fields of the line configuration. -/
structure GuardConfig where
  threshold : Int
  pre       : Nat
  post      : Nat
  deriving DecidableEq, Repr

/-- R57: defaults. -/
def GuardConfig.default : GuardConfig := ⟨-300, 240, 960⟩

structure GuardMon where
  /-- The guard block in progress (R51). -/
  start       : Nat
  eg          : Nat
  invalidSeen : Bool
  threshold   : Int
  /-- MODEL'S OWN: the close of this guard block has been taken. -/
  closed      : Bool
  /-- R51: the previous guard sample with its mark, or NONE. -/
  prev        : Option Sample
  trips       : List Trip
  saturated   : Bool
  lastDiscard : Option Nat
  current     : GuardConfig
  pending     : GuardConfig
  /-- MODEL'S OWN: the pending guard fields have been taken at the present boundary (R57). -/
  configTaken : Bool
  deriving DecidableEq, Repr

/-- R57, R63: GDM after power-on or warm reset. -/
def GuardMon.reset : GuardMon :=
  { start := 0, eg := 0, invalidSeen := false, threshold := -300, closed := false, prev := none, trips := [],
    saturated := false, lastDiscard := none, current := GuardConfig.default, pending := GuardConfig.default,
    configTaken := false }

/-! ### Judgement Unit (JDU) -/

/-- R64: the header of a limit set. -/
structure LimitHeader where
  phase       : Int
  tolerance   : Int
  persistence : Nat
  presence    : Int
  voidPercent : Nat
  bandCount   : Nat
  deriving DecidableEq, Repr

/-- R64: a header after power-on reset. -/
def LimitHeader.reset : LimitHeader := ⟨0, 0, 0, 0, 0, 1⟩

/-- R65: a band entry. -/
structure Band where
  fLo         : Nat
  fHi         : Nat
  gLo         : Int
  gHi         : Int
  dnMax       : Int
  rbMax       : Int
  margin      : Int
  persistence : Nat
  deriving DecidableEq, Repr

/-- R65: a band after power-on reset. -/
def Band.reset : Band := ⟨0, 0, 0, 0, 0, 0, 0, 0⟩

structure LimitSet where
  header : LimitHeader
  bands  : Vector Band 32
  deriving DecidableEq, Repr

/-- R64, R65: a limit set after power-on reset. -/
def LimitSet.reset : LimitSet := ⟨LimitHeader.reset, Vector.replicate 32 Band.reset⟩

/-- R71: the tally of one band. -/
structure BandTally where
  judged             : Nat
  void               : Nat
  respExceed         : Nat
  dnExceed           : Nat
  rbExceed           : Nat
  responseDeclared   : Bool
  distortionDeclared : Bool
  rubDeclared        : Bool
  deriving DecidableEq, Repr

/-- R72. -/
def BandTally.zero : BandTally := ⟨0, 0, 0, 0, 0, false, false, false⟩

/-- R71: the tally record of a nest. -/
structure Tally where
  bands         : Vector BandTally 32
  polarityWrong : Nat
  presence      : Bool
  unbanded      : Nat
  judged        : Nat
  void          : Nat
  deriving DecidableEq, Repr

/-- R72: every count 0 and every flag clear. -/
def Tally.zero : Tally := ⟨Vector.replicate 32 BandTally.zero, 0, false, 0, 0, 0⟩

structure Judgement where
  sets  : Vector LimitSet 8
  tally : Vector Tally 8
  deriving DecidableEq, Repr

/-! ### Ticket Controller (TKC) -/

/-- R117: classes. -/
inductive Cls where
  | pass | marginal | polarity | response | distortion | rub | void | abort
  deriving DecidableEq, Repr

/-- 0.7, R131: stages. -/
inductive Stage where
  | entry | polarity | sweep | review | close
  deriving DecidableEq, Repr

/-- R93: the standing of the current attempt. -/
inductive Disp where
  | opened | marginal | retest | reject | abort
  deriving DecidableEq, Repr

/-- R93: final dispositions. -/
inductive FinalDisp where
  | pass | reject | abort
  deriving DecidableEq, Repr

/-- R85: a defect record. -/
structure Defect where
  cls          : Cls
  band         : Option Nat
  fcode        : Nat
  value        : Int
  limit        : Int
  programBlock : Nat
  deriving DecidableEq, Repr

/-- R86: the later-class set, by the four rejecting classes. -/
structure ClassSet where
  polarity   : Bool
  response   : Bool
  distortion : Bool
  rub        : Bool
  deriving DecidableEq, Repr

/-- R86: no class. -/
def ClassSet.empty : ClassSet := ⟨false, false, false, false⟩

/-- R93: the final disposition with its stage and class. -/
structure Final where
  disp  : FinalDisp
  stage : Stage
  cls   : Cls
  deriving DecidableEq, Repr

/-- R118: a bin-map entry. -/
structure BinEntry where
  bin     : Fin 32
  pattern : Fin 64
  good    : Bool
  deriving DecidableEq, Repr

/-- R118: an entry after power-on reset. -/
def BinEntry.reset : BinEntry := ⟨0, 0, false⟩

/-- R93, R122: a ticket; `entry` is the verdict entry. -/
structure Ticket where
  serial      : Nat
  lotId       : Nat
  attempt     : Nat
  disp        : Disp
  dispStage   : Option Stage
  dispClass   : Option Cls
  marginal    : Bool
  firstDefect : Option Defect
  later       : ClassSet
  lastDriven  : Option Nat
  lastJudged  : Option Nat
  final       : Option Final
  entry       : Option BinEntry
  deriving DecidableEq, Repr

/-- 6.3: nest states. -/
inductive NestState where
  | disabled | vacant | entry | sweep | drain | retestWait | report | unload | held
  deriving DecidableEq, Repr

/-- R88: start modes. -/
inductive StartMode where
  | auto | manual
  deriving DecidableEq, Repr

/-- R88: whether the sensor events act. -/
inductive SensorUse where
  | used | ignored
  deriving DecidableEq, Repr

/-- R90: the debounced sensor level. -/
inductive Level where
  | opened | closed
  deriving DecidableEq, Repr

/-- R93: TKC's view of the nest's sweep. -/
inductive DriveStatus where
  | idle | starting | running
  deriving DecidableEq, Repr

/-- R88 to R96, R113, R123: a nest.  Its enable field is read from `state` (R88). -/
structure Nest where
  startMode      : StartMode
  sensor         : SensorUse
  debounce       : Nat
  delay          : Nat
  state          : NestState
  level          : Level
  /-- The raw sensor level as last sampled (R90). -/
  raw            : Level
  steady         : Nat
  /-- MODEL'S OWN: the steady count reached the debounce at the latest frame-end, and the close or
  open event it makes has not been taken. -/
  eventDue       : Bool
  timer          : Nat
  /-- MODEL'S OWN: the stamp of the boundary at which the timer expired, until the expiry is acted on. -/
  expiry         : Option Nat
  ticket         : Option Ticket
  drive          : DriveStatus
  rejectRun      : Nat
  disablePending : Bool
  /-- R123: the verdict line is high. -/
  verdict        : Bool
  deriving DecidableEq, Repr

/-- R88, R116: a nest after power-on or warm reset.  The two levels are those of frame 0, which the
first frame-end sets (R90); until then they read OPEN (DESIGN CHOICE, assumption log 5). -/
def Nest.reset : Nest :=
  { startMode := .auto, sensor := .used, debounce := 960, delay := 0, state := .disabled, level := .opened,
    raw := .opened, steady := 0, eventDue := false, timer := 0, expiry := none, ticket := none, drive := .idle,
    rejectRun := 0, disablePending := false, verdict := false }

structure TicketCtl where
  nests       : Vector Nest 8
  linkView    : LinkState
  reportWait  : Nat
  unloadLimit : Nat
  deriving DecidableEq, Repr

/-! ### Bin and Marker Unit (BMU) -/

/-- R125: a marker job. -/
structure MarkerJob where
  pattern : Fin 64
  serial  : Nat
  nest    : NestId
  deriving DecidableEq, Repr

/-- R126: states of the sequencer. -/
inductive PortState where
  | idle | waiting | setup | strobe | gap
  deriving DecidableEq, Repr

structure BinMarker where
  binMap      : Vector BinEntry 256
  queue       : List MarkerJob
  port        : PortState
  /-- R127: the stamp t at whose frame-end the job started. -/
  jobStart    : Nat
  /-- R127: the strobe width in force for the job. -/
  jobWidth    : Nat
  /-- R127: the gap in force for the job. -/
  jobGap      : Nat
  /-- R126: READY as last sampled. -/
  ready       : Bool
  timer       : Nat
  /-- MODEL'S OWN: the stamp at which the marker-wait timer expired, until the expiry is acted on. -/
  expiry      : Option Nat
  strobeWidth : Nat
  gap         : Nat
  markerWait  : Nat
  deriving DecidableEq, Repr

/-! ### Yield Counters (YCT) -/

/-- R135: the seven counters of a nest. -/
structure NestCounters where
  tested    : Nat
  passed    : Nat
  marginal  : Nat
  rejected  : Nat
  aborted   : Nat
  retests   : Nat
  untallied : Nat
  deriving DecidableEq, Repr

/-- R146. -/
def NestCounters.zero : NestCounters := ⟨0, 0, 0, 0, 0, 0, 0⟩

/-- R135: the 92 counters. -/
structure Counters where
  bins       : Vector Nat 32
  nests      : Vector NestCounters 8
  tickets    : Nat
  guardTrips : Nat
  voidBlocks : Nat
  cellErrors : Nat
  deriving DecidableEq, Repr

/-- R146. -/
def Counters.zero : Counters :=
  ⟨Vector.replicate 32 0, Vector.replicate 8 NestCounters.zero, 0, 0, 0, 0⟩

structure Yield where
  live    : Counters
  snap    : Counters
  present : Bool
  number  : Byte
  cleared : Bool
  deriving DecidableEq, Repr

/-- R146: YCT after power-on or warm reset. -/
def Yield.reset : Yield := ⟨Counters.zero, Counters.zero, false, 0, false⟩

/-! ### Lot Controller (LTC) -/

/-- R147: line states. -/
inductive LineState where
  | noLot | opened | closing | closed
  deriving DecidableEq, Repr

/-- R121: key modes. -/
inductive KeyMode where
  | cls | clsNest | clsAttempt
  deriving DecidableEq, Repr

/-- R148: the lot binding record. -/
structure Binding where
  lotId        : Nat
  firstSegment : Fin 256
  primarySet   : Fin 8
  retestSet    : Option (Fin 8)
  binBase      : Nat
  keyMode      : KeyMode
  attemptLimit : Nat
  tallyPoint   : Stage
  earlyOut     : Bool
  nextSerial   : Nat
  firstSerial  : Nat
  rejectRun    : Nat
  entryDelay   : Nat
  retestDelay  : Nat
  chain        : List (Fin 256)
  totalBlocks  : Nat
  firstBlocks  : List Nat
  deriving DecidableEq, Repr

structure LotCtl where
  line        : LineState
  binding     : Option Binding
  segFrozen   : Vector Bool 256
  setFrozen   : Vector Bool 8
  binFrozen   : Vector Bool 256
  ticketCount : Nat
  aborted     : Bool
  deriving DecidableEq, Repr

/-- R160: LTC after every reset. -/
def LotCtl.reset : LotCtl :=
  { line := .noLot, binding := none, segFrozen := Vector.replicate 256 false,
    setFrozen := Vector.replicate 8 false, binFrozen := Vector.replicate 256 false, ticketCount := 0,
    aborted := false }

/-! ### Fault Log (FLG) -/

/-- R161: fault kinds. -/
inductive FaultKind where
  | nestStuck | unitPulled | reportStall | markerStall | rejectRun | guardStorm | frontLost | cellCheck
  | requestOverrun | noticeOverflow
  deriving DecidableEq, Repr

/-- R161, R162: a fault record, and what a raising carries. -/
structure FaultRecord where
  kind   : FaultKind
  stamp  : Nat
  nest   : Option NestId
  serial : Option Nat
  detail : Half
  deriving DecidableEq, Repr

/-- Chapter 10: the held-ticket reference. -/
structure HeldRef where
  nest   : NestId
  serial : Nat
  deriving DecidableEq, Repr

structure FaultLog where
  first    : Option FaultRecord
  /-- The next-fault set, bit k for kind code k (R193). -/
  next     : Half
  held     : Option HeldRef
  /-- The line-stop output is asserted. -/
  lineStop : Bool
  armed    : Bool
  /-- R165: the stop mask, bit k for kind code k (R193). -/
  stopMask : Half
  deriving DecidableEq, Repr

/-- R165: the default stop mask, kinds 1 to 7. -/
def FaultLog.defaultMask : Half := 0x00FE

/-- R174: FLG after power-on reset. -/
def FaultLog.reset : FaultLog := ⟨none, 0, none, false, true, FaultLog.defaultMask⟩

/-! ### Service Controller (SVC) -/

/-- R176: a service cell; its words, padding and checksum follow from these three. -/
structure Cell where
  type    : Byte
  tag     : Byte
  payload : List Byte
  deriving DecidableEq, Repr

/-- R177: states of the assembler. -/
inductive AsmState where
  | waiting | assembling | discarding
  deriving DecidableEq, Repr

/-- R188: where the cell in progress came from. -/
inductive UpSource where
  | reply | notice | report
  deriving DecidableEq, Repr

/-- Chapter 11: the upstream cell in progress and the index of its next word. -/
structure UpCell where
  source : UpSource
  cell   : Cell
  index  : Nat
  deriving DecidableEq, Repr

structure Service where
  asm       : AsmState
  asmWords  : Nat
  asmBytes  : List Byte
  requests  : List Cell
  /-- The cells of the reply in the reply slot that are not yet sent. -/
  reply     : List Cell
  notices   : List Cell
  reports   : List Cell
  up        : Option UpCell
  /-- The management word of the upstream line link frame (R175). -/
  upWord    : Word
  /-- MODEL'S OWN: the upstream word of the next frame has been chosen at this frame-end. -/
  upChosen  : Bool
  noticeSeq : Byte
  reportSeq : Byte
  deriving DecidableEq, Repr

/-- R189: SVC after power-on or warm reset. -/
def Service.reset : Service :=
  { asm := .discarding, asmWords := 0, asmBytes := [], requests := [], reply := [], notices := [], reports := [],
    up := none, upWord := 0, upChosen := false, noticeSeq := 0, reportSeq := 0 }

/-! ### The machine -/

/-- The state of the part. -/
structure State where
  tmb     : TimeBase
  swg     : SweepGen
  fli     : FrontLink
  bka     : Vector Analysis 8
  gdm     : GuardMon
  jdu     : Judgement
  tkc     : TicketCtl
  bmu     : BinMarker
  yct     : Yield
  ltc     : LotCtl
  flg     : FaultLog
  svc     : Service
  /-- MODEL'S OWN: how many free values have been read (DESIGN CHOICE, assumption log 6). -/
  free    : Nat
  /-- The commands that wait, first in, first out. -/
  pending : List Instr
  deriving DecidableEq, Repr

/-- Reasons a command stops the model. -/
inductive Fault where
  /-- Raised by ANALYSIS_BLOCK_COMPLETE when the nest's pending block queue already holds 8 records.
  R48 says that the eighth place is never reached, and gives a ninth record no meaning.  Safe: the
  part never comes there (DESIGN CHOICE, assumption log 8). -/
  | pendingQueueFull
  deriving DecidableEq, Repr

/-- Reasons a command is refused. -/
inductive Refusal where
  /-- No meaning has been written for the command.  Raised by no command of this model.  Safe. -/
  | notModelled (mnemonic : String)
  deriving DecidableEq, Repr

/-- The machine right after power-on reset, every field at the value the rules of its block state, and the few that
no rule gives at the value of assumption log 17 (DESIGN CHOICE). -/
def State.reset : State where
  tmb := ⟨0, false, false, false⟩
  swg := ⟨Vector.replicate 256 Segment.empty, Vector.replicate 8 SweepCtx.reset, Vector.replicate 8 false⟩
  fli := { link := .searching, goodRun := 0, badRun := 0, absentCount := 0, lossStamp := none,
           mics := Vector.replicate 8 Sample.lost, guardMic := Sample.lost, driveSlots := Vector.replicate 8 0,
           taps := Vector.replicate 2 TapSlot.reset, lastOpened := none, tapsTaken := false }
  bka := Vector.replicate 8 Analysis.reset
  gdm := GuardMon.reset
  jdu := ⟨Vector.replicate 8 LimitSet.reset, Vector.replicate 8 Tally.zero⟩
  tkc := { nests := Vector.replicate 8 Nest.reset, linkView := .searching, reportWait := 200, unloadLimit := 1200 }
  bmu := { binMap := Vector.replicate 256 BinEntry.reset, queue := [], port := .idle, jobStart := 0, jobWidth := 0,
           jobGap := 0, ready := false, timer := 0, expiry := none, strobeWidth := 4800, gap := 4800,
           markerWait := 400 }
  yct := Yield.reset
  ltc := LotCtl.reset
  flg := FaultLog.reset
  svc := Service.reset
  free := 0
  pending := []

end Sys2Proof.Machine
end

