-- ==== Sys2Proof/Machine/Ops.lean ====
section
/-! DEFINITION. The operations every block shares: stamps and the block grid, and reading and replacing
what the state holds for one nest. -/

namespace Sys2Proof.Machine

open Sys2Proof

/-! ### Stamps -/

/-- R1: the stamp k frames after a. -/
def stampAdd (a k : Nat) : Nat := (a + k) % Config.stampRange

/-- R2: the elapsed time from stamp a to stamp b. -/
def elapsed (a b : Nat) : Nat := (b % Config.stampRange + Config.stampRange - a % Config.stampRange) % Config.stampRange

/-- R2: stamp b is at or after stamp a. -/
def atOrAfter (a b : Nat) : Bool := decide (elapsed a b < Config.halfRange)

/-- R3: the stamp is a global block boundary. -/
def onGrid (stamp : Nat) : Bool := stamp % Config.blockFrames == 0

/-- The stamp of the frame whose frame-end was taken last. -/
def State.lastFrame (s : State) : Nat := stampAdd s.tmb.stamp (Config.stampRange - 1)

/-- R161: the stamp of the present event: the boundary's once a step of the boundary has been taken,
and otherwise that of the frame whose end is being taken. -/
def State.now (s : State) : Nat :=
  if s.tmb.boundary || !s.tmb.framed then s.tmb.stamp else s.lastFrame

/-- R3: a global block boundary can be processed: the present frame is the first of a global block. -/
def State.atBoundary (s : State) : Bool := onGrid s.tmb.stamp

/-- A step of the boundary at the present stamp has been taken. -/
def State.markBoundary (s : State) : State := { s with tmb := { s.tmb with boundary := true } }

/-! ### What the state holds for one nest -/

def State.nest (s : State) (n : NestId) : Nest := s.tkc.nests[n]

def State.setNest (s : State) (n : NestId) (x : Nest) : State :=
  { s with tkc := { s.tkc with nests := s.tkc.nests.set n x } }

def State.ctx (s : State) (n : NestId) : SweepCtx := s.swg.ctx[n]

def State.setCtx (s : State) (n : NestId) (x : SweepCtx) : State :=
  { s with swg := { s.swg with ctx := s.swg.ctx.set n x } }

/-- R15: SWG has processed the present boundary for nest n. -/
def State.setProcessed (s : State) (n : NestId) : State :=
  { s with swg := { s.swg with processed := s.swg.processed.set n true } }

def State.ana (s : State) (n : NestId) : Analysis := s.bka[n]

def State.setAna (s : State) (n : NestId) (x : Analysis) : State := { s with bka := s.bka.set n x }

def State.tally (s : State) (n : NestId) : Tally := s.jdu.tally[n]

def State.setTally (s : State) (n : NestId) (x : Tally) : State :=
  { s with jdu := { s.jdu with tally := s.jdu.tally.set n x } }

def State.setSvc (s : State) (x : Service) : State := { s with svc := x }

def State.setFlg (s : State) (x : FaultLog) : State := { s with flg := x }

def State.setLtc (s : State) (x : LotCtl) : State := { s with ltc := x }

def State.setBmu (s : State) (x : BinMarker) : State := { s with bmu := x }

def State.setGdm (s : State) (x : GuardMon) : State := { s with gdm := x }

def State.setFli (s : State) (x : FrontLink) : State := { s with fli := x }

def State.setYct (s : State) (x : Yield) : State := { s with yct := x }

/-- The eight nests, nest 0 first. -/
def allNests : List NestId := [0, 1, 2, 3, 4, 5, 6, 7]

/-- An operation on each nest in turn, nest 0 first. -/
@[irreducible] def State.eachNest (f : NestId → State → State) (s : State) : State :=
  allNests.foldl (fun s n => f n s) s

/-- R91: the nest holds a ticket by its state. -/
def NestState.holdsTicket : NestState → Bool
  | .disabled => false
  | .vacant => false
  | .entry => true
  | .sweep => true
  | .drain => true
  | .retestWait => true
  | .report => true
  | .unload => true
  | .held => true

/-- R96: entry into a nest state that holds no timer limit sets the timer to 0; the four others load it. -/
def Nest.enter (x : Nest) (st : NestState) (timer : Nat) : Nest :=
  { x with state := st, timer := timer, expiry := none }

/-- The lot binding's fields that a ticket's steps read; a ticket exists only in OPEN and CLOSING, where
the record is present (R148). -/
def State.lot (s : State) : Option Binding := s.ltc.binding

end Sys2Proof.Machine
end

