-- ==== Sys2Proof/Machine/Flags.lean ====
section
/-! DEFINITION. Codes, flag bytes and bit sets: the numbers by which R192 and R193 carry names, the
fault kind sets, and the order of stages. -/

namespace Sys2Proof.Machine

open Sys2Proof

/-- R192, R117. -/
def Cls.code : Cls → Nat
  | .pass => 0 | .marginal => 1 | .polarity => 2 | .response => 3 | .distortion => 4 | .rub => 5 | .void => 6
  | .abort => 7

/-- R131. -/
def Stage.code : Stage → Nat
  | .entry => 0 | .polarity => 1 | .sweep => 2 | .review => 3 | .close => 4

/-- R192. -/
def Disp.code : Disp → Nat
  | .opened => 0 | .marginal => 1 | .retest => 2 | .reject => 3 | .abort => 4

/-- R192. -/
def FinalDisp.code : FinalDisp → Nat
  | .pass => 5 | .reject => 3 | .abort => 4

/-- R161. -/
def FaultKind.code : FaultKind → Nat
  | .nestStuck => 1 | .unitPulled => 2 | .reportStall => 3 | .markerStall => 4 | .rejectRun => 5
  | .guardStorm => 6 | .frontLost => 7 | .cellCheck => 8 | .requestOverrun => 9 | .noticeOverflow => 10

/-- R161: the kinds that capture a ticket. -/
def FaultKind.captures : FaultKind → Bool
  | .nestStuck => true
  | .unitPulled => true
  | .reportStall => false
  | .markerStall => false
  | .rejectRun => false
  | .guardStorm => false
  | .frontLost => false
  | .cellCheck => false
  | .requestOverrun => false
  | .noticeOverflow => false

/-- R193: a kind is in a fault kind set. -/
def hasKind (set : Half) (k : FaultKind) : Bool := set.getLsbD k.code

/-- R193: the set with one kind only. -/
def kindBit (k : FaultKind) : Half := 1#16 <<< k.code

/-- R193: a set bit 0 or 11 to 15 names a code outside 1 to 10. -/
def kindSetInRange (set : Half) : Bool := set &&& 0xF801 == 0

/-- R193. -/
def LineState.code : LineState → Nat
  | .noLot => 0 | .opened => 1 | .closing => 2 | .closed => 3

/-- R193. -/
def LinkState.code : LinkState → Nat
  | .searching => 0 | .locked => 1

/-- R193. -/
def NestState.code : NestState → Nat
  | .disabled => 0 | .vacant => 1 | .entry => 2 | .sweep => 3 | .drain => 4 | .retestWait => 5 | .report => 6
  | .unload => 7 | .held => 8

/-- R193. -/
def Level.code : Level → Nat
  | .opened => 0 | .closed => 1

/-- R193. -/
def StartMode.code : StartMode → Nat
  | .auto => 0 | .manual => 1

/-- R193. -/
def SensorUse.code : SensorUse → Nat
  | .used => 0 | .ignored => 1

/-- R193. -/
def SegType.code : SegType → Nat
  | .unused => 0 | .presence => 1 | .polarity => 2 | .measure => 3 | .quiet => 4

/-- R193. -/
def Law.code : Law → Nat
  | .step => 0 | .log => 1

/-- R193: the code of a tap source. -/
def TapSource.code : TapSource → Nat
  | .off => 0 | .mic _ => 1 | .guard => 2 | .drive _ => 3 | .resid _ => 4 | .follow => 5

/-- R193: the nest byte of a tap source, 0 for a source without a nest. -/
def TapSource.nestCode : TapSource → Nat
  | .off => 0 | .mic n => n | .guard => 0 | .drive n => n | .resid n => n | .follow => 0

/-- R193: no or clear 0, yes or set 1. -/
def boolCode (b : Bool) : Nat := if b then 1 else 0

/-- A flags byte: bit k is the k-th of the list. -/
def flagByte : List Bool → Nat
  | [] => 0
  | b :: rest => boolCode b + 2 * flagByte rest

/-- R86: a class joins the later-class set. -/
def ClassSet.add (cs : ClassSet) (c : Cls) : ClassSet :=
  match c with
  | .polarity => { cs with polarity := true }
  | .response => { cs with response := true }
  | .distortion => { cs with distortion := true }
  | .rub => { cs with rub := true }
  | .pass => cs
  | .marginal => cs
  | .void => cs
  | .abort => cs

/-- R192: bit c set for class code c. -/
def ClassSet.code (cs : ClassSet) : Nat :=
  flagByte [false, false, cs.polarity, cs.response, cs.distortion, cs.rub]

/-- R137: a verdict at this stage is tallied at this tally point. -/
def talliedAt (stage point : Stage) : Bool := decide (point.code ≤ stage.code)

end Sys2Proof.Machine
end

