-- ==== Sys2Proof/Machine/Operands.lean ====
section
/-! DEFINITION. Bytes, cells and requests (R175, R176, R182, R190, R193): the byte order, the words of a
cell, the payload of each request and its reading, and the reading of codes into names with the
ranges the owners state. -/

namespace Sys2Proof.Machine

open Sys2Proof

/-! ### Bytes: high byte first, signed fields in two's complement (R190) -/

def byte (x : Nat) : List Byte := [BitVec.ofNat 8 x]

def bytes2 (x : Nat) : List Byte := byte (x / 2 ^ 8) ++ byte x

def bytes3 (x : Nat) : List Byte := byte (x / 2 ^ 16) ++ bytes2 x

def bytes4 (x : Nat) : List Byte := bytes2 (x / 2 ^ 16) ++ bytes2 x

def signed2 (x : Int) : List Byte := bytes2 (BitVec.ofInt 16 x).toNat

def halfBytes (x : Half) : List Byte := [x.extractLsb' 8 8, x.extractLsb' 0 8]

def tripleBytes (x : Triple) : List Byte := [x.extractLsb' 16 8, x.extractLsb' 8 8, x.extractLsb' 0 8]

def wordBytes (x : Word) : List Byte :=
  [x.extractLsb' 24 8, x.extractLsb' 16 8, x.extractLsb' 8 8, x.extractLsb' 0 8]

/-- The byte at a place of a payload. -/
def byteAt (p : List Byte) (k : Nat) : Byte := p.getD k 0

def halfAt (p : List Byte) (k : Nat) : Half := byteAt p k ++ byteAt p (k + 1)

def tripleAt (p : List Byte) (k : Nat) : Triple := byteAt p k ++ byteAt p (k + 1) ++ byteAt p (k + 2)

def wordAt (p : List Byte) (k : Nat) : Word :=
  byteAt p k ++ byteAt p (k + 1) ++ byteAt p (k + 2) ++ byteAt p (k + 3)

/-- The sum of bytes modulo 65,536, each taken as unsigned (R22, R23, R176). -/
def byteSum (bs : List Byte) : Nat := (bs.map BitVec.toNat).sum % 65536

/-! ### Cells (R176) and management words (R190) -/

/-- R176: the words of a cell of payload length P. -/
def cellWordCount (p : Nat) : Nat := (p + 5 + 2) / 3

/-- R176: the content bytes before the checksum, padding 0 included. -/
def Cell.body (c : Cell) : List Byte :=
  let head := [c.type, c.tag, BitVec.ofNat 8 c.payload.length] ++ c.payload
  head ++ List.replicate (3 * cellWordCount c.payload.length - 2 - head.length) 0

/-- R176: the content bytes of a cell. -/
def Cell.content (c : Cell) : List Byte := c.body ++ bytes2 (byteSum c.body)

/-- R190: the number of words of a cell. -/
def Cell.wordCount (c : Cell) : Nat := cellWordCount c.payload.length

/-- R190: word k of a cell, counted from 0. -/
def Cell.word (c : Cell) (k : Nat) : Word :=
  let kind : BitVec 2 := if k = 0 then 1 else if k + 1 = c.wordCount then 3 else 2
  kind ++ (0#6) ++ byteAt c.content (3 * k) ++ byteAt c.content (3 * k + 1) ++ byteAt c.content (3 * k + 2)

/-- R175, R190: an IDLE word. -/
def idleWord : Word := 0

/-- R190: kinds of management words. -/
inductive WordKind where
  | idle | first | middle | last
  deriving DecidableEq, Repr

/-- R190: bits 31 and 30. -/
def wordKind (w : Word) : WordKind :=
  match w.toNat / 2 ^ 30 with
  | 0 => .idle
  | 1 => .first
  | 2 => .middle
  | _ => .last

/-- R190: the three content bytes; bits 29 to 24 are passed over. -/
def wordContent (w : Word) : List Byte := [w.extractLsb' 16 8, w.extractLsb' 8 8, w.extractLsb' 0 8]

/-! ### Results and replies (R182) -/

inductive Result where
  | ok | badParam | badState | frozen | notHeld | unknown
  deriving DecidableEq, Repr

def Result.code : Result → Nat
  | .ok => 0 | .badParam => 1 | .badState => 2 | .frozen => 3 | .notHeld => 4 | .unknown => 5

/-- The result and the content that follows it from payload byte 1. -/
structure Reply where
  result  : Result
  content : List Byte
  deriving DecidableEq, Repr

/-- R193: a reply that carries the result alone. -/
def Reply.bare (r : Result) : Reply := ⟨r, []⟩

/-- R182: the reply type of a request type. -/
def replyType (type : Byte) : Byte := if type.toNat ≤ 127 then type + 128 else 255

/-- R182: 127, REPLY_MORE. -/
def replyMore : Byte := 127

/-- R182: the cells of the further payload bytes. -/
def moreCells (tag : Byte) : Nat → List Byte → List Cell
  | 0, _ => []
  | _ + 1, [] => []
  | fuel + 1, b :: rest => ⟨replyMore, tag, (b :: rest).take 90⟩ :: moreCells tag fuel ((b :: rest).drop 90)

/-- R182: the cells of a reply, 1 to 3 of them. -/
def Reply.cells (r : Reply) (type tag : Byte) : List Cell :=
  let payload := byte r.result.code ++ r.content
  ⟨replyType type, tag, payload.take 90⟩ :: moreCells tag 2 (payload.drop 90)

/-! ### Requests (R181, R193) -/

/-- The requests of the table of R181 with the fields of their payloads. -/
inductive Request where
  | status
  | writeSegment (index : Byte) (entry : SegmentFields)
  | readSegment (index : Byte)
  | writeLimitHeader (set : Byte) (header : HeaderFields)
  | writeBand (set index : Byte) (band : BandFields)
  | readLimit (set selector : Byte)
  | writeBinmap (first count : Byte) (entries : List BinFields)
  | readBinmap (first count : Byte)
  | writeNest (nest : Byte) (fields : NestFields)
  | readNest (nest : Byte)
  | writeLine (fields : LineFields)
  | readLine
  | lotOpen (fields : LotFields)
  | lotClose
  | lotAbort
  | nestStart (nest : Byte)
  | nestEnable (nest : Byte)
  | nestDisable (nest : Byte)
  | releaseTicket (nest : Byte)
  | readTicket (nest first count : Byte)
  | readCounters (page flags : Byte)
  | readFaults
  | clearFaults (flags : Byte) (kinds : Half)
  | resumeLine
  | setTap (slot source nest : Byte)
  | lineReset
  deriving DecidableEq, Repr

/-- R181: the type of a request. -/
def Request.type : Request → Byte
  | .status => 1
  | .writeSegment _ _ => 2
  | .readSegment _ => 3
  | .writeLimitHeader _ _ => 4
  | .writeBand _ _ _ => 5
  | .readLimit _ _ => 6
  | .writeBinmap _ _ _ => 7
  | .readBinmap _ _ => 8
  | .writeNest _ _ => 9
  | .readNest _ => 10
  | .writeLine _ => 11
  | .readLine => 12
  | .lotOpen _ => 13
  | .lotClose => 14
  | .lotAbort => 15
  | .nestStart _ => 16
  | .nestEnable _ => 17
  | .nestDisable _ => 18
  | .releaseTicket _ => 19
  | .readTicket _ _ _ => 20
  | .readCounters _ _ => 21
  | .readFaults => 22
  | .clearFaults _ _ => 23
  | .resumeLine => 24
  | .setTap _ _ _ => 25
  | .lineReset => 26

def segmentFieldBytes (f : SegmentFields) : List Byte :=
  [f.type, f.law] ++ tripleBytes f.fStart ++ tripleBytes f.fEnd ++ halfBytes f.level ++ halfBytes f.duration ++
    halfBytes f.settle ++ halfBytes f.next

def headerFieldBytes (f : HeaderFields) : List Byte :=
  halfBytes f.phase ++ halfBytes f.tolerance ++ [f.persistence] ++ halfBytes f.presence ++ [f.voidPercent, f.bandCount]

def bandFieldBytes (f : BandFields) : List Byte :=
  tripleBytes f.fLo ++ tripleBytes f.fHi ++ halfBytes f.gLo ++ halfBytes f.gHi ++ halfBytes f.dnMax ++
    halfBytes f.rbMax ++ [f.margin, f.persistence]

def binFieldBytes (f : BinFields) : List Byte := [f.bin, f.pattern, f.good]

def lineFieldBytes (f : LineFields) : List Byte :=
  halfBytes f.threshold ++ halfBytes f.pre ++ halfBytes f.post ++ halfBytes f.reportWait ++ halfBytes f.unloadLimit ++
    halfBytes f.strobeWidth ++ halfBytes f.gap ++ halfBytes f.markerWait ++ halfBytes f.stopMask

def lotFieldBytes (f : LotFields) : List Byte :=
  wordBytes f.lotId ++
    [f.firstSegment, f.primarySet, f.retestSet, f.binBase, f.keyMode, f.attemptLimit, f.tallyPoint, f.earlyOut] ++
    wordBytes f.firstSerial ++ [f.rejectRun, f.entryDelay, f.retestDelay]

/-- R193: the payload of a request. -/
def Request.payload : Request → List Byte
  | .status => []
  | .writeSegment index e => index :: segmentFieldBytes e
  | .readSegment index => [index]
  | .writeLimitHeader set h => set :: headerFieldBytes h
  | .writeBand set index b => set :: index :: bandFieldBytes b
  | .readLimit set selector => [set, selector]
  | .writeBinmap first count es => first :: count :: es.flatMap binFieldBytes
  | .readBinmap first count => [first, count]
  | .writeNest nest f => [nest, f.startMode, f.sensor] ++ halfBytes f.debounce ++ halfBytes f.delay
  | .readNest nest => [nest]
  | .writeLine f => lineFieldBytes f
  | .readLine => []
  | .lotOpen f => lotFieldBytes f
  | .lotClose => []
  | .lotAbort => []
  | .nestStart nest => [nest]
  | .nestEnable nest => [nest]
  | .nestDisable nest => [nest]
  | .releaseTicket nest => [nest]
  | .readTicket nest first count => [nest, first, count]
  | .readCounters page flags => [page, flags]
  | .readFaults => []
  | .clearFaults flags kinds => flags :: halfBytes kinds
  | .resumeLine => []
  | .setTap slot source nest => [slot, source, nest]
  | .lineReset => []

/-- R193: the length that R181 tests; that of WRITE_BINMAP depends on the count the payload carries. -/
def requestLength (type : Byte) (payload : List Byte) : Nat :=
  match type.toNat with
  | 2 => 17
  | 3 => 1
  | 4 => 10
  | 5 => 18
  | 6 => 2
  | 7 =>
    let count := (byteAt payload 1).toNat
    if 2 ≤ payload.length ∧ 1 ≤ count ∧ count ≤ 8 then 2 + 3 * count else 2
  | 8 => 2
  | 9 => 7
  | 10 => 1
  | 11 => 18
  | 13 => 19
  | 16 => 1
  | 17 => 1
  | 18 => 1
  | 19 => 1
  | 20 => 3
  | 21 => 2
  | 23 => 3
  | 25 => 3
  | _ => 0

def segmentFieldsAt (p : List Byte) (k : Nat) : SegmentFields :=
  { type := byteAt p k, law := byteAt p (k + 1), fStart := tripleAt p (k + 2), fEnd := tripleAt p (k + 5),
    level := halfAt p (k + 8), duration := halfAt p (k + 10), settle := halfAt p (k + 12), next := halfAt p (k + 14) }

def headerFieldsAt (p : List Byte) (k : Nat) : HeaderFields :=
  { phase := halfAt p k, tolerance := halfAt p (k + 2), persistence := byteAt p (k + 4), presence := halfAt p (k + 5),
    voidPercent := byteAt p (k + 7), bandCount := byteAt p (k + 8) }

def bandFieldsAt (p : List Byte) (k : Nat) : BandFields :=
  { fLo := tripleAt p k, fHi := tripleAt p (k + 3), gLo := halfAt p (k + 6), gHi := halfAt p (k + 8),
    dnMax := halfAt p (k + 10), rbMax := halfAt p (k + 12), margin := byteAt p (k + 14), persistence := byteAt p (k + 15) }

/-- The first `count` entries of a list of three-byte entries. -/
def binFieldsFrom (p : List Byte) (k : Nat) : Nat → List BinFields
  | 0 => []
  | count + 1 => ⟨byteAt p k, byteAt p (k + 1), byteAt p (k + 2)⟩ :: binFieldsFrom p (k + 3) count

def lineFieldsAt (p : List Byte) : LineFields :=
  { threshold := halfAt p 0, pre := halfAt p 2, post := halfAt p 4, reportWait := halfAt p 6, unloadLimit := halfAt p 8,
    strobeWidth := halfAt p 10, gap := halfAt p 12, markerWait := halfAt p 14, stopMask := halfAt p 16 }

def lotFieldsAt (p : List Byte) : LotFields :=
  { lotId := wordAt p 0, firstSegment := byteAt p 4, primarySet := byteAt p 5, retestSet := byteAt p 6,
    binBase := byteAt p 7, keyMode := byteAt p 8, attemptLimit := byteAt p 9, tallyPoint := byteAt p 10,
    earlyOut := byteAt p 11, firstSerial := wordAt p 12, rejectRun := byteAt p 16, entryDelay := byteAt p 17,
    retestDelay := byteAt p 18 }

/-- What SVC finds in a cell it takes (R181). -/
inductive Parsed where
  | unknown
  | short
  | request (r : Request)
  deriving DecidableEq, Repr

/-- The request a payload of sufficient length carries, by its type (R193). -/
def requestOf (type : Byte) (p : List Byte) : Parsed :=
  match type.toNat with
  | 1 => .request .status
  | 2 => .request (.writeSegment (byteAt p 0) (segmentFieldsAt p 1))
  | 3 => .request (.readSegment (byteAt p 0))
  | 4 => .request (.writeLimitHeader (byteAt p 0) (headerFieldsAt p 1))
  | 5 => .request (.writeBand (byteAt p 0) (byteAt p 1) (bandFieldsAt p 2))
  | 6 => .request (.readLimit (byteAt p 0) (byteAt p 1))
  | 7 =>
    let count := (byteAt p 1).toNat
    .request (.writeBinmap (byteAt p 0) (byteAt p 1) (if count ≤ 8 then binFieldsFrom p 2 count else []))
  | 8 => .request (.readBinmap (byteAt p 0) (byteAt p 1))
  | 9 =>
    .request (.writeNest (byteAt p 0)
      { startMode := byteAt p 1, sensor := byteAt p 2, debounce := halfAt p 3, delay := halfAt p 5 })
  | 10 => .request (.readNest (byteAt p 0))
  | 11 => .request (.writeLine (lineFieldsAt p))
  | 12 => .request .readLine
  | 13 => .request (.lotOpen (lotFieldsAt p))
  | 14 => .request .lotClose
  | 15 => .request .lotAbort
  | 16 => .request (.nestStart (byteAt p 0))
  | 17 => .request (.nestEnable (byteAt p 0))
  | 18 => .request (.nestDisable (byteAt p 0))
  | 19 => .request (.releaseTicket (byteAt p 0))
  | 20 => .request (.readTicket (byteAt p 0) (byteAt p 1) (byteAt p 2))
  | 21 => .request (.readCounters (byteAt p 0) (byteAt p 1))
  | 22 => .request .readFaults
  | 23 => .request (.clearFaults (byteAt p 0) (halfAt p 1))
  | 24 => .request .resumeLine
  | 25 => .request (.setTap (byteAt p 0) (byteAt p 1) (byteAt p 2))
  | 26 => .request .lineReset
  | _ => .unknown

/-- R181: the reading of a taken cell. -/
def Request.parse (type : Byte) (payload : List Byte) : Parsed :=
  if type.toNat = 0 ∨ 26 < type.toNat then .unknown
  else if payload.length < requestLength type payload then .short
  else requestOf type payload

/-- The cell of a request with a tag. -/
def Request.cell (r : Request) (tag : Byte) : Cell := ⟨r.type, tag, r.payload⟩

/-! ### Names from codes, with the ranges their owners state -/

/-- A byte that names a nest 0 to 7. -/
def nestOf (b : Byte) : Option NestId := if h : b.toNat < 8 then some ⟨b.toNat, h⟩ else none

/-- A byte that names a limit set 0 to 7. -/
def limitSetOf (b : Byte) : Option (Fin 8) := if h : b.toNat < 8 then some ⟨b.toNat, h⟩ else none

/-- A byte that names a band 0 to 31. -/
def bandOf (b : Byte) : Option (Fin 32) := if h : b.toNat < 32 then some ⟨b.toNat, h⟩ else none

/-- Every byte names an entry of a table of 256. -/
def entryOf (b : Byte) : Fin 256 := ⟨b.toNat, b.isLt⟩

def inRange (lo hi x : Int) : Bool := decide (lo ≤ x ∧ x ≤ hi)

/-- R193: no 0, yes 1. -/
def boolOf (b : Byte) : Option Bool :=
  match b.toNat with
  | 0 => some false
  | 1 => some true
  | _ => none

def segTypeOf (b : Byte) : Option SegType :=
  match b.toNat with
  | 0 => some .unused
  | 1 => some .presence
  | 2 => some .polarity
  | 3 => some .measure
  | 4 => some .quiet
  | _ => none

def lawOf (b : Byte) : Option Law :=
  match b.toNat with
  | 0 => some .step
  | 1 => some .log
  | _ => none

/-- R193: entry 0 to 255, END 65,535; any other code is out of range. -/
def nextOf (x : Half) : Option (Option (Fin 256)) :=
  if h : x.toNat < 256 then some (some ⟨x.toNat, h⟩) else if x.toNat = 65535 then some none else none

/-- R5, R6: the entry that the fields describe, when each lies in its range. -/
def segmentOf (f : SegmentFields) : Option Segment :=
  match segTypeOf f.type, lawOf f.law, nextOf f.next with
  | some type, some law, some next =>
    let e : Segment :=
      { type := type, law := law, fStart := f.fStart.toNat, fEnd := f.fEnd.toNat, level := f.level.toInt,
        duration := f.duration.toNat, settle := f.settle.toNat, next := next }
    if inRange 100 400000 e.fStart && inRange 100 400000 e.fEnd && inRange (-600) 0 e.level &&
        inRange 1 4095 e.duration && decide (e.settle < e.duration) then some e else none
  | _, _, _ => none

/-- R64: every field of a header in its range. -/
def LimitHeader.inRange (h : LimitHeader) : Bool :=
  Machine.inRange (-1800) 1799 h.phase && Machine.inRange 0 900 h.tolerance && Machine.inRange 1 15 h.persistence &&
    Machine.inRange (-1400) 600 h.presence && Machine.inRange 0 100 h.voidPercent && Machine.inRange 1 32 h.bandCount

/-- The header that the fields describe. -/
def headerOf (f : HeaderFields) : LimitHeader :=
  { phase := f.phase.toInt, tolerance := f.tolerance.toNat, persistence := f.persistence.toNat,
    presence := f.presence.toInt, voidPercent := f.voidPercent.toNat, bandCount := f.bandCount.toNat }

/-- R65: every field of a band in its range. -/
def Band.inRange (b : Band) : Bool :=
  Machine.inRange 100 400000 b.fLo && Machine.inRange 100 400000 b.fHi && Machine.inRange (-1400) 600 b.gLo &&
    Machine.inRange (-1400) 600 b.gHi && Machine.inRange (-1400) 400 b.dnMax && Machine.inRange (-1400) 400 b.rbMax &&
    Machine.inRange 0 60 b.margin && Machine.inRange 1 15 b.persistence

/-- The band that the fields describe. -/
def bandFrom (f : BandFields) : Band :=
  { fLo := f.fLo.toNat, fHi := f.fHi.toNat, gLo := f.gLo.toInt, gHi := f.gHi.toInt, dnMax := f.dnMax.toInt,
    rbMax := f.rbMax.toInt, margin := f.margin.toNat, persistence := f.persistence.toNat }

/-- R118: the entry that the fields describe, when each lies in its values. -/
def binEntryOf (f : BinFields) : Option BinEntry :=
  match boolOf f.good with
  | some good =>
    if h : f.bin.toNat < 32 ∧ f.pattern.toNat < 64 then some ⟨⟨f.bin.toNat, h.1⟩, ⟨f.pattern.toNat, h.2⟩, good⟩
    else none
  | none => none

def startModeOf (b : Byte) : Option StartMode :=
  match b.toNat with
  | 0 => some .auto
  | 1 => some .manual
  | _ => none

def sensorOf (b : Byte) : Option SensorUse :=
  match b.toNat with
  | 0 => some .used
  | 1 => some .ignored
  | _ => none

def keyModeOf (b : Byte) : Option KeyMode :=
  match b.toNat with
  | 0 => some .cls
  | 1 => some .clsNest
  | 2 => some .clsAttempt
  | _ => none

/-- R137: the four stages a tally point may be. -/
def tallyPointOf (b : Byte) : Option Stage :=
  match b.toNat with
  | 0 => some .entry
  | 1 => some .polarity
  | 2 => some .sweep
  | 3 => some .review
  | _ => none

/-- R193: set 0 to 7, NONE 255. -/
def retestSetOf (b : Byte) : Option (Option (Fin 8)) :=
  match limitSetOf b with
  | some k => some (some k)
  | none => if b.toNat = 255 then some none else none

/-- R29, R193: the source a SET_TAP carries; the nest byte is read for MIC, DRIVE and RESID only. -/
def tapSourceOf (source nest : Byte) : Option TapSource :=
  match source.toNat with
  | 0 => some .off
  | 1 => (nestOf nest).map .mic
  | 2 => some .guard
  | 3 => (nestOf nest).map .drive
  | 4 => (nestOf nest).map .resid
  | 5 => some .follow
  | _ => none

/-- R148: the parameters a LOT_OPEN carries, when each lies in its values. -/
def lotParamsOf (f : LotFields) : Option Binding :=
  match limitSetOf f.primarySet, retestSetOf f.retestSet, keyModeOf f.keyMode, tallyPointOf f.tallyPoint,
    boolOf f.earlyOut with
  | some primary, some retest, some key, some point, some early =>
    if inRange 1 3 f.attemptLimit.toNat && decide (f.rejectRun.toNat ≤ 15) then
      some { lotId := f.lotId.toNat, firstSegment := entryOf f.firstSegment, primarySet := primary, retestSet := retest,
             binBase := f.binBase.toNat, keyMode := key, attemptLimit := f.attemptLimit.toNat, tallyPoint := point,
             earlyOut := early, nextSerial := f.firstSerial.toNat, firstSerial := f.firstSerial.toNat,
             rejectRun := f.rejectRun.toNat, entryDelay := f.entryDelay.toNat, retestDelay := f.retestDelay.toNat,
             chain := [], totalBlocks := 0, firstBlocks := [] }
    else none
  | _, _, _, _, _ => none

/-! ### The groups of R193 in replies -/

def Segment.bytes (e : Segment) : List Byte :=
  byte e.type.code ++ byte e.law.code ++ bytes3 e.fStart ++ bytes3 e.fEnd ++ signed2 e.level ++ bytes2 e.duration ++
    bytes2 e.settle ++ bytes2 (match e.next with | some k => k.val | none => 65535)

def LimitHeader.bytes (h : LimitHeader) : List Byte :=
  signed2 h.phase ++ signed2 h.tolerance ++ byte h.persistence ++ signed2 h.presence ++ byte h.voidPercent ++
    byte h.bandCount

def Band.bytes (b : Band) : List Byte :=
  bytes3 b.fLo ++ bytes3 b.fHi ++ signed2 b.gLo ++ signed2 b.gHi ++ signed2 b.dnMax ++ signed2 b.rbMax ++
    byte b.margin.toNat ++ byte b.persistence

def BinEntry.bytes (e : BinEntry) : List Byte := byte e.bin.val ++ byte e.pattern.val ++ byte (boolCode e.good)

/-- R193: 4 bytes of a tap slot in a reply. -/
def TapSlot.bytes (t : TapSlot) : List Byte :=
  byte t.current.code ++ byte t.current.nestCode ++
    match t.pending with
    | some p => byte p.code ++ byte p.nestCode
    | none => byte 255 ++ byte 0

/-- R193: a program block index in a reply, NONE 16,777,215. -/
def blockIndexBytes : Option Nat → List Byte
  | some k => bytes3 k
  | none => bytes3 16777215

end Sys2Proof.Machine
end

