-- ==== Sys2Proof/Machine/Faults.lean ====
section
/-! DEFINITION. The Fault Log and the notices (R161 to R169, R186): an arrival, the capture test, the
line stop, the notice FIFO and its overflow. -/

namespace Sys2Proof.Machine

open Sys2Proof

/-- Chapter 10: the first record and the next-fault set are both empty. -/
def FaultLog.clean (f : FaultLog) : Bool := f.first.isNone && f.next == 0

/-- R163: the nest holds a ticket with this serial. -/
def State.holdsSerial (s : State) (n : NestId) (serial : Nat) : Bool :=
  (s.nest n).state.holdsTicket && (s.nest n).ticket.any (fun t => t.serial == serial)

/-- R163: the ticket that the arrival captures, if it captures one. -/
def captureOf (r : FaultRecord) (s : State) : Option HeldRef :=
  match r.nest, r.serial with
  | some n, some serial =>
    if s.flg.clean && r.kind.captures && s.holdsSerial n serial then some ⟨n, serial⟩ else none
  | _, _ => none

/-- R162: the log after an arrival. -/
def FaultLog.log (f : FaultLog) (r : FaultRecord) : FaultLog :=
  if f.clean then { f with first := some r } else { f with next := f.next ||| kindBit r.kind }

/-- R167: the line-stop output after an arrival. -/
def FaultLog.stop (f : FaultLog) (k : FaultKind) : FaultLog :=
  if hasKind f.stopMask k && f.armed then { f with lineStop := true, armed := false } else f

/-- R162, R163, R167: an arrival at the log. -/
def logArrival (r : FaultRecord) (s : State) : State :=
  let logged := s.flg.log r
  let held := match captureOf r s with
    | some h => some h
    | none => logged.held
  s.setFlg (FaultLog.stop { logged with held := held } r.kind)

/-- R192: the payload of a FAULT notice, for an arrival that met the log of `s`. -/
def faultNoticePayload (r : FaultRecord) (s : State) : List Byte :=
  byte r.kind.code ++ byte (flagByte [!s.flg.clean, (captureOf r s).isSome, r.nest.isSome]) ++
    byte (match r.nest with | some n => n.val | none => 0) ++ bytes4 r.stamp

/-- R186: a notice takes the notice sequence as its tag, and joins the FIFO if a place is free. -/
def queueNotice (type : Byte) (payload : List Byte) (s : State) : State :=
  let v := s.svc
  let kept := if v.notices.length < Config.noticePlaces then v.notices ++ [⟨type, v.noticeSeq, payload⟩] else v.notices
  s.setSvc { v with notices := kept, noticeSeq := v.noticeSeq + 1 }

/-- R169, R186: NOTICE_OVERFLOW arrives and offers its own notice; if the FIFO is still full that
notice is lost without a further raising. -/
def raiseOverflow (detail : Half) (stamp : Nat) (s : State) : State :=
  let r : FaultRecord := ⟨.noticeOverflow, stamp, none, none, detail⟩
  queueNotice 65 (faultNoticePayload r s) (logArrival r s)

/-- R186: a notice is offered; `detail` is what NOTICE_OVERFLOW carries if the FIFO is full. -/
def offerNotice (type : Byte) (payload : List Byte) (detail : Half) (stamp : Nat) (s : State) : State :=
  if s.svc.notices.length < Config.noticePlaces then queueNotice type payload s
  else raiseOverflow detail stamp (queueNotice type payload s)

/-- R161, R162, R169: a block raises a fault: it arrives at the log and offers its notice. -/
def raiseFault (r : FaultRecord) (s : State) : State :=
  offerNotice 65 (faultNoticePayload r s) (BitVec.ofNat 16 r.kind.code) r.stamp (logArrival r s)

/-- R110: FLG's answer to the raising of a capturing kind. -/
def isCaptured (r : FaultRecord) (s : State) : Bool := (captureOf r s).isSome

/-- Chapter 10: the held-ticket reference names this nest and serial. -/
def State.isHeld (s : State) (n : NestId) (serial : Nat) : Bool := s.flg.held == some ⟨n, serial⟩

end Sys2Proof.Machine
end

