-- ==== Sys2Proof/Machine/Yield.lean ====
section
/-! DEFINITION. The Yield Counters (R135 to R146): increments that saturate, the tally, the snapshot. -/

namespace Sys2Proof.Machine

open Sys2Proof

/-- R136: an increment, which a saturated counter does not take. -/
def countUp (n : Nat) : Nat := if n < Config.counterMax then n + 1 else n

def State.setLive (s : State) (c : Counters) : State := s.setYct { s.yct with live := c }

def Counters.nest (c : Counters) (n : NestId) : NestCounters := c.nests[n]

def Counters.setNest (c : Counters) (n : NestId) (x : NestCounters) : Counters :=
  { c with nests := c.nests.set n x }

/-- R140. -/
def countTicket (s : State) : State :=
  s.setLive { s.yct.live with tickets := countUp s.yct.live.tickets }

/-- R140. -/
def countRetest (n : NestId) (s : State) : State :=
  let x := s.yct.live.nest n
  s.setLive (s.yct.live.setNest n { x with retests := countUp x.retests })

/-- R56, R141. -/
def countTrip (s : State) : State :=
  s.setLive { s.yct.live with guardTrips := countUp s.yct.live.guardTrips }

/-- R74, R141. -/
def countVoid (s : State) : State :=
  s.setLive { s.yct.live with voidBlocks := countUp s.yct.live.voidBlocks }

/-- R141, R179. -/
def countCellError (s : State) : State :=
  s.setLive { s.yct.live with cellErrors := countUp s.yct.live.cellErrors }

/-- R138: the nest counters after a tallied verdict. -/
def NestCounters.tallied (x : NestCounters) (disp : FinalDisp) (marginal : Bool) : NestCounters :=
  let y := { x with tested := countUp x.tested }
  match disp with
  | .pass =>
    { y with passed := countUp y.passed, marginal := if marginal then countUp y.marginal else y.marginal }
  | .reject => { y with rejected := countUp y.rejected }
  | .abort => { y with aborted := countUp y.aborted }

/-- R138: the counters after a tallied verdict of nest n in bin b. -/
def Counters.tally (c : Counters) (n : NestId) (bin : Fin 32) (disp : FinalDisp) (marginal : Bool) : Counters :=
  { c.setNest n ((c.nest n).tallied disp marginal) with bins := c.bins.set bin (countUp c.bins[bin]) }

/-- R138: the counters after a verdict of nest n that is not tallied. -/
def Counters.untallied (c : Counters) (n : NestId) : Counters :=
  let x := c.nest n
  c.setNest n { x with untallied := countUp x.untallied }

/-- R142: LOT_OPEN sets every bin and nest counter to 0. -/
def Counters.openLot (c : Counters) : Counters :=
  { c with bins := Vector.replicate 32 0, nests := Vector.replicate 8 NestCounters.zero }

/-- R143: page 0 takes a snapshot and may clear the live counters. -/
def Yield.take (y : Yield) (clear : Bool) : Yield :=
  { live := if clear then Counters.zero else y.live, snap := y.live, present := true, number := y.number + 1,
    cleared := clear }

/-- R144: the seven counters of a nest, in order. -/
def NestCounters.list (x : NestCounters) : List Nat :=
  [x.tested, x.passed, x.marginal, x.rejected, x.aborted, x.retests, x.untallied]

/-- R144: the counters of a page, in order. -/
def Counters.page (c : Counters) (page : Nat) : List Nat :=
  match page with
  | 0 => [c.tickets, c.guardTrips, c.voidBlocks, c.cellErrors] ++ c.bins.toList.take 16
  | 1 => c.bins.toList.drop 16
  | k + 2 => ((c.nests.toList.drop (2 * k)).take 2).flatMap NestCounters.list

end Sys2Proof.Machine
end

