-- ==== Sys2Proof/Machine/Sweep.lean ====
section
/-! DEFINITION. The Sweep Generator (R5 to R21): the chain walk, the arithmetic of a drive block, the
drive sample, the start of a block and its report. -/

namespace Sys2Proof.Machine

open Sys2Proof

/-! ### The chain of a lot (R8) -/

/-- R8: what the walk yields: the entries in chain order, or the entry and the position, 1 to 64, at
which it failed. -/
inductive ChainResult where
  | pass (entries : List (Fin 256))
  | fail (entry : Fin 256) (position : Nat)
  deriving DecidableEq, Repr

/-- R8: the entry itself breaks a condition of the walk. -/
def chainBreaks (e : Segment) (k : Fin 256) (visited : List (Fin 256)) : Bool :=
  e.type == .unused || visited.contains k || (e.type == .presence && !visited.isEmpty) ||
    (e.law == .log && e.fStart == e.fEnd)

/-- R8: the walk from entry k, with the entries visited so far and the entries that may still follow. -/
def chainWalk (table : Vector Segment 256) : Nat → List (Fin 256) → Fin 256 → ChainResult
  | more, visited, k =>
    let e := table[k]
    if chainBreaks e k visited then .fail k (visited.length + 1)
    else
      match e.next, more with
      | none, _ => .pass (visited ++ [k])
      | some _, 0 => .fail k (visited.length + 1)
      | some j, m + 1 => chainWalk table m (visited ++ [k]) j

/-- R8: the chain that starts at entry k, of at most 64 entries. -/
def validateChain (table : Vector Segment 256) (k : Fin 256) : ChainResult := chainWalk table 63 [] k

/-- R8: the first block index of each entry, from a sum of the durations before it. -/
def firstBlocksFrom (table : Vector Segment 256) : Nat → List (Fin 256) → List Nat
  | _, [] => []
  | sum, k :: rest => sum :: firstBlocksFrom table (sum + table[k].duration) rest

/-- R8: the total program blocks. -/
def totalBlocksOf (table : Vector Segment 256) (chain : List (Fin 256)) : Nat :=
  (chain.map (fun k => table[k].duration)).sum

/-! ### The arithmetic of a drive block -/

/-- R9: y does not exceed f_start (f_end / f_start)^(k / B) by more than a half; the comparison is of
B-th powers and exact. -/
def logReached (fStart fEnd k b y : Nat) : Bool :=
  y == 0 || decide ((2 * y - 1) ^ b ≤ 2 ^ b * fStart ^ (b - k) * fEnd ^ k)

/-- R9: the f-code of block k of a segment that drives a tone. -/
def blockFcode (e : Segment) (k : Nat) : Nat :=
  match e.law with
  | .step => e.fStart
  | .log => greatest (logReached e.fStart e.fEnd k e.duration) 19 0

/-- R10: the frequency word of an f-code. -/
def freqWordOf (f : Nat) : Word := BitVec.ofNat 32 (roundUp (f * 2 ^ 32) 960000)

/-- R12: y does not exceed 8,388,607 × 10^(L / 200) by more than a half, for a level L of minus m. -/
def gainReached (m y : Nat) : Bool :=
  y == 0 || decide ((2 * y - 1) ^ 200 * 10 ^ m ≤ (2 * Config.fullScale) ^ 200)

/-- R12: the level gain of a level code from −600 to 0. -/
def gainOf (level : Int) : Nat := greatest (gainReached (-level).toNat) 23 0

/-- R13: the drive sample of an accumulator value and a level gain. -/
def driveSample (phase : Word) (gain : Nat) : Int :=
  max (-Config.driveLimit) (sineTable (phaseIndex phase) * gain / 32768)

/-- R13, R16: the drive sample of a context; 0 unless it is RUNNING. -/
def SweepCtx.sample (c : SweepCtx) : Int :=
  match c.state with
  | .running => driveSample c.phase c.gain
  | .armed => 0
  | .idle => 0

/-- R13: the advance of P by W, in a RUNNING context. -/
def SweepCtx.advance (c : SweepCtx) : SweepCtx :=
  match c.state with
  | .running => { c with phase := c.phase + c.freqWord }
  | .armed => c
  | .idle => c

/-! ### Loading a segment and beginning a block -/

/-- R17: the context after it loads entry k. -/
def SweepCtx.load (c : SweepCtx) (table : Vector Segment 256) (k : Fin 256) : SweepCtx :=
  { c with segment := k, copy := table[k], blockIndex := 0 }

/-- R16: the f-code of the block that the context is about to begin. -/
def SweepCtx.fcode (c : SweepCtx) : Nat :=
  match c.copy.type with
  | .quiet => 0
  | .unused => blockFcode c.copy c.blockIndex
  | .presence => blockFcode c.copy c.blockIndex
  | .polarity => blockFcode c.copy c.blockIndex
  | .measure => blockFcode c.copy c.blockIndex

/-- R16: the context at the start of a block: W by R10 and Lg by R12, both 0 for QUIET. -/
def SweepCtx.begin (c : SweepCtx) (stamp : Nat) : SweepCtx :=
  { c with
    freqWord := if c.copy.type = .quiet then 0 else freqWordOf c.fcode
    gain := if c.copy.type = .quiet then 0 else gainOf c.copy.level
    blockStart := stamp }

/-- R19: the report of the block that the context has just begun, with b0 for a nest delay (R36). -/
def SweepCtx.report (c : SweepCtx) (delay : Nat) : DriveReport :=
  { start := c.blockStart, programBlock := c.programBlock, type := c.copy.type,
    settle := decide (c.blockIndex < c.copy.settle), lastOfSegment := decide (c.blockIndex + 1 = c.copy.duration),
    fcode := c.fcode, level := c.copy.level, freqWord := c.freqWord, phase := c.phase,
    b0 := stampAdd c.blockStart delay }

/-- R19: a report joins the history at the young end; the oldest leaves when a 17th joins. -/
def joinHistory (h : List DriveReport) (r : DriveReport) : List DriveReport :=
  (h ++ [r]).drop (h.length + 1 - Config.historyPlaces)

/-- R16, R19: a block begins in nest n at the present boundary, from the context `c`. -/
def beginBlock (n : NestId) (c : SweepCtx) (s : State) : State :=
  let c := c.begin s.tmb.stamp
  let s := s.setCtx n c
  s.setAna n { s.ana n with history := joinHistory (s.ana n).history (c.report (s.nest n).delay) }

/-! ### Requests of TKC to SWG -/

/-- R35: the analysis context at a start request that SWG takes; the history is emptied (R15). -/
def Analysis.start (a : Analysis) : Analysis :=
  { a with state := .waiting, cursor := 0, count := 0, buffer := [], i := 0, q := 0, damaged := false, history := [] }

/-- R15: SWG takes a start request in IDLE, and ignores it in ARMED and RUNNING. -/
def startSweep (n : NestId) (s : State) : State :=
  match (s.ctx n).state with
  | .idle => (s.setCtx n { s.ctx n with state := .armed }).setAna n (s.ana n).start
  | .armed => s
  | .running => s

end Sys2Proof.Machine
end

