-- ==== Sys2Proof/Machine/Tickets.lean ====
section
/-! DEFINITION. The Ticket Controller (R88 to R116) with what the end of a test hands to the bin map,
the counters and the report FIFO (R121, R122, R131, R138), and the drain of a lot (R154, R156).

DRAIN_COMPLETE and REPORT_TAKEN are steps of their own, and a step not due has no effect (DESIGN CHOICE, assumption
logs 1 and 16). -/

namespace Sys2Proof.Machine

open Sys2Proof Host

/-! ### The drain of a lot -/

/-- R156, R192: the payload of a LOT_DRAINED notice. -/
def drainedPayload (b : Binding) (aborted : Bool) : List Byte :=
  bytes4 b.lotId ++ byte (boolCode aborted) ++ bytes4 b.firstSerial ++ bytes4 b.nextSerial ++
    bytes4 ((b.nextSerial + 2 ^ 32 - b.firstSerial) % 2 ^ 32)

/-- R156: every frozen mark is clear. -/
def LotCtl.thaw (l : LotCtl) : LotCtl :=
  { l with segFrozen := Vector.replicate 256 false, setFrozen := Vector.replicate 8 false,
           binFrozen := Vector.replicate 256 false }

/-- R154, R156: in CLOSING with no ticket left the line enters CLOSED and LOT_DRAINED is offered. -/
def drainCheck (s : State) : State :=
  match s.ltc.line, s.ltc.ticketCount, s.lot with
  | .closing, 0, some b =>
    offerNotice 66 (drainedPayload b s.ltc.aborted) 0 s.now (s.setLtc { s.ltc.thaw with line := .closed })
  | _, _, _ => s

/-! ### Start, stop and end of a sweep, as TKC takes them -/

/-- R97, R105: the start request is made: the nest waits with its timer at 0, the link view is LOCKED
and the drive status is IDLE. -/
def State.canStart (s : State) (n : NestId) : Bool :=
  let x := s.nest n
  (x.state == .entry || x.state == .retestWait) && x.timer == 0 && s.tkc.linkView == .locked && x.drive == .idle

/-- R97: the check of a waiting ticket. -/
def startCheck (n : NestId) (s : State) : State :=
  if s.canStart n then startSweep n (s.setNest n { s.nest n with drive := .starting }) else s

/-- R101: TKC takes drive-ended.  A drive status of RUNNING in DRAIN is that of the previous ticket's sweep, since a
nest leaves SWEEP with drive-ended; the last driven block stays NONE, as R102 set it, and DRAIN can complete (R157:
REPORT when the stop has taken effect).  R101 gives the reported value to a sweep stopped after the ABORT, which that
sweep is not (DEDUCED, assumption log 18). -/
def driveEnded (n : NestId) (last : Option Nat) (s : State) : State :=
  let x := s.nest n
  let ticket := x.ticket.map (fun t => { t with lastDriven := last })
  match x.state with
  | .sweep => s.setNest n { x.enter .drain 0 with drive := .idle, ticket := ticket }
  | .drain => s.setNest n { x with drive := .idle, ticket := if x.drive = .running then x.ticket else ticket }
  | .entry => startCheck n (s.setNest n { x with drive := .idle })
  | .retestWait => startCheck n (s.setNest n { x with drive := .idle })
  | .disabled => s.setNest n { x with drive := .idle }
  | .vacant => s.setNest n { x with drive := .idle }
  | .report => s.setNest n { x with drive := .idle }
  | .unload => s.setNest n { x with drive := .idle }
  | .held => s.setNest n { x with drive := .idle }

/-- R21: the context after a stop request. -/
def SweepCtx.stop (c : SweepCtx) : SweepCtx :=
  match c.state with
  | .idle => c
  | .armed => { c with state := .idle }
  | .running => { c with stopRequested := true }

/-- R21, R101: a stop request; from ARMED drive-ended follows at once with last driven block NONE. -/
def stopSweep (n : NestId) (s : State) : State :=
  let stopped := s.setCtx n (s.ctx n).stop
  if (s.ctx n).state = .armed then driveEnded n none stopped else stopped

/-! ### Stages and the disposition order -/

/-- R75, R98: the stage of a segment type. -/
def SegType.stage : SegType → Stage
  | .presence => .entry
  | .polarity => .polarity
  | .measure => .sweep
  | .quiet => .sweep
  | .unused => .sweep

/-- R98: the current stage of the nest's ticket. -/
def State.currentStage (s : State) (n : NestId) : Stage :=
  let x := s.nest n
  match x.state with
  | .sweep => (s.ctx n).copy.type.stage
  | .drain => if x.ticket.any (fun t => t.lastDriven.isSome) then (s.ctx n).copy.type.stage else .entry
  | .entry => .entry
  | .retestWait => .entry
  | .disabled => .entry
  | .vacant => .entry
  | .report => .entry
  | .unload => .entry
  | .held => .entry

/-- R75, R99: a proposal. -/
structure Proposal where
  disp   : Disp
  stage  : Stage
  cls    : Cls
  defect : Option Defect
  deriving DecidableEq, Repr

/-- R99: the table of the disposition order. -/
def Disp.resolve : Disp → Disp → Disp
  | .opened, p => p
  | .marginal, .retest => .retest
  | .marginal, .reject => .reject
  | .marginal, .abort => .abort
  | .retest, .reject => .reject
  | .retest, .abort => .abort
  | .marginal, .opened => .marginal
  | .marginal, .marginal => .marginal
  | .retest, .opened => .retest
  | .retest, .marginal => .retest
  | .retest, .retest => .retest
  | .reject, _ => .reject
  | .abort, _ => .abort

/-- R86: a defect fills an empty first defect, and its class joins the later-class set. -/
def Ticket.takeDefect (t : Ticket) (d : Option Defect) : Ticket :=
  match d with
  | none => t
  | some d => { t with firstDefect := some (t.firstDefect.getD d), later := t.later.add d.cls }

/-- R99: the ticket after a proposal. -/
def Ticket.take (t : Ticket) (p : Proposal) : Ticket :=
  let new := t.disp.resolve p.disp
  let t := t.takeDefect p.defect
  let t := if p.disp = .marginal then { t with marginal := true } else t
  if new = t.disp then t else { t with disp := new, dispStage := some p.stage, dispClass := some p.cls }

/-- R100: a REJECT that changes the disposition stops the sweep when the lot has early-out on. -/
def State.earlyOut (s : State) : Bool := s.lot.any (fun b => b.earlyOut)

/-- R99, R100, R102: TKC takes a proposal for the ticket of nest n.  An ABORT in ENTRY with the drive status RUNNING
sends no stop request (R100), and DRAIN completes at the old sweep's drive-ended (DEDUCED, assumption log 18). -/
def propose (n : NestId) (p : Proposal) (s : State) : State :=
  let x := s.nest n
  match x.ticket with
  | none => s
  | some t =>
    let taken := t.take p
    if p.disp = .abort ∧ (x.state = .entry ∨ x.state = .retestWait) then
      let drained := s.setNest n { x.enter .drain 0 with ticket := some { taken with lastDriven := none } }
      if x.drive = .starting then stopSweep n drained else drained
    else
      let kept := s.setNest n { x with ticket := some taken }
      if x.state = .sweep ∧
          (p.disp = .abort ∨ (p.disp = .reject ∧ taken.disp ≠ t.disp ∧ s.earlyOut = true)) then
        stopSweep n kept
      else kept

/-- R157, R159: ABORT, class ABORT, at the current stage, with no defect. -/
def abortTicket (n : NestId) (s : State) : State :=
  propose n ⟨.abort, s.currentStage n, .abort, none⟩ s

/-! ### Ticket open and retire -/

/-- R93, R94: the ticket that opens under a binding. -/
def Ticket.opened (b : Binding) : Ticket :=
  { serial := b.nextSerial, lotId := b.lotId, attempt := 1, disp := .opened, dispStage := none, dispClass := none,
    marginal := false, firstDefect := none, later := ClassSet.empty, lastDriven := none, lastJudged := none,
    final := none, entry := none }

/-- R94, R148, R154: LTC at a ticket open. -/
def LotCtl.openTicket (l : LotCtl) (b : Binding) : LotCtl :=
  { l with binding := some { b with nextSerial := (b.nextSerial + 1) % 2 ^ 32 }, ticketCount := l.ticketCount + 1 }

/-- R94: ticket open in nest n under the lot's binding, with the check of R97. -/
def openTicket (n : NestId) (b : Binding) (s : State) : State :=
  let s := s.setLtc (s.ltc.openTicket b)
  let s := countTicket (s.setTally n Tally.zero)
  let s := s.setFli { s.fli with lastOpened := some n }
  let s := s.setNest n { (s.nest n).enter .entry b.entryDelay with ticket := some (Ticket.opened b) }
  startCheck n s

/-- R112: the nest after retire. -/
def Nest.retired (x : Nest) : Nest :=
  { x.enter (if x.disablePending then .disabled else .vacant) 0 with
    ticket := none, verdict := false, disablePending := false }

/-- R112, R154: retire, with the report to LTC and its drain check. -/
def retireTicket (n : NestId) (s : State) : State :=
  let s := s.setNest n (s.nest n).retired
  drainCheck (s.setLtc { s.ltc with ticketCount := s.ltc.ticketCount - 1 })

/-- R109: entry to UNLOAD. -/
def enterUnload (n : NestId) (s : State) : State :=
  let s := s.setNest n ((s.nest n).enter .unload s.tkc.unloadLimit)
  if (s.nest n).sensor = .ignored ∨ (s.nest n).level = .opened then retireTicket n s else s

/-! ### Review, close, retest -/

/-- R70: the active limit set of a ticket. -/
def Binding.activeSet (b : Binding) (attempt : Nat) : Fin 8 :=
  if attempt ≤ 1 then b.primarySet else b.retestSet.getD b.primarySet

/-- R103: a band is void. -/
def BandTally.isVoid (t : BandTally) (percent : Nat) : Bool :=
  decide ((t.void ≠ 0 ∨ t.judged ≠ 0) ∧ (t.void + t.judged) * percent < t.void * 100)

/-- R103: some band in use of the active set is void in the nest's tally record. -/
def State.hasVoidBand (s : State) (n : NestId) (set : Fin 8) : Bool :=
  let h := s.jdu.sets[set].header
  ((s.tally n).bands.toList.take h.bandCount).any (fun t => t.isVoid h.voidPercent)

/-- R103: REVIEW. -/
def review (n : NestId) (b : Binding) (s : State) : State :=
  match (s.nest n).ticket with
  | none => s
  | some t =>
    if (t.disp = .opened ∨ t.disp = .marginal) ∧ s.hasVoidBand n (b.activeSet t.attempt) = true then
      propose n ⟨if t.attempt < b.attemptLimit then .retest else .reject, .review, .void, none⟩ s
    else s

/-- R121: the index of the bin-map entry. -/
def binIndex (b : Binding) (c : Cls) (n : NestId) (attempt : Nat) : Nat :=
  match b.keyMode with
  | .cls => b.binBase + c.code
  | .clsNest => b.binBase + c.code * 8 + n
  | .clsAttempt => b.binBase + c.code * 4 + (attempt - 1)

/-- R122: the bin-map lookup; the span of an open lot ends at 255 at most (R150). -/
def State.binEntry (s : State) (index : Nat) : BinEntry :=
  s.bmu.binMap[index % 256]'(Nat.mod_lt _ (by decide))

/-- R107, R122: entry to REPORT with the final disposition. -/
def enterReport (n : NestId) (b : Binding) (t : Ticket) (f : Final) (s : State) : State :=
  let entry := s.binEntry (binIndex b f.cls n t.attempt)
  s.setNest n
    { (s.nest n).enter .report s.tkc.reportWait with ticket := some { t with final := some f, entry := some entry } }

/-- R105: the ticket at the start of a new attempt. -/
def Ticket.retested (t : Ticket) : Ticket :=
  { t with attempt := t.attempt + 1, disp := .opened, dispStage := none, dispClass := none, marginal := false,
           firstDefect := none, later := ClassSet.empty, lastDriven := none, lastJudged := none }

/-- R105: a retest starts, with the check of R97. -/
def startRetest (n : NestId) (b : Binding) (t : Ticket) (s : State) : State :=
  let s := countRetest n (s.setTally n Tally.zero)
  let s := s.setNest n { (s.nest n).enter .retestWait b.retestDelay with ticket := some t.retested }
  startCheck n s

/-- R104, R106: the final disposition of a ticket that stands REJECT. -/
def Ticket.rejected (t : Ticket) : Final := ⟨.reject, t.dispStage.getD .entry, t.dispClass.getD .void⟩

/-- R104, R106: the final disposition of a ticket that stands ABORT. -/
def Ticket.aborted (t : Ticket) : Final := ⟨.abort, t.dispStage.getD .entry, .abort⟩

/-- R104: CLOSE. -/
def closeAttempt (n : NestId) (b : Binding) (s : State) : State :=
  match (s.nest n).ticket with
  | none => s
  | some t =>
    match t.disp with
    | .opened => enterReport n b t ⟨.pass, .close, .pass⟩ s
    | .marginal => enterReport n b { t with marginal := true } ⟨.pass, .close, .marginal⟩ s
    | .retest => startRetest n b t s
    | .reject => enterReport n b t t.rejected s
    | .abort => enterReport n b t t.aborted s

/-- R101: DRAIN completes. -/
def State.drainDone (s : State) (n : NestId) : Bool :=
  let x := s.nest n
  x.state == .drain && x.drive == .idle &&
    x.ticket.any (fun t => t.lastDriven.isNone || t.lastJudged == t.lastDriven)

/-- DRAIN_COMPLETE (R101): REVIEW and then CLOSE, as one event. -/
def execDrainComplete (n : NestId) (s : State) : Outcome State Fault Refusal :=
  match s.lot with
  | some b => if s.drainDone n then .next (closeAttempt n b (review n b s)) else .next s
  | none => .next s

/-! ### Report-taken -/

/-- R131, R192: the 12 bytes of a defect, with the byte that stands for an absent band. -/
def Defect.bytes (d : Defect) (noBand : List Byte) : List Byte :=
  byte d.cls.code ++ (match d.band with | some k => byte k | none => noBand) ++ bytes3 d.fcode ++ signed2 d.value ++
    signed2 d.limit ++ bytes3 d.programBlock

/-- R131, R192: the payload of the unit report. -/
def reportPayload (n : NestId) (t : Ticket) (f : Final) (e : BinEntry) (tallied : Bool) (y : Tally) : List Byte :=
  bytes4 t.serial ++ bytes4 t.lotId ++ byte n.val ++ byte t.attempt ++ byte f.disp.code ++ byte f.stage.code ++
    byte f.cls.code ++
    byte (flagByte [t.marginal, tallied, t.firstDefect.isSome, t.firstDefect.any (fun d => d.band.isSome)]) ++
    byte e.bin.val ++ byte e.pattern.val ++ byte t.later.code ++ bytes3 y.judged ++ bytes3 y.void ++
    (match t.firstDefect with | some d => d.bytes (byte 0) | none => [])

/-- R187: a unit report joins the FIFO with the report sequence as its tag. -/
def queueReport (payload : List Byte) (s : State) : State :=
  let v := s.svc
  s.setSvc { v with reports := v.reports ++ [⟨64, v.reportSeq, payload⟩], reportSeq := v.reportSeq + 1 }

/-- R125: a marker job joins, for a pattern other than 0. -/
def queueJob (n : NestId) (serial : Nat) (e : BinEntry) (s : State) : State :=
  if e.pattern = 0 then s else s.setBmu { s.bmu with queue := s.bmu.queue ++ [⟨e.pattern, serial, n⟩] }

/-- R107: the unit report FIFO has no place. -/
def State.reportsFull (s : State) : Bool := decide (Config.reportPlaces ≤ s.svc.reports.length)

/-- R107: the ticket needs a place in the marker queue and it has none. -/
def State.markerFull (s : State) (e : BinEntry) : Bool :=
  decide (e.pattern ≠ 0 ∧ Config.markerPlaces ≤ s.bmu.queue.length)

/-- R138: the tally of a verdict, or its count as UNTALLIED. -/
def tallyVerdict (n : NestId) (t : Ticket) (f : Final) (e : BinEntry) (tallied : Bool) (s : State) : State :=
  s.setLive (if tallied then s.yct.live.tally n e.bin f.disp t.marginal else s.yct.live.untallied n)

/-- R113: the reject run count after a verdict. -/
def runAfter (run : Nat) (disp : FinalDisp) (tallied : Bool) : Nat :=
  match tallied, disp with
  | true, .reject => min 15 (run + 1)
  | true, .pass => 0
  | true, .abort => run
  | false, _ => run

/-- R113: the count reaches the lot's limit at this verdict. -/
def runReached (b : Binding) (run : Nat) (disp : FinalDisp) (tallied : Bool) : Bool :=
  tallied && disp == .reject && decide (1 ≤ b.rejectRun ∧ b.rejectRun ≤ runAfter run disp tallied)

/-- R113: the reject run of the nest at report-taken. -/
def updateRun (n : NestId) (b : Binding) (t : Ticket) (disp : FinalDisp) (tallied : Bool) (s : State) : State :=
  let x := s.nest n
  if runReached b x.rejectRun disp tallied then
    raiseFault ⟨.rejectRun, s.now, some n, some t.serial, BitVec.ofNat 16 b.rejectRun⟩
      (s.setNest n { x with rejectRun := 0, disablePending := true })
  else s.setNest n { x with rejectRun := runAfter x.rejectRun disp tallied }

/-- R108: report-taken, in the order the rule gives: tally, report, marker job, verdict line, reject
run, and UNLOAD or HELD last.  Where REJECT_RUN and a LOT_DRAINED fall in this one event, R186 lets the two notices
be taken in either order; here the FAULT notice is taken first (DESIGN CHOICE, assumption log 19). -/
def takeReport (n : NestId) (b : Binding) (t : Ticket) (f : Final) (e : BinEntry) (s : State) : State :=
  let tallied := talliedAt f.stage b.tallyPoint
  let s := tallyVerdict n t f e tallied s
  let s := queueReport (reportPayload n t f e tallied (s.tally n)) s
  let s := queueJob n t.serial e s
  let s := s.setNest n { s.nest n with verdict := e.good }
  let s := updateRun n b t f.disp tallied s
  if s.isHeld n t.serial then s.setNest n ((s.nest n).enter .held 0) else enterUnload n s

/-- REPORT_TAKEN (R107, R108): in REPORT with space in the queues the ticket needs. -/
def execReportTaken (n : NestId) (s : State) : Outcome State Fault Refusal :=
  match s.lot, (s.nest n).state, (s.nest n).ticket with
  | some b, .report, some t =>
    match t.final, t.entry with
    | some f, some e => if s.reportsFull || s.markerFull e then .next s else .next (takeReport n b t f e s)
    | _, _ => .next s
  | _, _, _ => .next s

/-! ### The delays and the timers -/

/-- ENTRY_DELAY_EXPIRY (R97): the check of a ticket in ENTRY at a boundary, after the timers' count. -/
def execEntryDelayExpiry (n : NestId) (s : State) : Outcome State Fault Refusal :=
  if s.tmb.counted = true ∧ (s.nest n).state = .entry then .next (startCheck n s) else .next s

/-- RETEST_DELAY_EXPIRY (R105): the same check of a ticket in RETEST_WAIT. -/
def execRetestDelayExpiry (n : NestId) (s : State) : Outcome State Fault Refusal :=
  if s.tmb.counted = true ∧ (s.nest n).state = .retestWait then .next (startCheck n s) else .next s

/-- R107: the detail of REPORT_STALL: 1 for the report FIFO, 2 for the marker queue, 3 for both. -/
def State.stallDetail (s : State) (e : BinEntry) : Nat := flagByte [s.reportsFull, s.markerFull e]

/-- REPORT_STALL (R107): the report-wait timer has expired and the nest still waits for space. -/
def execReportStall (n : NestId) (s : State) : Outcome State Fault Refusal :=
  let x := s.nest n
  match x.state, x.expiry, x.ticket with
  | .report, some g, some t =>
    match t.entry with
    | some e =>
      if s.stallDetail e = 0 then .next s
      else
        .next (raiseFault ⟨.reportStall, g, some n, some t.serial, BitVec.ofNat 16 (s.stallDetail e)⟩
          (s.setNest n { x with expiry := none }))
    | none => .next s
  | _, _, _ => .next s

/-- R109, R110: NEST_STUCK is raised; a capture takes the nest to HELD. -/
def raiseStuck (n : NestId) (g serial : Nat) (s : State) : State :=
  let r : FaultRecord := ⟨.nestStuck, g, some n, some serial, BitVec.ofNat 16 s.tkc.unloadLimit⟩
  let x := s.nest n
  raiseFault r (s.setNest n (if isCaptured r s then x.enter .held 0 else { x with expiry := none }))

/-- NEST_STUCK (R109): the unload timer has expired in UNLOAD. -/
def execNestStuck (n : NestId) (s : State) : Outcome State Fault Refusal :=
  match (s.nest n).state, (s.nest n).expiry, (s.nest n).ticket with
  | .unload, some g, some t => .next (raiseStuck n g t.serial s)
  | _, _, _ => .next s

/-! ### The sensor events -/

/-- R40: the analysis context after a discard. -/
def Analysis.discard (a : Analysis) : Analysis := { a with state := .closed, queue := [] }

/-- R106, R110: a unit is pulled; `stage` is the ticket's current stage. -/
def pullUnit (n : NestId) (b : Binding) (t : Ticket) (stage : Stage) (s : State) : State :=
  let x := s.nest n
  let taken := t.take ⟨.abort, stage, .abort, none⟩
  let c := s.ctx n
  let stopping := x.drive = .starting ∨ x.drive = .running
  let s := if stopping then s.setCtx n c.stop else s
  let drive := if stopping ∧ c.state = .armed then .idle else x.drive
  let s := s.setAna n (s.ana n).discard
  let s := raiseFault ⟨.unitPulled, s.now, some n, some t.serial, BitVec.ofNat 16 stage.code⟩ s
  let s := s.setNest n { s.nest n with drive := drive }
  enterReport n b taken (if taken.disp = .reject then taken.rejected else taken.aborted) s

/-- R90: the debounced level takes the raw level. -/
def Nest.settle (x : Nest) (level : Level) : Nest := { x with level := level, steady := 0, eventDue := false }

/-- CLOSE_EVENT (R90, R94): the level becomes CLOSED, and a VACANT AUTO nest of an OPEN line opens a
ticket. -/
def execCloseEvent (n : NestId) (s : State) : Outcome State Fault Refusal :=
  let x := s.nest n
  if x.eventDue = true ∧ x.level = .opened then
    let settled := s.setNest n (x.settle .closed)
    match s.lot with
    | some b =>
      if x.state = .vacant ∧ x.startMode = .auto ∧ x.sensor = .used ∧ s.ltc.line = .opened then
        .next (openTicket n b settled)
      else .next settled
    | none => .next settled
  else .next s

/-- R106, R109: what an open event does in a nest whose sensor is USED. -/
def openEffect (n : NestId) (s : State) : State :=
  let x := s.nest n
  match x.state, x.ticket, s.lot with
  | .entry, some t, some b => pullUnit n b t (s.currentStage n) s
  | .sweep, some t, some b => pullUnit n b t (s.currentStage n) s
  | .drain, some t, some b => pullUnit n b t (s.currentStage n) s
  | .retestWait, some t, some b => pullUnit n b t (s.currentStage n) s
  | .unload, _, _ => retireTicket n s
  | _, _, _ => s

/-- OPEN_EVENT (R90, R106, R109): the level becomes OPEN; a unit under test is pulled, a ticket in
UNLOAD retires. -/
def execOpenEvent (n : NestId) (s : State) : Outcome State Fault Refusal :=
  let x := s.nest n
  if x.eventDue = true ∧ x.level = .closed then
    let settled := s.setNest n (x.settle .opened)
    if x.sensor = .used then .next (openEffect n settled) else .next settled
  else .next s

end Sys2Proof.Machine
end

