-- ==== Sys2Proof/Machine/Drive.lean ====
section
/-! DEFINITION. The drive blocks of a sweep at their boundaries: SWEEP_START and DRIVE_BLOCK_END
(R15 to R21, R98, R101).

SWG has processed a boundary for a nest with the nest's first SWEEP_START there, or with a DRIVE_BLOCK_END that ends a
block of it there; a start request taken after that waits for the next boundary (R15; which steps these are is a DESIGN
CHOICE, assumption log 20). -/

namespace Sys2Proof.Machine

open Sys2Proof Host

/-- R98: TKC takes sweep-started. -/
def sweepStarted (n : NestId) (s : State) : State :=
  let x := s.nest n
  if x.state = .entry ∨ x.state = .retestWait then s.setNest n { x.enter .sweep 0 with drive := .running }
  else s.setNest n { x with drive := .running }

/-- R15: the context of a sweep that starts, before its block 0 begins. -/
def SweepCtx.starting (c : SweepCtx) (table : Vector Segment 256) (first : Fin 256) : SweepCtx :=
  { c.load table first with
    state := .running, phase := 0, programBlock := 0, stopRequested := false, lastDriven := none }

/-- R15: an ARMED context starts at this boundary: SWG has not yet processed it for the nest, and FLI's link state is
LOCKED. -/
def State.sweepDue (s : State) (n : NestId) : Bool :=
  !s.swg.processed[n] && (s.ctx n).state == .armed && s.fli.link == .locked

/-- R15, R16, R98: the sweep of nest n starts with the first segment of the lot. -/
def beginSweep (n : NestId) (b : Binding) (s : State) : State :=
  sweepStarted n (beginBlock n ((s.ctx n).starting s.swg.segments b.firstSegment) s)

/-- R15: SWG considers nest n at the present boundary. -/
def considerNest (n : NestId) (s : State) : State :=
  match s.lot with
  | some b => if s.sweepDue n then beginSweep n b s else s
  | none => s

/-- SWEEP_START (R15, R16, R98): at a boundary SWG considers the nest, and has then processed the boundary for it. -/
def execSweepStart (n : NestId) (s : State) : Outcome State Fault Refusal :=
  if s.atBoundary then .next ((considerNest n s.markBoundary).setProcessed n) else .next s

/-- R18: the drive block in progress ends at this boundary. -/
def State.blockEndDue (s : State) (n : NestId) : Bool :=
  s.atBoundary && (s.ctx n).state == .running &&
    stampAdd (s.ctx n).blockStart Config.blockFrames == s.tmb.stamp % Config.stampRange

/-- R20, R21: the context returns to IDLE and drive-ended is reported with its last driven block. -/
def endSweep (n : NestId) (c : SweepCtx) (s : State) : State :=
  driveEnded n c.lastDriven (s.setCtx n { c with state := .idle, stopRequested := false })

/-- R18: the end of a drive block, the first of the four cases that applies. -/
def endBlock (n : NestId) (s : State) : State :=
  let c := { s.ctx n with lastDriven := some (s.ctx n).programBlock }
  if c.stopRequested then endSweep n c s
  else if c.blockIndex + 1 < c.copy.duration then
    beginBlock n { c with blockIndex := c.blockIndex + 1, programBlock := c.programBlock + 1 } s
  else
    match c.copy.next with
    | some k => beginBlock n { c.load s.swg.segments k with programBlock := c.programBlock + 1 } s
    | none => endSweep n c s

/-- DRIVE_BLOCK_END (R18, R20, R21, R101); a request that the drive-ended report lets TKC make is considered at the
next boundary (R15). -/
def execDriveBlockEnd (n : NestId) (s : State) : Outcome State Fault Refusal :=
  if s.blockEndDue n then .next ((endBlock n s.markBoundary).setProcessed n) else .next s

end Sys2Proof.Machine
end

