-- ==== Sys2Proof/Machine/Analysis.lean ====
section
/-! DEFINITION. The Block Analyzer (R34 to R50): the samples of a block, its figures, its record. -/

namespace Sys2Proof.Machine

open Sys2Proof Host

/-- R37, R39: an OPEN context takes a sample. -/
def Analysis.takeSample (a : Analysis) (x : Sample) : Analysis :=
  let k := phaseIndex a.refPhase
  { a with
    buffer := a.buffer ++ [x.value]
    damaged := a.damaged || x.invalid || x.clipped
    i := a.i + x.value * cosineTable k
    q := a.q + x.value * sineTable k
    refPhase := a.refPhase + a.report.freqWord
    count := a.count + 1 }

/-- R37: the sample of a frame, in a context that is OPEN and has not had its 480th. -/
def Analysis.frame (a : Analysis) (x : Sample) : Analysis :=
  match a.state with
  | .opened => if a.count < Config.blockFrames then a.takeSample x else a
  | .waiting => a
  | .closed => a

/-- R32: the residual after the frame-end of stamp t; its last value is carried for stamp b0 + 959, and it
is carried no more after that, whatever stamp the grid comes to. -/
def Residual.pass (r : Residual) (t : Nat) : Residual :=
  { r with
    spent := r.spent || decide (Config.blockFrames - 1 ≤ elapsed (stampAdd r.b0 Config.blockFrames) t) }

/-- R32, R37: a context at the frame-end of stamp t, whose mic sample is x. -/
def Analysis.frameEnd (a : Analysis) (x : Sample) (t : Nat) : Analysis :=
  { a.frame x with residual := a.residual.map (fun r => r.pass t) }

/-- R36: the report of the block at the cursor, once it is in the history. -/
def Analysis.nextReport (a : Analysis) : Option DriveReport :=
  a.history.find? (fun r => r.programBlock == a.cursor)

/-- R36: the context opens the block of a report. -/
def Analysis.openBlock (a : Analysis) (r : DriveReport) : Analysis :=
  { a with state := .opened, report := r, b0 := r.b0, refPhase := r.phase, i := 0, q := 0, damaged := false,
           count := 0, buffer := [] }

/-- ANALYSIS_BLOCK_OPEN (R36): the report of the block at the cursor is in the history and the sample
of its b0 is the one delivered in the latest frame. -/
def execAnalysisBlockOpen (n : NestId) (s : State) : Outcome State Fault Refusal :=
  let a := s.ana n
  match a.state, a.nextReport with
  | .waiting, some r =>
    if s.tmb.framed = true ∧ r.b0 = s.lastFrame then
      .next (s.setAna n ((a.openBlock r).takeSample s.fli.mics[n]))
    else .next s
  | _, _ => .next s

/-! ### The block figures (R41 to R46) -/

/-- R42: I² + Q². -/
def energy (i q : Int) : Nat := i.natAbs ^ 2 + q.natAbs ^ 2

/-- R42: A is less than 1. -/
def isSilent (i q : Int) : Bool := decide (4 * energy i q < Config.blockScale ^ 2)

/-- R42: LF of a block that is not silent. -/
def lfOf (i q : Int) : Int :=
  levelOf (4 * energy i q) (Config.blockScale ^ 2 * Config.fullScale ^ 2) (-1400) 0

/-- R45: fit[i] from I and Q and the reference sine and cosine. -/
def fitOf (i q sine cosine : Int) : Int := roundAway (2 * (q * sine + i * cosine)) Config.fitDivisor

/-- R45: the residual of the samples that follow the reference phase `p`. -/
def residualFrom (i q : Int) (freqWord : Word) : Word → List Int → List Int
  | _, [] => []
  | p, x :: rest =>
    (x - fitOf i q (sineTable (phaseIndex p)) (cosineTable (phaseIndex p))) ::
      residualFrom i q freqWord (p + freqWord) rest

/-- R46: Σ r[i]². -/
def squareSum (r : List Int) : Nat := (r.map (fun x => x.natAbs ^ 2)).sum

/-- R46: E, the largest |r[i] − r[i − 1]|. -/
def largestStep : List Int → Nat
  | [] => 0
  | x :: rest =>
    match rest with
    | [] => 0
    | y :: _ => max (y - x).natAbs (largestStep rest)

/-- R46: DN from Σ r[i]², for a block that is not silent. -/
def dnOf (i q : Int) (sum : Nat) : Int :=
  levelOf (sum * Config.blockScale ^ 2) (480 * 4 * energy i q) (-1400) 400

/-- R46: RB from E, for a block that is not silent. -/
def rbOf (i q : Int) (step : Nat) : Int :=
  levelOf (step ^ 2 * Config.blockScale ^ 2) (4 * energy i q) (-1400) 400

/-- R45: the residual of the block in the context. -/
def Analysis.residue (a : Analysis) : List Int := residualFrom a.i a.q a.report.freqWord a.report.phase a.buffer

/-- R42, R43: LF of the block, −1400 when silent. -/
def Analysis.lf (a : Analysis) : Int := if isSilent a.i a.q then -1400 else lfOf a.i a.q

/-- R47: the block result record. -/
def Analysis.record (a : Analysis) (n : NestId) : BlockRecord :=
  let silent := isSilent a.i a.q
  { nest := n, programBlock := a.cursor, type := a.report.type, settle := a.report.settle,
    lastOfSegment := a.report.lastOfSegment, fcode := a.report.fcode, lf := a.lf, g := a.lf - a.report.level,
    ph := if silent then 0 else phaseOf a.i a.q
    dn := if silent then 400 else dnOf a.i a.q (squareSum a.residue)
    rb := if silent then 400 else rbOf a.i a.q (largestStep a.residue)
    silent := silent, damaged := a.damaged, b0 := a.b0, mark := none }

/-- R37: the context after its block completes. -/
def Analysis.complete (a : Analysis) (n : NestId) : Analysis :=
  { a with state := .waiting, cursor := a.cursor + 1, queue := a.queue ++ [a.record n],
           residual := some ⟨a.b0, a.residue, false⟩ }

/-- ANALYSIS_BLOCK_COMPLETE (R37, R41 to R48): the block has its 480th sample. -/
def execAnalysisBlockComplete (n : NestId) (s : State) : Outcome State Fault Refusal :=
  let a := s.ana n
  if a.state = .opened ∧ a.count = Config.blockFrames then
    if a.queue.length < Config.pendingPlaces then .next (s.setAna n (a.complete n)) else .fault .pendingQueueFull
  else .next s

end Sys2Proof.Machine
end

