-- ==== Sys2Proof/Machine/Guard.lean ====
section
/-! DEFINITION. The Guard Monitor (R51 to R63): guard blocks, trips, the trip list, saturation, the guard
configuration and the ruling.  A step not due has no effect (DESIGN CHOICE, assumption log 1). -/

namespace Sys2Proof.Machine

open Sys2Proof Host

/-- R51: a guard block begins with the sample of a global boundary stamp. -/
def GuardMon.beginBlock (g : GuardMon) (stamp : Nat) : GuardMon :=
  { g with start := stamp, eg := 0, invalidSeen := false, threshold := g.current.threshold, closed := false }

/-- R51: the step formed with the previous guard sample, 0 when none is formed. -/
def guardStep (prev : Option Sample) (x : Sample) : Nat :=
  match prev with
  | some p => if p.invalid || x.invalid then 0 else (x.value - p.value).natAbs
  | none => 0

/-- R51: a sample is taken into the guard block in progress. -/
def GuardMon.takeSample (g : GuardMon) (x : Sample) : GuardMon :=
  { g with invalidSeen := g.invalidSeen || x.invalid, eg := max g.eg (guardStep g.prev x), prev := some x }

/-- R51: the guard sample of the frame with this stamp; the next boundary takes the pending fields anew (R57). -/
def GuardMon.frame (g : GuardMon) (stamp : Nat) (x : Sample) : GuardMon :=
  { (if onGrid stamp then g.beginBlock stamp else g).takeSample x with configTaken := false }

/-- R52: GL from Eg. -/
def guardLevel (eg : Nat) : Int := levelOf (eg ^ 2) (Config.fullScale ^ 2) (-1400) 60

/-- R53: the guard block is a trip. -/
def GuardMon.isTrip (g : GuardMon) : Bool := g.invalidSeen || decide (g.threshold ≤ guardLevel g.eg)

/-- R60: the highest GL among the records of the list. -/
def highestGl (trips : List Trip) : Int := (trips.map Trip.gl).foldl max (-1400)

/-- R54, R60: a trip is offered to the list. -/
def GuardMon.offer (g : GuardMon) : GuardMon :=
  if g.trips.length < Config.tripPlaces then { g with trips := g.trips ++ [⟨g.start, guardLevel g.eg⟩] }
  else { g with saturated := true, lastDiscard := some g.start }

/-- R60: a trip offered now enters saturation. -/
def GuardMon.enters (g : GuardMon) : Bool := decide (Config.tripPlaces ≤ g.trips.length) && !g.saturated

/-- R53: the guard block in progress has had its 480th sample and its close has not been taken. -/
def State.guardCloseDue (s : State) : Bool :=
  s.tmb.framed && !s.gdm.closed && s.lastFrame == stampAdd s.gdm.start (Config.blockFrames - 1)

/-- R60: the raising of GUARD_STORM. -/
def stormRecord (g : GuardMon) : FaultRecord :=
  ⟨.guardStorm, stampAdd g.start (Config.blockFrames - 1), none, none, BitVec.ofInt 16 (highestGl g.trips)⟩

/-- R53, R54, R56, R60: the close of a guard block. -/
def closeGuardBlock (s : State) : State :=
  let g := { s.gdm with closed := true }
  if g.isTrip then
    let offered := countTrip (s.setGdm g.offer)
    if g.enters then raiseFault (stormRecord g) offered else offered
  else s.setGdm g

/-- GUARD_BLOCK_CLOSE (R53). -/
def execGuardBlockClose (s : State) : Outcome State Fault Refusal :=
  if s.guardCloseDue then .next (closeGuardBlock s) else .next s

/-! ### At a global boundary -/

/-- R57: the pending guard fields become current, once at each boundary: a WRITE_LINE that comes after it has
its effect at the next (assumption log 11). -/
def GuardMon.applyConfig (g : GuardMon) : GuardMon :=
  if g.configTaken then g else { g with current := g.pending, configTaken := true }

/-- R55: the records whose guard block ended 9,600 frames or more before g leave from the head. -/
def GuardMon.removeOld (g : GuardMon) (stamp : Nat) : GuardMon :=
  { g with trips := g.trips.dropWhile (fun r => atOrAfter (stampAdd r.t Config.tripLife) stamp) }

/-- R62: both conditions for the end of saturation hold at g. -/
def GuardMon.saturationOver (g : GuardMon) (stamp : Nat) : Bool :=
  g.saturated && decide (g.trips.length < Config.tripPlaces) &&
    g.lastDiscard.all (fun t => atOrAfter (stampAdd t Config.tripLife) stamp)

/-- R62: the check of a SATURATED state. -/
def GuardMon.checkSaturation (g : GuardMon) (stamp : Nat) : GuardMon :=
  if g.saturationOver stamp then { g with saturated := false } else g

/-- R57, R59: what GDM does at a boundary before it rules. -/
def GuardMon.atBoundary (g : GuardMon) (stamp : Nat) : GuardMon :=
  ((g.applyConfig).removeOld stamp).checkSaturation stamp

/-- R58: stamp a lies before stamp b. -/
def isBefore (a b : Nat) : Bool := !atOrAfter b a

/-- R58: the guard block that begins at t overlaps the guard window of a block that begins at b0. -/
def overlaps (c : GuardConfig) (b0 t : Nat) : Bool :=
  isBefore t (stampAdd b0 (Config.blockFrames + c.post)) &&
    isBefore (stampAdd b0 (Config.stampRange - c.pre)) (stampAdd t Config.blockFrames)

/-- R59, R61: the ruling on a departing block. -/
def GuardMon.rulesVoid (g : GuardMon) (b0 : Nat) : Bool :=
  g.saturated || g.trips.any (fun r => overlaps g.current b0 r.t)

/-- TRIP_RECORD_REMOVAL (R55). -/
def execTripRecordRemoval (s : State) : Outcome State Fault Refusal :=
  if s.atBoundary then .next (s.markBoundary.setGdm (s.gdm.removeOld s.tmb.stamp)) else .next s

/-- SATURATION_END (R62): the check made at a boundary, after the removals of R55. -/
def execSaturationEnd (s : State) : Outcome State Fault Refusal :=
  if s.atBoundary then
    .next (s.markBoundary.setGdm ((s.gdm.removeOld s.tmb.stamp).checkSaturation s.tmb.stamp))
  else .next s

/-- GUARD_CONFIG_TAKE_EFFECT (R57). -/
def execGuardConfigTakeEffect (s : State) : Outcome State Fault Refusal :=
  if s.atBoundary then .next (s.markBoundary.setGdm s.gdm.applyConfig) else .next s

end Sys2Proof.Machine
end

