-- ==== Sys2Proof/Machine/Judge.lean ====
section
/-! DEFINITION. The Judgement Unit (R70 to R87) and the departure of blocks (R49). -/

namespace Sys2Proof.Machine

open Sys2Proof Host

/-- R71: a count of the tally record goes up by 1, to 262,143 at most. -/
def tallyUp (n : Nat) : Nat := if n < Config.tallyMax then n + 1 else n

/-! ### The checks of a record -/

/-- R78: the circular distance between PH and the expected phase. -/
def phaseDistance (ph expected : Int) : Int :=
  let d := |ph - expected|
  if d > 1800 then 3600 - d else d

/-- R78: a CLEAN POLARITY record is wrong. -/
def isWrong (h : LimitHeader) (r : BlockRecord) : Bool :=
  r.silent || decide (phaseDistance r.ph h.phase > h.tolerance)

/-- R80: the band of the set that holds an f-code, among the bands in use. -/
def LimitSet.bandFor (l : LimitSet) (fcode : Nat) : Option (Fin 32) :=
  (List.finRange 32).find? (fun k =>
    decide (k.val < l.header.bandCount) && decide ((l.bands[k]).fLo ≤ fcode ∧ fcode < (l.bands[k]).fHi))

/-- R82: the three checks of a band. -/
inductive Check where
  | response | distortion | rub
  deriving DecidableEq, Repr

/-- R83: the class of a check. -/
def Check.cls : Check → Cls
  | .response => .response | .distortion => .distortion | .rub => .rub

/-- R82: the check exceeds in a CLEAN record. -/
def Check.exceeds (c : Check) (b : Band) (r : BlockRecord) : Bool :=
  match c with
  | .response => r.silent || decide (r.g < b.gLo ∨ b.gHi < r.g)
  | .distortion => !r.silent && decide (b.dnMax < r.dn)
  | .rub => !r.silent && decide (b.rbMax < r.rb)

/-- R84: the check is marginal in a CLEAN record. -/
def Check.marginal (c : Check) (b : Band) (r : BlockRecord) : Bool :=
  !r.silent && !c.exceeds b r &&
    match c with
    | .response => decide ((b.gLo ≤ r.g ∧ r.g < b.gLo + b.margin) ∨ (b.gHi - b.margin < r.g ∧ r.g ≤ b.gHi))
    | .distortion => decide (b.dnMax - b.margin < r.dn ∧ r.dn ≤ b.dnMax)
    | .rub => decide (b.rbMax - b.margin < r.rb ∧ r.rb ≤ b.rbMax)

/-- R71: the exceed count of a check. -/
def Check.count (c : Check) (t : BandTally) : Nat :=
  match c with
  | .response => t.respExceed | .distortion => t.dnExceed | .rub => t.rbExceed

/-- R71: the declared flag of a check. -/
def Check.declared (c : Check) (t : BandTally) : Bool :=
  match c with
  | .response => t.responseDeclared | .distortion => t.distortionDeclared | .rub => t.rubDeclared

/-- R82: the band tally after the check, whose count goes up when it exceeds. -/
def Check.bump (c : Check) (exceeds : Bool) (t : BandTally) : BandTally :=
  if exceeds then
    match c with
    | .response => { t with respExceed := tallyUp t.respExceed }
    | .distortion => { t with dnExceed := tallyUp t.dnExceed }
    | .rub => { t with rbExceed := tallyUp t.rbExceed }
  else t

/-- R83: the declared flag of a check is set. -/
def Check.declare (c : Check) (t : BandTally) : BandTally :=
  match c with
  | .response => { t with responseDeclared := true }
  | .distortion => { t with distortionDeclared := true }
  | .rub => { t with rubDeclared := true }

/-- R85: the value and the limit of a defect of a band check. -/
def Check.defect (c : Check) (k : Fin 32) (b : Band) (r : BlockRecord) : Defect :=
  let value := match c with
    | .response => r.g | .distortion => r.dn | .rub => r.rb
  let limit := match c with
    | .response => if b.gHi < r.g then b.gHi else b.gLo
    | .distortion => b.dnMax
    | .rub => b.rbMax
  ⟨c.cls, some k.val, r.fcode, value, limit, r.programBlock⟩

/-- R85: the defect of a POLARITY rejection. -/
def polarityDefect (h : LimitHeader) (r : BlockRecord) : Defect :=
  ⟨.polarity, none, r.fcode, if r.silent then 1800 else phaseDistance r.ph h.phase, h.tolerance, r.programBlock⟩

/-! ### Judging a record -/

def State.setBand (s : State) (n : NestId) (k : Fin 32) (t : BandTally) : State :=
  s.setTally n { s.tally n with bands := (s.tally n).bands.set k t }

/-- R74: every judged record is counted before the rule of its type. -/
def countRecord (n : NestId) (mark : Mark) (s : State) : State :=
  let y := s.tally n
  match mark with
  | .void => countVoid (s.setTally n { y with void := tallyUp y.void })
  | .clean => s.setTally n { y with judged := tallyUp y.judged }

/-- R76, R77: a PRESENCE record. -/
def judgePresence (n : NestId) (h : LimitHeader) (r : BlockRecord) (mark : Mark) (s : State) : State :=
  let y := s.tally n
  let seen := y.presence || (mark == .clean && decide (h.presence ≤ r.g))
  let s := s.setTally n { y with presence := seen }
  if r.lastOfSegment && !seen then propose n ⟨.abort, .entry, .abort, none⟩ s else s

/-- R78, R79: a POLARITY record. -/
def judgePolarity (n : NestId) (h : LimitHeader) (r : BlockRecord) (mark : Mark) (s : State) : State :=
  if mark == .clean && isWrong h r then
    let y := s.tally n
    let wrong := tallyUp y.polarityWrong
    let s := s.setTally n { y with polarityWrong := wrong }
    if wrong = h.persistence then propose n ⟨.reject, .polarity, .polarity, some (polarityDefect h r)⟩ s else s
  else s

/-- R83: the rejection of one check, when it exceeded, reached the persistence and is not declared. -/
def rejectCheck (n : NestId) (k : Fin 32) (b : Band) (r : BlockRecord) (s : State) (c : Check) : State :=
  let t := (s.tally n).bands[k]
  if c.exceeds b r && decide (b.persistence ≤ c.count t) && !c.declared t then
    propose n ⟨.reject, .sweep, c.cls, some (c.defect k b r)⟩ (s.setBand n k (c.declare t))
  else s

/-- R82 to R84: a CLEAN MEASURE record in its band. -/
def judgeBand (n : NestId) (k : Fin 32) (b : Band) (r : BlockRecord) (s : State) : State :=
  let t := (s.tally n).bands[k]
  let t := { t with judged := tallyUp t.judged }
  let t := [Check.response, .distortion, .rub].foldl (fun t c => c.bump (c.exceeds b r) t) t
  let s := [Check.response, .distortion, .rub].foldl (rejectCheck n k b r) (s.setBand n k t)
  if [Check.response, .distortion, .rub].any (fun c => c.marginal b r) then
    propose n ⟨.marginal, .sweep, .marginal, none⟩ s
  else s

/-- R80, R81: a MEASURE record. -/
def judgeMeasure (n : NestId) (l : LimitSet) (r : BlockRecord) (mark : Mark) (s : State) : State :=
  match l.bandFor r.fcode with
  | none => s.setTally n { s.tally n with unbanded := tallyUp (s.tally n).unbanded }
  | some k =>
    match mark with
    | .void =>
      let t := (s.tally n).bands[k]
      s.setBand n k { t with void := tallyUp t.void }
    | .clean => judgeBand n k l.bands[k] r s

/-- R73 to R84: a record that is neither settle nor QUIET. -/
def judgeByType (n : NestId) (l : LimitSet) (r : BlockRecord) (mark : Mark) (s : State) : State :=
  let s := countRecord n mark s
  match r.type with
  | .presence => judgePresence n l.header r mark s
  | .polarity => judgePolarity n l.header r mark s
  | .measure => judgeMeasure n l r mark s
  | .quiet => s
  | .unused => s

/-- R101: TKC takes a block-judged report in SWEEP or DRAIN. -/
def blockJudged (n : NestId) (index : Nat) (s : State) : State :=
  let x := s.nest n
  if x.state = .sweep ∨ x.state = .drain then
    s.setNest n { x with ticket := x.ticket.map (fun t => { t with lastJudged := some index }) }
  else s

/-- R73: JDU takes a record that departs with its mark. -/
def judgeRecord (n : NestId) (r : BlockRecord) (s : State) : State :=
  let x := s.nest n
  match s.lot, x.ticket, r.mark with
  | some b, some t, some mark =>
    if x.state = .sweep ∨ x.state = .drain then
      blockJudged n r.programBlock
        (if r.settle = true ∨ r.type = .quiet then s else judgeByType n s.jdu.sets[b.activeSet t.attempt] r mark s)
    else s
  | _, _, _ => s

/-! ### Departure -/

/-- R49: the record is due at boundary g. -/
def isDue (post g : Nat) (r : BlockRecord) : Bool := atOrAfter (stampAdd r.b0 (Config.blockFrames + post)) g

/-- R49: the release mark. -/
def releaseMark (g : GuardMon) (r : BlockRecord) : Mark := if r.damaged || g.rulesVoid r.b0 then .void else .clean

/-- R49, R59: the due records of nest n depart from the head and are handed to JDU in order. -/
def departBlocks (n : NestId) (s : State) : State :=
  let g := s.gdm.atBoundary s.tmb.stamp
  let s := s.setGdm g
  let due := (s.ana n).queue.takeWhile (isDue g.current.post s.tmb.stamp)
  let s := s.setAna n { s.ana n with queue := (s.ana n).queue.dropWhile (isDue g.current.post s.tmb.stamp) }
  due.foldl (fun s r => judgeRecord n { r with mark := some (releaseMark g r) } s) s

/-- BLOCK_DEPARTURE (R49, R57, R59, R73): the records of nest n that are due at this boundary, after
GDM's own work at it (DESIGN CHOICE, assumption log 11). -/
def execBlockDeparture (n : NestId) (s : State) : Outcome State Fault Refusal :=
  if s.atBoundary then .next (departBlocks n s.markBoundary) else .next s

end Sys2Proof.Machine
end

