-- ==== Sys2Proof/Machine/FrontLink.lean ====
section
/-! DEFINITION. The Front Link Interface and all that the frame-end of a frame moves (R22 to R33): the
drive slots, the class of the upstream frame, lock, watch, marks, the samples handed to BKA and GDM,
the sensors and READY as sampled, the tap slots.

UPSTREAM_FRONT_FRAME is the first step of each frame-end (DESIGN CHOICE, assumption log 4). -/

namespace Sys2Proof.Machine

open Sys2Proof Host

/-! ### Frames -/

/-- R191: three bytes of a sample. -/
def sampleBytes (x : Int) : List Byte := tripleBytes (BitVec.ofInt 24 x)

/-- R22: the frame check of the downstream front frame that carries these drive slots. -/
def downstreamCheck (slots : Vector Int 8) : Nat := byteSum (slots.toList.flatMap sampleBytes)

/-- R191: the bytes of the downstream front frame that carries these drive slots. -/
def downstreamBytes (slots : Vector Int 8) : List Byte :=
  slots.toList.flatMap sampleBytes ++ bytes2 (downstreamCheck slots)

/-- R23, R191: the 29 slot bytes of an upstream front frame. -/
def slotBytes (f : UpstreamFrame) : List Byte :=
  f.mics.toList.flatMap tripleBytes ++ tripleBytes f.guard ++ halfBytes f.clip

/-- R23: the classes of an upstream frame. -/
inductive FrameClass where
  | good | bad | absent
  deriving DecidableEq, Repr

/-- R23. -/
def classify (frame : Option UpstreamFrame) : FrameClass :=
  match frame with
  | none => .absent
  | some f => if byteSum (slotBytes f) = f.check.toNat then .good else .bad

/-! ### Lock and watch -/

/-- R24: a BAD or ABSENT frame in LOCKED. -/
def FrontLink.fail (f : FrontLink) (t absent : Nat) : FrontLink :=
  if Config.lossRun ≤ f.badRun + 1 then
    { f with link := .searching, goodRun := 0, badRun := 0, absentCount := absent, lossStamp := some t }
  else { f with badRun := f.badRun + 1, absentCount := absent }

/-- R24: the lock state after a frame credited to stamp t. -/
def FrontLink.lock (f : FrontLink) (c : FrameClass) (t : Nat) : FrontLink :=
  match f.link, c with
  | .searching, .good =>
    if Config.lockRun ≤ f.goodRun + 1 then { f with link := .locked, goodRun := 0, badRun := 0, absentCount := 0 }
    else { f with goodRun := f.goodRun + 1 }
  | .searching, .bad => { f with goodRun := 0 }
  | .searching, .absent => { f with goodRun := 0 }
  | .locked, .good => { f with badRun := 0, absentCount := 0 }
  | .locked, .bad => f.fail t f.absentCount
  | .locked, .absent => f.fail t (f.absentCount + 1)

/-- R25: the watch closes without a fault when the link is LOCKED after the update of R24. -/
def FrontLink.watch (f : FrontLink) : FrontLink :=
  match f.link with
  | .locked => { f with lossStamp := none }
  | .searching => f

/-! ### Sample marks (R27) -/

/-- R27: the mic sample of slot n. -/
def micSample (link : LinkState) (c : FrameClass) (frame : Option UpstreamFrame) (n : NestId) : Sample :=
  match link, c, frame with
  | .locked, .good, some f => ⟨f.mics[n].toInt, false, f.clip.getLsbD n⟩
  | _, _, _ => Sample.lost

/-- R27: the guard sample; a clipped one is invalid. -/
def guardSample (link : LinkState) (c : FrameClass) (frame : Option UpstreamFrame) : Sample :=
  match link, c, frame with
  | .locked, .good, some f => if f.clip.getLsbD 8 then Sample.lost else ⟨f.guard.toInt, false, false⟩
  | _, _, _ => Sample.lost

/-! ### Taps (R31, R32) -/

/-- R32: the residual carried for stamp t, limited to the sample range; 0 once it is spent. -/
def residSample (r : Option Residual) (t : Nat) : Int :=
  match r with
  | none => 0
  | some r =>
    if r.spent then 0
    else clamp (-8388608) 8388607 (r.values.getD (elapsed (stampAdd r.b0 Config.blockFrames) t) 0)

/-- R31: the sample a slot carries for stamp t, from the samples and drive slots of that frame. -/
def tapSample (f : FrontLink) (residual : NestId → Option Residual) (t : Nat) (slot : TapSlot) : Int :=
  match slot.current with
  | .off => 0
  | .mic n => f.mics[n].value
  | .guard => f.guardMic.value
  | .drive n => f.driveSlots[n]
  | .resid n => residSample (residual n) t
  | .follow => match slot.follow with
    | some n => f.mics[n].value
    | none => 0

/-- R22 to R27: FLI after the frame-end of frame t. -/
def FrontLink.frame (f : FrontLink) (frame : Option UpstreamFrame) (drive : Vector Int 8) (t : Nat) : FrontLink :=
  let c := classify frame
  let f := (f.lock c t).watch
  { f with mics := Vector.ofFn (fun n => micSample f.link c frame n), guardMic := guardSample f.link c frame,
           driveSlots := drive, tapsTaken := false }

/-- R31: the tap slots carry their sources for stamp t. -/
def FrontLink.carry (f : FrontLink) (residual : NestId → Option Residual) (t : Nat) : FrontLink :=
  { f with taps := f.taps.map (fun slot => { slot with carried := tapSample f residual t slot }) }

/-! ### The sensors (R90) -/

/-- The level of a raw sensor input, high when closed. -/
def levelOfBit (high : Bool) : Level := if high then .closed else .opened

/-- R90: a nest at a frame-end that samples a raw level; the first frame after a reset sets the level. -/
def Nest.sense (x : Nest) (first : Bool) (raw : Level) : Nest :=
  if first then { x with raw := raw, level := raw, steady := 0, eventDue := false }
  else if raw = x.level then { x with raw := raw, steady := 0, eventDue := false }
  else
    let steady := min 65535 (x.steady + 1)
    { x with raw := raw, steady := steady, eventDue := decide (x.debounce ≤ steady) }

/-! ### The frame-end -/

/-- R26: TKC takes a change of the link state; link-locked ends the wait of R97 and R105. -/
def takeLink (before : LinkState) (s : State) : State :=
  match before, s.fli.link with
  | .searching, .locked => State.eachNest startCheck { s with tkc := { s.tkc with linkView := .locked } }
  | .locked, .searching => { s with tkc := { s.tkc with linkView := .searching } }
  | .searching, .searching => s
  | .locked, .locked => s

/-- R13, R22: the drive slots of the downstream front frame. -/
def State.driveSlots (s : State) : Vector Int 8 := Vector.ofFn (fun n => (s.ctx n).sample)

/-- R22 to R27, R31, R37, R51, R90: the part after the frame-end of the present frame, before TKC takes
a change of the link state. -/
def frameEnd (frame : Option UpstreamFrame) (sensors : Byte) (ready : Bool) (s : State) : State :=
  let t := s.tmb.stamp
  let fli := s.fli.frame frame s.driveSlots t
  { s with
    tmb := { stamp := stampAdd t 1, framed := true, boundary := false, counted := false }
    swg := { s.swg with ctx := Vector.ofFn (fun n => (s.ctx n).advance), processed := Vector.replicate 8 false }
    fli := fli.carry (fun n => (s.ana n).residual) t
    bka := Vector.ofFn (fun n => (s.ana n).frameEnd fli.mics[n] t)
    gdm := s.gdm.frame t fli.guardMic
    tkc := { s.tkc with
             nests := Vector.ofFn (fun n => (s.nest n).sense (!s.tmb.framed) (levelOfBit (sensors.getLsbD n))) }
    bmu := { s.bmu with ready := ready }
    svc := { s.svc with upChosen := false } }

/-- UPSTREAM_FRONT_FRAME (R1, R22 to R27, R31, R32, R37, R51, R90). -/
def execUpstreamFrontFrame (frame : Option UpstreamFrame) (sensors : Byte) (ready : Bool) (s : State) :
    Outcome State Fault Refusal :=
  .next (takeLink s.fli.link (frameEnd frame sensors ready s))

/-! ### FRONT_LOST -/

/-- R159: LTC proposes ABORT to the ticket of a nest in SWEEP, DRAIN or RETEST_WAIT. -/
def frontLostAbort (n : NestId) (s : State) : State :=
  match (s.nest n).state with
  | .sweep => abortTicket n s
  | .drain => abortTicket n s
  | .retestWait => abortTicket n s
  | .disabled => s
  | .vacant => s
  | .entry => s
  | .report => s
  | .unload => s
  | .held => s

/-- R159: tickets exist, so LTC proposes, in OPEN and CLOSING only. -/
def LineState.hasTickets : LineState → Bool
  | .opened => true
  | .closing => true
  | .noLot => false
  | .closed => false

/-- R25: the watch has run 4,800 frames without a relock. -/
def State.frontLostDue (s : State) : Bool :=
  s.tmb.framed && s.fli.link == .searching &&
    s.fli.lossStamp.any (fun t => elapsed t s.lastFrame == Config.frontLostFrames)

/-- R25, R159: FRONT_LOST is raised, the watch closes, and LTC aborts. -/
def loseFront (s : State) : State :=
  let raised := raiseFault ⟨.frontLost, s.lastFrame, none, none, BitVec.ofNat 16 s.fli.absentCount⟩
    (s.setFli { s.fli with lossStamp := none, absentCount := 0 })
  if s.ltc.line.hasTickets then State.eachNest frontLostAbort raised else raised

/-- FRONT_LOST (R25, R159); no effect when it is not due (DESIGN CHOICE, assumption log 1), and its stamp is that of
the frame taken last (DEDUCED, assumption log 15). -/
def execFrontLost (s : State) : Outcome State Fault Refusal :=
  if s.frontLostDue then .next (loseFront s) else .next s

/-! ### TAP_CHANGE -/

/-- R30: a slot at a global boundary. -/
def TapSlot.change (t : TapSlot) (lastOpened : Option NestId) : TapSlot :=
  let t := { t with current := t.pending.getD t.current, pending := none }
  if t.current = .follow then { t with follow := lastOpened } else t

/-- R30: FLI applies the tap selection, once at each boundary: a SET_TAP or a ticket open that comes after it
has its effect at the next. -/
def FrontLink.applyTaps (f : FrontLink) : FrontLink :=
  if f.tapsTaken then f
  else { f with taps := f.taps.map (fun t => t.change f.lastOpened), tapsTaken := true }

/-- TAP_CHANGE (R30). -/
def execTapChange (s : State) : Outcome State Fault Refusal :=
  if s.atBoundary then .next (s.markBoundary.setFli s.fli.applyTaps) else .next s

end Sys2Proof.Machine
end

