-- ==== Sys2Proof/Machine/Marker.lean ====
section
/-! DEFINITION. The marker port (R126 to R129): the sequencer at a frame-end, and the lines it drives.
Which of the four steps makes which change is assumption log 13 (DESIGN CHOICE). -/

namespace Sys2Proof.Machine

open Sys2Proof Host

/-- R126: the pattern lines. -/
def BinMarker.patternLines (b : BinMarker) : Nat :=
  match b.port with
  | .idle => 0
  | .waiting => 0
  | .setup => (b.queue.head?.map (fun j => j.pattern.val)).getD 0
  | .strobe => (b.queue.head?.map (fun j => j.pattern.val)).getD 0
  | .gap => (b.queue.head?.map (fun j => j.pattern.val)).getD 0

/-- R126: the strobe line is high. -/
def BinMarker.strobe (b : BinMarker) : Bool := b.port == .strobe

/-- The frame-end of the latest frame is being taken: no step of a boundary has followed it. -/
def State.atFrameEnd (s : State) : Bool := s.tmb.framed && !s.tmb.boundary

/-- R127, R129: the head job starts at the frame-end of stamp t. -/
def BinMarker.startJob (b : BinMarker) (t : Nat) : BinMarker :=
  { b with port := .setup, jobStart := t, jobWidth := b.strobeWidth, jobGap := b.gap, timer := 0, expiry := none }

/-- R126, R129: the sequencer enters WAITING and the marker-wait timer is loaded. -/
def BinMarker.await (b : BinMarker) : BinMarker :=
  { b with port := .waiting, timer := b.markerWait, expiry := none }

/-- R126: an IDLE or WAITING sequencer at the frame-end of stamp t. -/
def BinMarker.takeUp (b : BinMarker) (t : Nat) : BinMarker :=
  match b.port, b.queue, b.ready with
  | .idle, _ :: _, true => b.startJob t
  | .idle, _ :: _, false => b.await
  | .waiting, _ :: _, true => b.startJob t
  | _, _, _ => b

/-- MARKER_JOB_START (R126, R127): the sequencer's treatment of a frame-end in IDLE or WAITING. -/
def execMarkerJobStart (s : State) : Outcome State Fault Refusal :=
  if s.atFrameEnd then .next (s.setBmu (s.bmu.takeUp s.lastFrame)) else .next s

/-- R127: frames since the frame-end at which the job started. -/
def State.jobAge (s : State) : Nat := elapsed s.bmu.jobStart s.lastFrame

/-- MARKER_STROBE_START (R127): the 96 frames of SETUP have passed. -/
def execMarkerStrobeStart (s : State) : Outcome State Fault Refusal :=
  if s.atFrameEnd = true ∧ s.bmu.port = .setup ∧ s.jobAge = Config.setupFrames then
    .next (s.setBmu { s.bmu with port := .strobe })
  else .next s

/-- MARKER_GAP_START (R127): the strobe width has passed, and the job has a gap. -/
def execMarkerGapStart (s : State) : Outcome State Fault Refusal :=
  if s.atFrameEnd = true ∧ s.bmu.port = .strobe ∧ 0 < s.bmu.jobGap ∧
      s.jobAge = Config.setupFrames + s.bmu.jobWidth then
    .next (s.setBmu { s.bmu with port := .gap })
  else .next s

/-- R127: the job in progress ends at this frame-end. -/
def State.jobOver (s : State) : Bool :=
  (s.bmu.port == .gap || (s.bmu.port == .strobe && s.bmu.jobGap == 0)) &&
    s.jobAge == Config.setupFrames + s.bmu.jobWidth + s.bmu.jobGap

/-- R127: the finished job leaves the head, and the new head is taken up in the same event. -/
def BinMarker.removeJob (b : BinMarker) (t : Nat) : BinMarker :=
  BinMarker.takeUp { b with queue := b.queue.tail, port := .idle } t

/-- MARKER_JOB_REMOVE (R125 to R127). -/
def execMarkerJobRemove (s : State) : Outcome State Fault Refusal :=
  if s.atFrameEnd && s.jobOver then .next (s.setBmu (s.bmu.removeJob s.lastFrame)) else .next s

/-- MARKER_STALL (R129): the marker-wait timer has expired in WAITING. -/
def execMarkerStall (s : State) : Outcome State Fault Refusal :=
  match s.bmu.port, s.bmu.expiry, s.bmu.queue with
  | .waiting, some g, j :: _ =>
    .next (raiseFault ⟨.markerStall, g, some j.nest, some j.serial, BitVec.ofNat 16 s.bmu.markerWait⟩
      (s.setBmu { s.bmu with expiry := none }))
  | _, _, _ => .next s

end Sys2Proof.Machine
end

