-- ==== Sys2Proof/Machine/Timers.lean ====
section
/-! DEFINITION. The count of the timers at a global boundary (R3, R24, R96, R129).

One boundary is one event: the step counts once at each, and the stamp of an expiry is kept until it is acted on
(DESIGN CHOICE, assumption log 14). -/

namespace Sys2Proof.Machine

open Sys2Proof Host

/-- R96: a nest's timer at a boundary; the change from 1 to 0 is its expiry. -/
def Nest.count (x : Nest) (stamp : Nat) : Nest :=
  { x with timer := x.timer - 1, expiry := if x.timer = 1 then some stamp else x.expiry }

/-- R129: the marker-wait timer at a boundary. -/
def BinMarker.count (b : BinMarker) (stamp : Nat) : BinMarker :=
  { b with timer := b.timer - 1, expiry := if b.timer = 1 then some stamp else b.expiry }

/-- R24, R93, R96, R129: the timers count, and TKC reads the link state. -/
def countTimers (s : State) : State :=
  { s with
    tmb := { s.tmb with boundary := true, counted := true }
    tkc := { s.tkc with nests := Vector.ofFn (fun n => (s.nest n).count s.tmb.stamp), linkView := s.fli.link }
    bmu := s.bmu.count s.tmb.stamp }

/-- GLOBAL_BLOCK_BOUNDARY (R3, R96, R129): once at each boundary. -/
def execGlobalBlockBoundary (s : State) : Outcome State Fault Refusal :=
  if s.atBoundary = true ∧ s.tmb.counted = false then .next (countTimers s) else .next s

end Sys2Proof.Machine
end

