-- ==== Sys2Proof/Machine/Lots.lean ====
section
/-! DEFINITION. The Lot Controller (R147 to R157): LOT_OPEN with its validations (R8, R69, R121),
LOT_CLOSE and LOT_ABORT. -/

namespace Sys2Proof.Machine

open Sys2Proof Host

/-! ### Validations -/

/-- R69: the conditions on one band in use. -/
def Band.valid (b : Band) : Bool := b.inRange && decide (b.fLo < b.fHi) && decide (b.gLo ≤ b.gHi)

/-- R69: the bands ascend and do not overlap. -/
def bandsAscend : List Band → Bool
  | [] => true
  | b :: rest =>
    (match rest with
      | [] => true
      | c :: _ => decide (b.fHi ≤ c.fLo)) && bandsAscend rest

/-- R69: the set passes. -/
def LimitSet.valid (l : LimitSet) : Bool :=
  let used := l.bands.toList.take l.header.bandCount
  l.header.inRange && used.all Band.valid && bandsAscend used

/-- R121: the span of a lot. -/
def KeyMode.span : KeyMode → Nat
  | .cls => 8
  | .clsNest => 64
  | .clsAttempt => 32

/-- R149: why a LOT_OPEN is refused with BAD_PARAM; CHAIN carries the entry and the position. -/
inductive LotCheck where
  | range
  | chain (entry : Fin 256) (position : Nat)
  | primarySet
  | retestSet
  | span
  deriving DecidableEq, Repr

/-- R193: check code, entry index and position. -/
def LotCheck.bytes : LotCheck → List Byte
  | .range => byte 0 ++ byte 0 ++ byte 0
  | .chain k p => byte 1 ++ byte k.val ++ byte p
  | .primarySet => byte 2 ++ byte 0 ++ byte 0
  | .retestSet => byte 3 ++ byte 0 ++ byte 0
  | .span => byte 4 ++ byte 0 ++ byte 0

/-- R150: the retest set, where it is validated, passes. -/
def Judgement.retestPasses (j : Judgement) (b : Binding) : Bool :=
  match b.retestSet with
  | none => true
  | some k => decide (k = b.primarySet) || j.sets[k].valid

/-- R150: the validations in order, and the binding with the results of the walk. -/
def validateLot (b : Binding) (s : State) : Except LotCheck Binding :=
  match validateChain s.swg.segments b.firstSegment with
  | .fail k p => .error (.chain k p)
  | .pass chain =>
    if !s.jdu.sets[b.primarySet].valid then .error .primarySet
    else if !s.jdu.retestPasses b then .error .retestSet
    else if 255 < b.binBase + b.keyMode.span - 1 then .error .span
    else
      .ok { b with chain := chain, totalBlocks := totalBlocksOf s.swg.segments chain,
                   firstBlocks := firstBlocksFrom s.swg.segments 0 chain }

/-- R149, R150: every check of a LOT_OPEN after that of the line state. -/
def checkLot (f : LotFields) (s : State) : Except LotCheck Binding :=
  match lotParamsOf f with
  | none => .error .range
  | some b => validateLot b s

/-! ### Acceptance -/

/-- R151: LTC at the acceptance of a lot. -/
def LotCtl.accept (l : LotCtl) (b : Binding) : LotCtl :=
  { line := .opened, binding := some b, ticketCount := 0, aborted := false
    segFrozen := Vector.ofFn (fun k => l.segFrozen[k] || b.chain.contains k)
    setFrozen := Vector.ofFn (fun k => l.setFrozen[k] || decide (k = b.primarySet) || decide (b.retestSet = some k))
    binFrozen := Vector.ofFn (fun k =>
      l.binFrozen[k] || decide (b.binBase ≤ k.val ∧ k.val ≤ b.binBase + b.keyMode.span - 1)) }

/-- R151: the one event of acceptance. -/
def acceptLot (b : Binding) (s : State) : State :=
  let s := s.setLive s.yct.live.openLot
  let s := s.setLtc (s.ltc.accept b)
  { s with tkc := { s.tkc with nests := s.tkc.nests.map (fun x => { x with rejectRun := 0 }) } }

/-- R193: the OK content of LOT_OPEN. -/
def lotOpenContent (b : Binding) (line : LineState) : List Byte :=
  byte line.code ++ bytes4 b.lotId ++ byte b.chain.length ++ bytes3 b.totalBlocks ++ b.firstBlocks.flatMap bytes3

/-- LOT_OPEN as LTC acts on it (R149 to R151). -/
def actLotOpen (f : LotFields) (s : State) : Reply × State :=
  if s.ltc.line.hasTickets then (⟨.badState, byte s.ltc.line.code⟩, s)
  else
    match checkLot f s with
    | .error c => (⟨.badParam, byte s.ltc.line.code ++ c.bytes⟩, s)
    | .ok b => (⟨.ok, lotOpenContent b .opened⟩, acceptLot b s)

/-! ### Closing and aborting -/

/-- LOT_CLOSE as LTC acts on it (R155). -/
def actLotClose (s : State) : Reply × State :=
  match s.ltc.line with
  | .opened =>
    let s := drainCheck (s.setLtc { s.ltc with line := .closing })
    (⟨.ok, byte s.ltc.line.code⟩, s)
  | .noLot => (Reply.bare .badState, s)
  | .closing => (Reply.bare .badState, s)
  | .closed => (Reply.bare .badState, s)

/-- R157: the nest states to whose tickets LOT_ABORT proposes. -/
def NestState.underTest : NestState → Bool
  | .entry => true
  | .sweep => true
  | .drain => true
  | .retestWait => true
  | .disabled => false
  | .vacant => false
  | .report => false
  | .unload => false
  | .held => false

/-- R157: the proposal of LOT_ABORT to one nest. -/
def lotAbortNest (n : NestId) (s : State) : State := if (s.nest n).state.underTest then abortTicket n s else s

/-- R157: the number of tickets proposed to. -/
def State.underTestCount (s : State) : Nat := (s.tkc.nests.toList.filter (fun x => x.state.underTest)).length

/-- R157: steps 1 to 4 of LOT_ABORT. -/
def abortLot (s : State) : State :=
  let s := State.eachNest lotAbortNest (s.setLtc { s.ltc with aborted := true })
  drainCheck (s.setLtc { s.ltc with line := .closing })

/-- LOT_ABORT as LTC acts on it (R157). -/
def actLotAbort (s : State) : Reply × State :=
  if s.ltc.line.hasTickets then
    let t := abortLot s
    (⟨.ok, byte t.ltc.line.code ++ byte s.underTestCount⟩, t)
  else (Reply.bare .badState, s)

end Sys2Proof.Machine
end

