-- ==== Sys2Proof/Machine/Requests.lean ====
section
/-! DEFINITION. What each request does when it is taken, with its reply (R6, R7, R29, R66 to R68, R89,
R92, R95, R114, R119, R120, R143, R144, R168, R170 to R172, R183, R184, R193).  LOT_OPEN, LOT_CLOSE and
LOT_ABORT stand in Lots.lean. -/

namespace Sys2Proof.Machine

open Sys2Proof

/-! ### Segments (R6, R7) -/

def State.setSegment (s : State) (k : Fin 256) (e : Segment) : State :=
  { s with swg := { s.swg with segments := s.swg.segments.set k e } }

/-- R6. -/
def actWriteSegment (index : Byte) (f : SegmentFields) (s : State) : Reply × State :=
  let k := entryOf index
  if s.ltc.segFrozen[k] then (Reply.bare .frozen, s)
  else if f.type = 0 then (Reply.bare .ok, s.setSegment k Segment.empty)
  else
    match segmentOf f with
    | none => (Reply.bare .badParam, s)
    | some e => (Reply.bare .ok, s.setSegment k e)

/-- R7. -/
def actReadSegment (index : Byte) (s : State) : Reply × State :=
  (⟨.ok, [index] ++ s.swg.segments[entryOf index].bytes⟩, s)

/-! ### Limit sets (R66 to R68) -/

def State.setLimit (s : State) (k : Fin 8) (l : LimitSet) : State :=
  { s with jdu := { s.jdu with sets := s.jdu.sets.set k l } }

/-- R66. -/
def actWriteLimitHeader (set : Byte) (f : HeaderFields) (s : State) : Reply × State :=
  match limitSetOf set with
  | none => (Reply.bare .badParam, s)
  | some k =>
    if s.ltc.setFrozen[k] then (Reply.bare .frozen, s)
    else if (headerOf f).inRange then
      (Reply.bare .ok, s.setLimit k { s.jdu.sets[k] with header := headerOf f })
    else (Reply.bare .badParam, s)

/-- R67. -/
def actWriteBand (set index : Byte) (f : BandFields) (s : State) : Reply × State :=
  match limitSetOf set, bandOf index with
  | some k, some i =>
    if s.ltc.setFrozen[k] then (Reply.bare .frozen, s)
    else if (bandFrom f).inRange then
      (Reply.bare .ok, s.setLimit k { s.jdu.sets[k] with bands := s.jdu.sets[k].bands.set i (bandFrom f) })
    else (Reply.bare .badParam, s)
  | _, _ => (Reply.bare .badParam, s)

/-- R68; selector 255 is HEADER (R193). -/
def actReadLimit (set selector : Byte) (s : State) : Reply × State :=
  match limitSetOf set with
  | none => (Reply.bare .badParam, s)
  | some k =>
    if selector.toNat = 255 then (⟨.ok, [set, selector] ++ s.jdu.sets[k].header.bytes⟩, s)
    else
      match bandOf selector with
      | none => (Reply.bare .badParam, s)
      | some i => (⟨.ok, [set, selector] ++ s.jdu.sets[k].bands[i].bytes⟩, s)

/-! ### The bin map (R119, R120) -/

/-- R119: the range condition of step 1. -/
def binRangeOk (first count : Byte) : Bool :=
  decide (1 ≤ count.toNat ∧ count.toNat ≤ 8 ∧ first.toNat + count.toNat ≤ 256)

/-- R119: the named entries. -/
def binNamed (first count : Byte) (k : Fin 256) : Bool :=
  decide (first.toNat ≤ k.val ∧ k.val < first.toNat + count.toNat)

/-- R118: the entries that the carried fields describe, when each field lies in its values. -/
def binEntriesOf : List BinFields → Option (List BinEntry)
  | [] => some []
  | f :: rest =>
    match binEntryOf f, binEntriesOf rest with
    | some e, some es => some (e :: es)
    | _, _ => none

/-- R119: all the named entries are replaced together. -/
def writeBins (first count : Byte) (es : List BinEntry) (s : State) : State :=
  { s with bmu := { s.bmu with
      binMap := Vector.ofFn (fun k =>
        if binNamed first count k then es.getD (k.val - first.toNat) s.bmu.binMap[k] else s.bmu.binMap[k]) } }

/-- R119; a payload without the entries its count calls for is short (R181). -/
def actWriteBinmap (first count : Byte) (es : List BinFields) (s : State) : Reply × State :=
  if !binRangeOk first count || decide (es.length < count.toNat) then (Reply.bare .badParam, s)
  else if (List.finRange 256).any (fun k => binNamed first count k && s.ltc.binFrozen[k]) then (Reply.bare .frozen, s)
  else
    match binEntriesOf (es.take count.toNat) with
    | none => (Reply.bare .badParam, s)
    | some entries => (Reply.bare .ok, writeBins first count entries s)

/-- R120. -/
def actReadBinmap (first count : Byte) (s : State) : Reply × State :=
  if binRangeOk first count then
    (⟨.ok, [first, count] ++ ((s.bmu.binMap.toList.drop first.toNat).take count.toNat).flatMap BinEntry.bytes⟩, s)
  else (Reply.bare .badParam, s)

/-! ### Nests (R89, R92, R95) -/

/-- R88, R89: the carried fields lie in their values, and are not AUTO with IGNORED. -/
def nestFieldsOf (f : NestFields) : Option (StartMode × SensorUse) :=
  match startModeOf f.startMode, sensorOf f.sensor with
  | some m, some u =>
    if inRange 1 65535 f.debounce.toNat && inRange 0 4095 f.delay.toNat && !(m == .auto && u == .ignored) then
      some (m, u)
    else none
  | _, _ => none

/-- R89: the carried start mode, sensor or delay differs from the nest's. -/
def Nest.differs (x : Nest) (m : StartMode) (u : SensorUse) (delay : Nat) : Bool :=
  x.startMode != m || x.sensor != u || x.delay != delay

/-- R89. -/
def actWriteNest (nest : Byte) (f : NestFields) (s : State) : Reply × State :=
  match nestOf nest, nestFieldsOf f with
  | some n, some (m, u) =>
    let x := s.nest n
    if x.state.holdsTicket && x.differs m u f.delay.toNat then (Reply.bare .badState, s)
    else
      (Reply.bare .ok,
        s.setNest n { x with startMode := m, sensor := u, debounce := f.debounce.toNat, delay := f.delay.toNat })
  | _, _ => (Reply.bare .badParam, s)

/-- R193: the OK content of READ_NEST after the nest byte. -/
def Nest.content (x : Nest) : List Byte :=
  byte x.startMode.code ++ byte x.sensor.code ++ bytes2 x.debounce ++ bytes2 x.delay ++
    byte (boolCode (x.state != .disabled)) ++ byte x.state.code ++ byte x.level.code ++ byte x.rejectRun ++
    byte (boolCode x.disablePending) ++ bytes2 x.timer

/-- R89. -/
def actReadNest (nest : Byte) (s : State) : Reply × State :=
  match nestOf nest with
  | none => (Reply.bare .badParam, s)
  | some n => (⟨.ok, [nest] ++ (s.nest n).content⟩, s)

/-- R92. -/
def Nest.enable (x : Nest) : Nest :=
  if x.state = .disabled then x.enter .vacant 0 else if x.state.holdsTicket then { x with disablePending := false } else x

/-- R92. -/
def Nest.disable (x : Nest) : Nest :=
  if x.state = .vacant then x.enter .disabled 0 else if x.state.holdsTicket then { x with disablePending := true } else x

/-- R92. -/
def actNestEnable (nest : Byte) (s : State) : Reply × State :=
  match nestOf nest with
  | none => (Reply.bare .badParam, s)
  | some n => (Reply.bare .ok, s.setNest n (s.nest n).enable)

/-- R92. -/
def actNestDisable (nest : Byte) (s : State) : Reply × State :=
  match nestOf nest with
  | none => (Reply.bare .badParam, s)
  | some n => (Reply.bare .ok, s.setNest n (s.nest n).disable)

/-- R95. -/
def actNestStart (nest : Byte) (s : State) : Reply × State :=
  match nestOf nest with
  | none => (Reply.bare .badParam, s)
  | some n =>
    match s.lot with
    | some b =>
      if (s.nest n).startMode = .manual ∧ (s.nest n).state = .vacant ∧ s.ltc.line = .opened then
        (Reply.bare .ok, openTicket n b s)
      else (Reply.bare .badState, s)
    | none => (Reply.bare .badState, s)

/-! ### The line configuration (R183) -/

/-- R183: every field lies in its owner's range (R57, R88, R124, R165). -/
def lineInRange (f : LineFields) : Bool :=
  inRange (-600) 0 f.threshold.toInt && inRange 0 2400 f.pre.toNat && inRange 0 2400 f.post.toNat &&
    inRange 0 4095 f.reportWait.toNat && inRange 0 4095 f.unloadLimit.toNat && inRange 96 65535 f.strobeWidth.toNat &&
    inRange 0 4095 f.markerWait.toNat && kindSetInRange f.stopMask

/-- R57, R88, R124, R165, R183: every field is handed to its owner. -/
def writeLine (f : LineFields) (s : State) : State :=
  { s with
    gdm := { s.gdm with pending := ⟨f.threshold.toInt, f.pre.toNat, f.post.toNat⟩ }
    tkc := { s.tkc with reportWait := f.reportWait.toNat, unloadLimit := f.unloadLimit.toNat }
    bmu := { s.bmu with strobeWidth := f.strobeWidth.toNat, gap := f.gap.toNat, markerWait := f.markerWait.toNat }
    flg := { s.flg with stopMask := f.stopMask } }

/-- R183. -/
def actWriteLine (f : LineFields) (s : State) : Reply × State :=
  if lineInRange f then (Reply.bare .ok, writeLine f s) else (Reply.bare .badParam, s)

/-- R193: the line fields as READ_LINE returns them. -/
def State.lineBytes (s : State) : List Byte :=
  signed2 s.gdm.pending.threshold ++ bytes2 s.gdm.pending.pre ++ bytes2 s.gdm.pending.post ++ bytes2 s.tkc.reportWait ++
    bytes2 s.tkc.unloadLimit ++ bytes2 s.bmu.strobeWidth ++ bytes2 s.bmu.gap ++ bytes2 s.bmu.markerWait ++
    halfBytes s.flg.stopMask

/-- R183. -/
def actReadLine (s : State) : Reply × State := (⟨.ok, s.lineBytes⟩, s)

/-! ### Tickets (R111, R114, R171) -/

/-- R111: TKC takes a release. -/
def releaseNest (n : NestId) (s : State) : State :=
  if (s.nest n).state = .held then enterUnload n s else s

/-- R171, R193. -/
def actReleaseTicket (nest : Byte) (s : State) : Reply × State :=
  match nestOf nest with
  | none => (Reply.bare .badParam, s)
  | some n =>
    match s.flg.held with
    | none => (Reply.bare .notHeld, s)
    | some h =>
      if h.nest = n then
        let t := releaseNest n (s.setFlg { s.flg with held := none })
        (⟨.ok, [nest] ++ bytes4 h.serial ++ byte (t.nest n).state.code⟩, t)
      else (Reply.bare .notHeld, s)

/-- R193: the three bytes of a final disposition. -/
def finalBytes : Option Final → List Byte
  | some f => byte f.disp.code ++ byte f.stage.code ++ byte f.cls.code
  | none => byte 255 ++ byte 255 ++ byte 255

/-- R193: the 16 bytes of one band. -/
def BandTally.bytes (t : BandTally) : List Byte :=
  bytes3 t.judged ++ bytes3 t.void ++ bytes3 t.respExceed ++ bytes3 t.dnExceed ++ bytes3 t.rbExceed ++
    byte (flagByte [t.responseDeclared, t.distortionDeclared, t.rubDeclared])

/-- R193: bytes 3 to 51 of the READ_TICKET reply, and the bands; `noBand` stands for an absent band. -/
def ticketContent (t : Ticket) (y : Tally) (held : Bool) (first count : Nat) (noBand : List Byte) : List Byte :=
  byte (flagByte [true, t.marginal, held, t.firstDefect.isSome, t.firstDefect.any (fun d => d.band.isSome), y.presence]) ++
    bytes4 t.serial ++ bytes4 t.lotId ++ byte t.attempt ++ byte t.disp.code ++
    byte (match t.dispStage with | some g => g.code | none => 255) ++
    byte (match t.dispClass with | some c => c.code | none => 255) ++
    finalBytes t.final ++ byte t.later.code ++
    (match t.firstDefect with | some d => d.bytes noBand | none => List.replicate 12 0) ++
    blockIndexBytes t.lastDriven ++ blockIndexBytes t.lastJudged ++ bytes3 y.polarityWrong ++ bytes3 y.unbanded ++
    bytes3 y.judged ++ bytes3 y.void ++ byte first ++ byte count ++
    ((y.bands.toList.drop first).take count).flatMap BandTally.bytes

/-- R114; the byte of an absent defect band is a free value (R193 gives none: DESIGN CHOICE,
assumption log 6). -/
def actReadTicket (nest first count : Byte) (s : State) : Reply × State :=
  match nestOf nest with
  | none => (Reply.bare .badParam, s)
  | some n =>
    if 8 < count.toNat ∨ 32 < first.toNat + count.toNat then (Reply.bare .badParam, s)
    else
      match (s.nest n).ticket with
      | none => (⟨.ok, [nest] ++ byte (s.nest n).state.code ++ byte 0⟩, s)
      | some t =>
        (⟨.ok, [nest] ++ byte (s.nest n).state.code ++
            ticketContent t (s.tally n) (s.isHeld n t.serial) first.toNat count.toNat [Config.freeByte s.free]⟩,
          { s with free := s.free + 1 })

/-! ### Counters (R143, R144) -/

/-- R144, R193: the OK content of READ_COUNTERS, from the snapshot. -/
def Yield.content (y : Yield) (page : Nat) : List Byte :=
  byte page ++ [y.number] ++ byte (boolCode y.cleared) ++ (y.snap.page page).flatMap bytes4

/-- R143. -/
def actReadCounters (page flags : Byte) (s : State) : Reply × State :=
  let clear := flags.getLsbD 0
  if 5 < page.toNat ∨ (clear = true ∧ page ≠ 0) then (Reply.bare .badParam, s)
  else if page = 0 then
    let y := s.yct.take clear
    (⟨.ok, y.content 0⟩, s.setYct y)
  else if s.yct.present then (⟨.ok, s.yct.content page.toNat⟩, s)
  else (Reply.bare .badState, s)

/-! ### The fault log (R168, R170, R172) -/

/-- The k-th, …, (k + n − 1)-th free value from the present one (assumption log 6). -/
def State.freeBytes (s : State) (k n : Nat) : List Byte :=
  (List.range n).map (fun i => Config.freeByte (s.free + k + i))

/-- R193: bytes 3 to 13 of the READ_FAULTS reply; the bytes of what is absent are free values. -/
def State.firstBytes (s : State) : List Byte :=
  match s.flg.first with
  | none => s.freeBytes 0 11
  | some r =>
    bytes4 r.stamp ++ (match r.nest with | some n => byte n.val | none => s.freeBytes 4 1) ++
      (match r.serial with | some k => bytes4 k | none => s.freeBytes 5 4) ++ halfBytes r.detail

/-- R193: the held-ticket reference in a reply. -/
def heldBytes : Option HeldRef → List Byte
  | some h => byte h.nest.val ++ bytes4 h.serial
  | none => byte 255 ++ bytes4 0

/-- R170, R193. -/
def actReadFaults (s : State) : Reply × State :=
  (⟨.ok,
      byte (flagByte [s.flg.first.isSome, s.flg.first.any (fun r => r.nest.isSome),
        s.flg.first.any (fun r => r.serial.isSome), s.flg.lineStop, s.flg.armed]) ++
      byte (match s.flg.first with | some r => r.kind.code | none => 0) ++ s.firstBytes ++ halfBytes s.flg.next ++
      heldBytes s.flg.held⟩,
    { s with free := s.free + 11 })

/-- R172: the log after a clear answered OK. -/
def FaultLog.clear (f : FaultLog) (first : Bool) (kinds : Half) : FaultLog :=
  { f with next := f.next &&& ~~~kinds, first := if first then none else f.first }

/-- R193: the content of every reply to CLEAR_FAULTS. -/
def FaultLog.clearContent (f : FaultLog) : List Byte := byte (boolCode f.first.isSome) ++ halfBytes f.next

/-- R172. -/
def actClearFaults (flags : Byte) (kinds : Half) (s : State) : Reply × State :=
  let first := flags.getLsbD 0
  if !kindSetInRange kinds then (⟨.badParam, s.flg.clearContent⟩, s)
  else if first && s.flg.held.isSome then (⟨.badState, s.flg.clearContent⟩, s)
  else
    let f := s.flg.clear first kinds
    (⟨.ok, f.clearContent⟩, s.setFlg f)

/-- R168: a stop-enabled kind stands in the log. -/
def FaultLog.stopLogged (f : FaultLog) : Bool :=
  f.first.any (fun r => hasKind f.stopMask r.kind) || f.next &&& f.stopMask != 0

/-- R168: steps 1 to 3. -/
def FaultLog.resume (f : FaultLog) : FaultLog := { f with lineStop := f.stopLogged, armed := !f.stopLogged }

/-- R168. -/
def actResumeLine (s : State) : Reply × State :=
  let f := s.flg.resume
  (⟨.ok, byte (flagByte [f.lineStop, f.armed])⟩, s.setFlg f)

/-! ### Taps, status, line reset (R29, R184, R185) -/

/-- R193: the content of every reply to SET_TAP. -/
def FrontLink.tapBytes (f : FrontLink) : List Byte := f.taps.toList.flatMap TapSlot.bytes

/-- R29. -/
def actSetTap (slot source nest : Byte) (s : State) : Reply × State :=
  match tapSourceOf source nest with
  | none => (⟨.badParam, s.fli.tapBytes⟩, s)
  | some src =>
    if h : slot.toNat < 2 then
      let f := { s.fli with taps := s.fli.taps.set slot.toNat { s.fli.taps[slot.toNat] with pending := some src } }
      (⟨.ok, f.tapBytes⟩, s.setFli f)
    else (⟨.badParam, s.fli.tapBytes⟩, s)

/-- R184, R193: the lot id in OPEN, CLOSING and CLOSED, 0 in NO_LOT. -/
def State.lotIdCode (s : State) : Nat :=
  if s.ltc.line = .noLot then 0 else (s.lot.map (fun b => b.lotId)).getD 0

/-- R184, R193: the 25 bytes after the result. -/
def State.statusContent (s : State) : List Byte :=
  bytes2 Config.identityCode ++ bytes2 Config.revisionCode ++ byte s.ltc.line.code ++ bytes4 s.lotIdCode ++
    byte s.fli.link.code ++ s.tkc.nests.toList.flatMap (fun x => byte x.state.code) ++ heldBytes s.flg.held ++
    byte (boolCode s.flg.lineStop) ++ byte (boolCode s.flg.armed)

/-- R184. -/
def actStatus (s : State) : Reply × State := (⟨.ok, s.statusContent⟩, s)

/-- R185: answered OK with nothing yet reset. -/
def actLineReset (s : State) : Reply × State := (Reply.bare .ok, s)

/-! ### Taking a request (R181) -/

/-- R181: a request goes to its owner. -/
def act (r : Request) (s : State) : Reply × State :=
  match r with
  | .status => actStatus s
  | .writeSegment index f => actWriteSegment index f s
  | .readSegment index => actReadSegment index s
  | .writeLimitHeader set f => actWriteLimitHeader set f s
  | .writeBand set index f => actWriteBand set index f s
  | .readLimit set selector => actReadLimit set selector s
  | .writeBinmap first count es => actWriteBinmap first count es s
  | .readBinmap first count => actReadBinmap first count s
  | .writeNest nest f => actWriteNest nest f s
  | .readNest nest => actReadNest nest s
  | .writeLine f => actWriteLine f s
  | .readLine => actReadLine s
  | .lotOpen f => actLotOpen f s
  | .lotClose => actLotClose s
  | .lotAbort => actLotAbort s
  | .nestStart nest => actNestStart nest s
  | .nestEnable nest => actNestEnable nest s
  | .nestDisable nest => actNestDisable nest s
  | .releaseTicket nest => actReleaseTicket nest s
  | .readTicket nest first count => actReadTicket nest first count s
  | .readCounters page flags => actReadCounters page flags s
  | .readFaults => actReadFaults s
  | .clearFaults flags kinds => actClearFaults flags kinds s
  | .resumeLine => actResumeLine s
  | .setTap slot source nest => actSetTap slot source nest s
  | .lineReset => actLineReset s

/-- R181: a taken cell's effect and result. -/
def actParsed (p : Parsed) (s : State) : Reply × State :=
  match p with
  | .unknown => (Reply.bare .unknown, s)
  | .short => (Reply.bare .badParam, s)
  | .request r => act r s

end Sys2Proof.Machine
end

