-- ==== Sys2Proof/Machine/Service.lean ====
section
/-! DEFINITION. The Service Controller (R175 to R182, R186 to R188): the assembler, the request queue, the
reply slot, the upstream arbiter, and the request commands.

A request command is the arrival of a good cell that carries it (R180): it is taken at once when the
queue and the reply slot are empty, joins a queue of fewer than 4, and is discarded otherwise (DESIGN CHOICE,
assumption log 10). -/

namespace Sys2Proof.Machine

open Sys2Proof Host

/-! ### The request queue (R180 to R182) -/

/-- R181, R182: a request is taken: its owner acts, and the reply is placed in the reply slot. -/
def answer (type tag : Byte) (taken : State → Reply × State) (s : State) : State :=
  let (r, t) := taken s
  t.setSvc { t.svc with reply := r.cells type tag }

/-- R181: a cell of the request queue is taken. -/
def takeCell (c : Cell) (s : State) : State := answer c.type c.tag (actParsed (Request.parse c.type c.payload)) s

/-- R180: the raising of REQUEST_OVERRUN. -/
def overrun (c : Cell) (s : State) : State := raiseFault ⟨.requestOverrun, s.now, none, none, c.type ++ c.tag⟩ s

/-- R180: a good cell is offered; `taken` is what its taking does. -/
def offerCell (c : Cell) (taken : State → State) (s : State) : State :=
  if Config.requestPlaces ≤ s.svc.requests.length then overrun c s
  else if s.svc.requests.isEmpty && s.svc.reply.isEmpty then taken s
  else s.setSvc { s.svc with requests := s.svc.requests ++ [c] }

/-- R180, R181: the arrival of a good cell that carries a request. -/
def arrive (r : Request) (tag : Byte) (taken : State → Reply × State) (s : State) : State :=
  offerCell (r.cell tag) (answer r.type tag taken) s

/-! ### The assembler (R177 to R179) -/

/-- R177: the assembler with no cell being received. -/
def Service.rest (v : Service) (st : AsmState) : Service := { v with asm := st, asmWords := 0, asmBytes := [] }

/-- R177: a cell begins with a FIRST word. -/
def Service.beginCell (v : Service) (w : Word) : Service :=
  { v with asm := .assembling, asmWords := 1, asmBytes := wordContent w }

/-- R177: a MIDDLE word of the cell in progress is kept. -/
def Service.keepWord (v : Service) (w : Word) : Service :=
  { v with asmWords := v.asmWords + 1, asmBytes := v.asmBytes ++ wordContent w }

/-- R179: an error in what the station sent. -/
def cellError (cause : Nat) (s : State) : State :=
  countCellError (raiseFault ⟨.cellCheck, s.now, none, none, BitVec.ofNat 16 cause⟩ s)

/-- R178: the cell's length fits its words. -/
def lengthFits (bytes : List Byte) (n : Nat) : Bool :=
  let p := (byteAt bytes 2).toNat
  decide (p ≤ 90) && decide (n = cellWordCount p)

/-- R178: the checksum is that of the bytes before it. -/
def checksumFits (bytes : List Byte) (n : Nat) : Bool :=
  byteSum (bytes.take (3 * n - 2)) == (halfAt bytes (3 * n - 2)).toNat

/-- R176: the cell that these content bytes spell. -/
def cellOf (bytes : List Byte) : Cell :=
  ⟨byteAt bytes 0, byteAt bytes 1, (bytes.drop 3).take (byteAt bytes 2).toNat⟩

/-- R178, R180: a LAST word has ended a cell of n words. -/
def checkCell (bytes : List Byte) (n : Nat) (s : State) : State :=
  if !lengthFits bytes n then cellError 5 s
  else if !checksumFits bytes n then cellError 1 s
  else offerCell (cellOf bytes) (takeCell (cellOf bytes)) s

/-- R177: the assembler takes a downstream management word. -/
def assemble (w : Word) (s : State) : State :=
  let v := s.svc
  match v.asm, wordKind w with
  | .waiting, .idle => s
  | .waiting, .first => s.setSvc (v.beginCell w)
  | .waiting, .middle => cellError 3 (s.setSvc (v.rest .discarding))
  | .waiting, .last => cellError 3 s
  | .assembling, .idle => s
  | .assembling, .first => cellError 2 (s.setSvc (v.beginCell w))
  | .assembling, .middle =>
    if v.asmWords + 1 = 33 then cellError 4 (s.setSvc (v.rest .discarding)) else s.setSvc (v.keepWord w)
  | .assembling, .last =>
    if v.asmWords + 1 = 33 then cellError 4 (s.setSvc (v.rest .waiting))
    else checkCell (v.asmBytes ++ wordContent w) (v.asmWords + 1) (s.setSvc (v.rest .waiting))
  | .discarding, .idle => s
  | .discarding, .first => s.setSvc (v.beginCell w)
  | .discarding, .middle => s
  | .discarding, .last => s.setSvc (v.rest .waiting)

/-! ### The upstream arbiter (R175, R188) -/

/-- R188: the cell that the arbiter selects. -/
def Service.nextCell (v : Service) : Option (UpSource × Cell) :=
  match v.reply, v.notices, v.reports with
  | c :: _, _, _ => some (.reply, c)
  | [], c :: _, _ => some (.notice, c)
  | [], [], c :: _ => some (.report, c)
  | [], [], [] => none

/-- R188: a selection, with no cell in progress. -/
def Service.select (v : Service) : Service :=
  match v.nextCell with
  | some (src, c) => { v with up := some ⟨src, c, 1⟩, upWord := c.word 0, upChosen := true }
  | none => { v with up := none, upWord := idleWord, upChosen := true }

/-- R175: the choice of the upstream word of the next frame; a cell whose last word has been sent is
left to UPSTREAM_CELL_END and LINE_RESET_ACTION. -/
def Service.choose (v : Service) : Service :=
  if v.upChosen then v
  else
    match v.up with
    | none => v.select
    | some u =>
      if u.index < u.cell.wordCount then
        { v with up := some { u with index := u.index + 1 }, upWord := u.cell.word u.index, upChosen := true }
      else v

/-- MANAGEMENT_WORD (R175, R177 to R180): the downstream word is taken, and the next upstream word is
chosen (DESIGN CHOICE, assumption log 12). -/
def execManagementWord (w : Word) (s : State) : Outcome State Fault Refusal :=
  let s := assemble w s
  .next (s.setSvc s.svc.choose)

/-- R188: the last word of the cell in progress has been sent at this frame-end. -/
def Service.endedCell (v : Service) : Option UpCell :=
  match v.up with
  | some u => if u.index = u.cell.wordCount ∧ v.upChosen = false then some u else none
  | none => none

/-- R185: the cell is the reply of LINE_RESET, of type 154. -/
def UpCell.endsLineReset (u : UpCell) : Bool := u.source == .reply && u.cell.type == 154

/-- R181, R186, R187: the sent cell leaves its place. -/
def Service.sent (v : Service) (src : UpSource) : Service :=
  match src with
  | .reply => { v with up := none, reply := v.reply.tail }
  | .notice => { v with up := none, notices := v.notices.tail }
  | .report => { v with up := none, reports := v.reports.tail }

/-- R181: at the frame-end in which the reply slot empties, the oldest request is taken. -/
def takeWaiting (s : State) : State :=
  match s.svc.reply, s.svc.requests with
  | [], c :: rest => takeCell c (s.setSvc { s.svc with requests := rest })
  | _, _ => s

/-- R181, R186 to R188: the end of an upstream cell. -/
def endCell (src : UpSource) (s : State) : State :=
  let s := s.setSvc (s.svc.sent src)
  let s := match src with
    | .reply => takeWaiting s
    | .notice => s
    | .report => s
  s.setSvc s.svc.select

/-- UPSTREAM_CELL_END (R181, R186 to R188). -/
def execUpstreamCellEnd (s : State) : Outcome State Fault Refusal :=
  match s.svc.endedCell with
  | some u => if u.endsLineReset then .next s else .next (endCell u.source s)
  | none => .next s

/-- R191: the bytes of the upstream line link frame: the management word and the two tap slots. -/
def State.lineFrameBytes (s : State) : List Byte :=
  wordBytes s.svc.upWord ++ s.fli.taps.toList.flatMap (fun t => sampleBytes t.carried)

/-! ### The request commands -/

/-- STATUS (R184). -/
def execStatus (tag : Byte) (s : State) : Outcome State Fault Refusal :=
  .next (arrive .status tag actStatus s)

/-- WRITE_SEGMENT (R6). -/
def execWriteSegment (tag index : Byte) (f : SegmentFields) (s : State) : Outcome State Fault Refusal :=
  .next (arrive (.writeSegment index f) tag (actWriteSegment index f) s)

/-- READ_SEGMENT (R7). -/
def execReadSegment (tag index : Byte) (s : State) : Outcome State Fault Refusal :=
  .next (arrive (.readSegment index) tag (actReadSegment index) s)

/-- WRITE_LIMIT_HEADER (R66). -/
def execWriteLimitHeader (tag set : Byte) (f : HeaderFields) (s : State) : Outcome State Fault Refusal :=
  .next (arrive (.writeLimitHeader set f) tag (actWriteLimitHeader set f) s)

/-- WRITE_BAND (R67). -/
def execWriteBand (tag set index : Byte) (f : BandFields) (s : State) : Outcome State Fault Refusal :=
  .next (arrive (.writeBand set index f) tag (actWriteBand set index f) s)

/-- READ_LIMIT (R68). -/
def execReadLimit (tag set selector : Byte) (s : State) : Outcome State Fault Refusal :=
  .next (arrive (.readLimit set selector) tag (actReadLimit set selector) s)

/-- WRITE_BINMAP (R119). -/
def execWriteBinmap (tag first count : Byte) (es : List BinFields) (s : State) : Outcome State Fault Refusal :=
  .next (arrive (.writeBinmap first count es) tag (actWriteBinmap first count es) s)

/-- READ_BINMAP (R120). -/
def execReadBinmap (tag first count : Byte) (s : State) : Outcome State Fault Refusal :=
  .next (arrive (.readBinmap first count) tag (actReadBinmap first count) s)

/-- WRITE_NEST (R89). -/
def execWriteNest (tag nest : Byte) (f : NestFields) (s : State) : Outcome State Fault Refusal :=
  .next (arrive (.writeNest nest f) tag (actWriteNest nest f) s)

/-- READ_NEST (R89). -/
def execReadNest (tag nest : Byte) (s : State) : Outcome State Fault Refusal :=
  .next (arrive (.readNest nest) tag (actReadNest nest) s)

/-- WRITE_LINE (R183). -/
def execWriteLine (tag : Byte) (f : LineFields) (s : State) : Outcome State Fault Refusal :=
  .next (arrive (.writeLine f) tag (actWriteLine f) s)

/-- READ_LINE (R183). -/
def execReadLine (tag : Byte) (s : State) : Outcome State Fault Refusal :=
  .next (arrive .readLine tag actReadLine s)

/-- LOT_OPEN (R149 to R151). -/
def execLotOpen (tag : Byte) (f : LotFields) (s : State) : Outcome State Fault Refusal :=
  .next (arrive (.lotOpen f) tag (actLotOpen f) s)

/-- LOT_CLOSE (R155). -/
def execLotClose (tag : Byte) (s : State) : Outcome State Fault Refusal :=
  .next (arrive .lotClose tag actLotClose s)

/-- LOT_ABORT (R157). -/
def execLotAbort (tag : Byte) (s : State) : Outcome State Fault Refusal :=
  .next (arrive .lotAbort tag actLotAbort s)

/-- NEST_START (R95). -/
def execNestStart (tag nest : Byte) (s : State) : Outcome State Fault Refusal :=
  .next (arrive (.nestStart nest) tag (actNestStart nest) s)

/-- NEST_ENABLE (R92). -/
def execNestEnable (tag nest : Byte) (s : State) : Outcome State Fault Refusal :=
  .next (arrive (.nestEnable nest) tag (actNestEnable nest) s)

/-- NEST_DISABLE (R92). -/
def execNestDisable (tag nest : Byte) (s : State) : Outcome State Fault Refusal :=
  .next (arrive (.nestDisable nest) tag (actNestDisable nest) s)

/-- RELEASE_TICKET (R111, R171). -/
def execReleaseTicket (tag nest : Byte) (s : State) : Outcome State Fault Refusal :=
  .next (arrive (.releaseTicket nest) tag (actReleaseTicket nest) s)

/-- READ_TICKET (R114). -/
def execReadTicket (tag nest first count : Byte) (s : State) : Outcome State Fault Refusal :=
  .next (arrive (.readTicket nest first count) tag (actReadTicket nest first count) s)

/-- READ_COUNTERS (R143, R144). -/
def execReadCounters (tag page flags : Byte) (s : State) : Outcome State Fault Refusal :=
  .next (arrive (.readCounters page flags) tag (actReadCounters page flags) s)

/-- READ_FAULTS (R170). -/
def execReadFaults (tag : Byte) (s : State) : Outcome State Fault Refusal :=
  .next (arrive .readFaults tag actReadFaults s)

/-- CLEAR_FAULTS (R172). -/
def execClearFaults (tag flags : Byte) (kinds : Half) (s : State) : Outcome State Fault Refusal :=
  .next (arrive (.clearFaults flags kinds) tag (actClearFaults flags kinds) s)

/-- RESUME_LINE (R168). -/
def execResumeLine (tag : Byte) (s : State) : Outcome State Fault Refusal :=
  .next (arrive .resumeLine tag actResumeLine s)

/-- SET_TAP (R29). -/
def execSetTap (tag slot source nest : Byte) (s : State) : Outcome State Fault Refusal :=
  .next (arrive (.setTap slot source nest) tag (actSetTap slot source nest) s)

/-- LINE_RESET (R185). -/
def execLineReset (tag : Byte) (s : State) : Outcome State Fault Refusal :=
  .next (arrive .lineReset tag actLineReset s)

/-- UNKNOWN_REQUEST (R181): the arrival of a good cell with this type, tag and payload. -/
def execUnknownRequest (type tag : Byte) (payload : List Byte) (s : State) : Outcome State Fault Refusal :=
  .next (offerCell ⟨type, tag, payload⟩ (takeCell ⟨type, tag, payload⟩) s)

end Sys2Proof.Machine
end

