-- ==== Sys2Proof/Machine/Resets.lean ====
section
/-! DEFINITION. The three resets (0.6.7), each block by its own rule: R1, R5, R14, R24, R29, R34, R57, R63
to R65, R72, R88, R90, R115, R116, R118, R124, R130, R146, R160, R165, R174, R185, R189. -/

namespace Sys2Proof.Machine

open Sys2Proof Host

/-- The state after a power-on reset: that of `State.reset`.  The commands that wait are outside the
part, and the free values already read stay read (DESIGN CHOICE, assumption log 2). -/
def powerOn (s : State) : State := { State.reset with free := s.free, pending := s.pending }

/-- POWER_ON_RESET. -/
def execPowerOnReset (s : State) : Outcome State Fault Refusal := .next (powerOn s)

/-- The state after a warm reset: the segment table, the limit sets, the bin map, the first record and
the next-fault set are kept (R5, R64, R65, R118, R174). -/
def warmReset (s : State) : State :=
  { powerOn s with
    swg := { State.reset.swg with segments := s.swg.segments }
    jdu := { State.reset.jdu with sets := s.jdu.sets }
    bmu := { State.reset.bmu with binMap := s.bmu.binMap }
    flg := { State.reset.flg with first := s.flg.first, next := s.flg.next } }

/-- WARM_RESET. -/
def execWarmReset (s : State) : Outcome State Fault Refusal := .next (warmReset s)

/-- R63: GDM after a line reset; the guard block in progress and the configuration are kept. -/
def GuardMon.lineReset (g : GuardMon) : GuardMon := { g with trips := [], saturated := false, lastDiscard := none }

/-- R115: a nest after a line reset. -/
def Nest.lineReset (x : Nest) : Nest :=
  { x with state := if x.state = .disabled then .disabled else .vacant, ticket := none, disablePending := false,
           verdict := false, timer := 0, expiry := none, drive := .idle, rejectRun := 0 }

/-- R130: BMU after a line reset. -/
def BinMarker.lineReset (b : BinMarker) : BinMarker := { b with queue := [], port := .idle, timer := 0, expiry := none }

/-- R174: FLG after a line reset. -/
def FaultLog.lineReset (f : FaultLog) : FaultLog := { f with held := none, lineStop := false, armed := true }

/-- R185, R189: SVC after a line reset; the assembler and the sequences are kept. -/
def Service.lineReset (v : Service) : Service :=
  { v with requests := [], reply := [], notices := [], reports := [], up := none, upWord := idleWord }

/-- R14, R34, R63, R72, R115, R130, R160, R174, R189: the line reset of every block; TMB, FLI and YCT keep
what they have (R1, R24, R29, R146). -/
def lineReset (s : State) : State :=
  { s with
    swg := { s.swg with ctx := Vector.replicate 8 SweepCtx.reset }
    bka := Vector.replicate 8 Analysis.reset
    gdm := s.gdm.lineReset
    jdu := { s.jdu with tally := Vector.replicate 8 Tally.zero }
    tkc := { s.tkc with nests := s.tkc.nests.map Nest.lineReset }
    bmu := s.bmu.lineReset
    ltc := LotCtl.reset
    flg := s.flg.lineReset
    svc := s.svc.lineReset }

/-- LINE_RESET_ACTION (R185): the last word of the LINE_RESET reply has been sent at this frame-end. -/
def execLineResetAction (s : State) : Outcome State Fault Refusal :=
  match s.svc.endedCell with
  | some u => if u.endsLineReset then .next (lineReset s) else .next s
  | none => .next s

end Sys2Proof.Machine
end

