-- ==== Sys2Proof/Machine/Dispatch.lean ====
section
/-! DEFINITION. The meaning of every command: one arm per row of spec/opcode_table.json, in its order. -/

namespace Sys2Proof.Machine

open Sys2Proof

def exec (i : Instr) (s : State) : Host.Outcome State Fault Refusal :=
  match i with
  | .powerOnReset => Sys2Proof.Machine.execPowerOnReset s
  | .warmReset => Sys2Proof.Machine.execWarmReset s
  | .upstreamFrontFrame frame sensors ready => Sys2Proof.Machine.execUpstreamFrontFrame frame sensors ready s
  | .frontLost => Sys2Proof.Machine.execFrontLost s
  | .globalBlockBoundary => Sys2Proof.Machine.execGlobalBlockBoundary s
  | .sweepStart nest => Sys2Proof.Machine.execSweepStart nest s
  | .driveBlockEnd nest => Sys2Proof.Machine.execDriveBlockEnd nest s
  | .analysisBlockOpen nest => Sys2Proof.Machine.execAnalysisBlockOpen nest s
  | .analysisBlockComplete nest => Sys2Proof.Machine.execAnalysisBlockComplete nest s
  | .blockDeparture nest => Sys2Proof.Machine.execBlockDeparture nest s
  | .drainComplete nest => Sys2Proof.Machine.execDrainComplete nest s
  | .reportTaken nest => Sys2Proof.Machine.execReportTaken nest s
  | .entryDelayExpiry nest => Sys2Proof.Machine.execEntryDelayExpiry nest s
  | .retestDelayExpiry nest => Sys2Proof.Machine.execRetestDelayExpiry nest s
  | .reportStall nest => Sys2Proof.Machine.execReportStall nest s
  | .nestStuck nest => Sys2Proof.Machine.execNestStuck nest s
  | .closeEvent nest => Sys2Proof.Machine.execCloseEvent nest s
  | .openEvent nest => Sys2Proof.Machine.execOpenEvent nest s
  | .guardBlockClose => Sys2Proof.Machine.execGuardBlockClose s
  | .tripRecordRemoval => Sys2Proof.Machine.execTripRecordRemoval s
  | .saturationEnd => Sys2Proof.Machine.execSaturationEnd s
  | .guardConfigTakeEffect => Sys2Proof.Machine.execGuardConfigTakeEffect s
  | .tapChange => Sys2Proof.Machine.execTapChange s
  | .markerJobStart => Sys2Proof.Machine.execMarkerJobStart s
  | .markerStrobeStart => Sys2Proof.Machine.execMarkerStrobeStart s
  | .markerGapStart => Sys2Proof.Machine.execMarkerGapStart s
  | .markerJobRemove => Sys2Proof.Machine.execMarkerJobRemove s
  | .markerStall => Sys2Proof.Machine.execMarkerStall s
  | .managementWord word => Sys2Proof.Machine.execManagementWord word s
  | .upstreamCellEnd => Sys2Proof.Machine.execUpstreamCellEnd s
  | .status tag => Sys2Proof.Machine.execStatus tag s
  | .writeSegment tag index entry => Sys2Proof.Machine.execWriteSegment tag index entry s
  | .readSegment tag index => Sys2Proof.Machine.execReadSegment tag index s
  | .writeLimitHeader tag set header => Sys2Proof.Machine.execWriteLimitHeader tag set header s
  | .writeBand tag set index band => Sys2Proof.Machine.execWriteBand tag set index band s
  | .readLimit tag set selector => Sys2Proof.Machine.execReadLimit tag set selector s
  | .writeBinmap tag first count entries => Sys2Proof.Machine.execWriteBinmap tag first count entries s
  | .readBinmap tag first count => Sys2Proof.Machine.execReadBinmap tag first count s
  | .writeNest tag nest fields => Sys2Proof.Machine.execWriteNest tag nest fields s
  | .readNest tag nest => Sys2Proof.Machine.execReadNest tag nest s
  | .writeLine tag fields => Sys2Proof.Machine.execWriteLine tag fields s
  | .readLine tag => Sys2Proof.Machine.execReadLine tag s
  | .lotOpen tag fields => Sys2Proof.Machine.execLotOpen tag fields s
  | .lotClose tag => Sys2Proof.Machine.execLotClose tag s
  | .lotAbort tag => Sys2Proof.Machine.execLotAbort tag s
  | .nestStart tag nest => Sys2Proof.Machine.execNestStart tag nest s
  | .nestEnable tag nest => Sys2Proof.Machine.execNestEnable tag nest s
  | .nestDisable tag nest => Sys2Proof.Machine.execNestDisable tag nest s
  | .releaseTicket tag nest => Sys2Proof.Machine.execReleaseTicket tag nest s
  | .readTicket tag nest first count => Sys2Proof.Machine.execReadTicket tag nest first count s
  | .readCounters tag page flags => Sys2Proof.Machine.execReadCounters tag page flags s
  | .readFaults tag => Sys2Proof.Machine.execReadFaults tag s
  | .clearFaults tag flags kinds => Sys2Proof.Machine.execClearFaults tag flags kinds s
  | .resumeLine tag => Sys2Proof.Machine.execResumeLine tag s
  | .setTap tag slot source nest => Sys2Proof.Machine.execSetTap tag slot source nest s
  | .lineReset tag => Sys2Proof.Machine.execLineReset tag s
  | .lineResetAction => Sys2Proof.Machine.execLineResetAction s
  | .unknownRequest type tag payload => Sys2Proof.Machine.execUnknownRequest type tag payload s

end Sys2Proof.Machine
end

