-- ==== Sys2Proof/Safety.lean ====
section
/-! DEFINITION. What counts as a sound state and a sound step: the laws of the part that the manual names
as such, in the terms the statements use. -/

namespace Sys2Proof.Machine

open Sys2Proof

/-- R181: a request that arrives now is taken at once: none waits and no reply is being sent. -/
abbrev State.quiet (s : State) : Prop := s.svc.requests = [] ∧ s.svc.reply = []

/-- The state with a reply of one cell in the reply slot (R182). -/
def State.replying (s : State) (type tag : Byte) (payload : List Byte) : State :=
  { s with svc := { s.svc with reply := [⟨type, tag, payload⟩] } }

/-- The command that is the arrival of a request with a tag. -/
def Request.command (r : Request) (tag : Byte) : Instr :=
  match r with
  | .status => .status tag
  | .writeSegment index e => .writeSegment tag index e
  | .readSegment index => .readSegment tag index
  | .writeLimitHeader set h => .writeLimitHeader tag set h
  | .writeBand set index b => .writeBand tag set index b
  | .readLimit set selector => .readLimit tag set selector
  | .writeBinmap first count es => .writeBinmap tag first count es
  | .readBinmap first count => .readBinmap tag first count
  | .writeNest nest f => .writeNest tag nest f
  | .readNest nest => .readNest tag nest
  | .writeLine f => .writeLine tag f
  | .readLine => .readLine tag
  | .lotOpen f => .lotOpen tag f
  | .lotClose => .lotClose tag
  | .lotAbort => .lotAbort tag
  | .nestStart nest => .nestStart tag nest
  | .nestEnable nest => .nestEnable tag nest
  | .nestDisable nest => .nestDisable tag nest
  | .releaseTicket nest => .releaseTicket tag nest
  | .readTicket nest first count => .readTicket tag nest first count
  | .readCounters page flags => .readCounters tag page flags
  | .readFaults => .readFaults tag
  | .clearFaults flags kinds => .clearFaults tag flags kinds
  | .resumeLine => .resumeLine tag
  | .setTap slot source nest => .setTap tag slot source nest
  | .lineReset => .lineReset tag

/-! ### What a ticket open and a chain are -/

/-- R94, R97: what a ticket open in nest n under the binding b makes of `s`. -/
def TicketOpened (n : NestId) (b : Binding) (s t : State) : Prop :=
  (t.nest n).ticket =
      some { serial := b.nextSerial, lotId := b.lotId, attempt := 1, disp := .opened, dispStage := none,
             dispClass := none, marginal := false, firstDefect := none, later := ⟨false, false, false, false⟩,
             lastDriven := none, lastJudged := none, final := none, entry := none } ∧
    (t.nest n).state = .entry ∧ (t.nest n).timer = b.entryDelay ∧
    t.ltc = { s.ltc with binding := some { b with nextSerial := (b.nextSerial + 1) % 2 ^ 32 },
                         ticketCount := s.ltc.ticketCount + 1 } ∧
    t.tally n = Tally.zero ∧
    t.yct = { s.yct with live := { s.yct.live with tickets := countUp s.yct.live.tickets } } ∧
    t.fli = { s.fli with lastOpened := some n } ∧
    (if b.entryDelay = 0 ∧ s.tkc.linkView = .locked ∧ (s.nest n).drive = .idle then
      (t.nest n).drive = .starting ∧ ((s.ctx n).state = .idle → (t.ctx n).state = .armed ∧ (t.ana n).state = .waiting)
    else (t.nest n).drive = (s.nest n).drive ∧ t.ctx n = s.ctx n ∧ t.ana n = s.ana n) ∧
    (∀ m, m ≠ n → t.nest m = s.nest m ∧ t.ctx m = s.ctx m ∧ t.ana m = s.ana m ∧ t.tally m = s.tally m) ∧
    t.swg.segments = s.swg.segments ∧ t.jdu.sets = s.jdu.sets ∧ t.tmb = s.tmb ∧ t.gdm = s.gdm ∧ t.bmu = s.bmu ∧
    t.flg = s.flg ∧ t.svc = s.svc ∧ t.pending = s.pending

/-- R107, R121, R122: what entry to REPORT of nest n, with the ticket x and the final disposition f, makes of `s`. -/
def EnteredReport (n : NestId) (b : Binding) (x : Ticket) (f : Final) (s t : State) : Prop :=
  let index := match b.keyMode with
    | .cls => b.binBase + f.cls.code
    | .clsNest => b.binBase + f.cls.code * 8 + n.val
    | .clsAttempt => b.binBase + f.cls.code * 4 + (x.attempt - 1)
  (t.nest n).state = .report ∧ (t.nest n).timer = s.tkc.reportWait ∧
    ∀ h : index < 256, (t.nest n).ticket = some { x with final := some f, entry := some s.bmu.binMap[index] }

/-- R99: a ticket after a proposal of ABORT at a stage. -/
def Ticket.AbortedTo (x y : Ticket) (stage : Stage) : Prop :=
  y.serial = x.serial ∧ y.attempt = x.attempt ∧ y.marginal = x.marginal ∧ y.firstDefect = x.firstDefect ∧
    y.later = x.later ∧
    (x.disp = .reject ∨ x.disp = .abort → y.disp = x.disp ∧ y.dispStage = x.dispStage ∧ y.dispClass = x.dispClass) ∧
    (x.disp ≠ .reject → x.disp ≠ .abort → y.disp = .abort ∧ y.dispStage = some stage ∧ y.dispClass = some .abort)

/-- R100, R157, R159: what an ABORT proposed to the ticket of nest n, in one of the four states of a test, makes
of `s`; other nests may have been proposed to as well. -/
def TestAborted (n : NestId) (s t : State) : Prop :=
  ∀ x, (s.nest n).ticket = some x → ∃ y, (t.nest n).ticket = some y ∧ x.AbortedTo y (s.currentStage n) ∧
    ((s.nest n).state = .entry ∨ (s.nest n).state = .retestWait →
      (t.nest n).state = .drain ∧ (t.nest n).timer = 0 ∧ y.lastDriven = none ∧
        ((s.nest n).drive = .starting → (s.ctx n).state = .armed →
          (t.nest n).drive = .idle ∧ (t.ctx n).state = .idle)) ∧
    ((s.nest n).state = .sweep → (s.ctx n).state = .running →
      t.ctx n = { s.ctx n with stopRequested := true } ∧ (t.nest n).state = .sweep) ∧
    ((s.nest n).state = .drain → (t.nest n).state = .drain ∧ t.ctx n = s.ctx n)

/-- R162, R167, R186: the log after NOTICE_OVERFLOW, kind code 10, has arrived at `f` for a notice lost at `stamp`; it
names no nest and no serial and captures nothing. -/
def FaultLog.OverflowArrived (f g : FaultLog) (stamp : Nat) (detail : Half) : Prop :=
  let clean := f.first = none ∧ f.next = 0
  let stops := f.stopMask.getLsbD 10 = true ∧ f.armed = true
  g.held = f.held ∧ g.stopMask = f.stopMask ∧
    (clean → g.first = some ⟨.noticeOverflow, stamp, none, none, detail⟩ ∧ g.next = 0) ∧
    (¬clean → g.first = f.first ∧ ∀ k, g.next.getLsbD k = true ↔ f.next.getLsbD k = true ∨ k = 10) ∧
    (stops → g.lineStop = true ∧ g.armed = false) ∧ (¬stops → g.lineStop = f.lineStop ∧ g.armed = f.armed)

/-- R156, R186: what the drain of the lot bound by b makes of `s`, in which no ticket is left: the line CLOSED, the
marks clear, and LOT_DRAINED in the notice FIFO, or lost with NOTICE_OVERFLOW, detail 0, when the FIFO is full. -/
def LotDrained (b : Binding) (s t : State) : Prop :=
  let payload := bytes4 b.lotId ++ byte (if s.ltc.aborted then 1 else 0) ++ bytes4 b.firstSerial ++ bytes4 b.nextSerial ++
    bytes4 ((b.nextSerial + 2 ^ 32 - b.firstSerial) % 2 ^ 32)
  let closed := { s with ltc :=
    { line := .closed, binding := some b, segFrozen := Vector.replicate 256 false, setFrozen := Vector.replicate 8 false,
      binFrozen := Vector.replicate 256 false, ticketCount := 0, aborted := s.ltc.aborted } }
  (s.svc.notices.length < 8 → t = { closed with svc := { s.svc with
    noticeSeq := s.svc.noticeSeq + 1, notices := s.svc.notices ++ [⟨66, s.svc.noticeSeq, payload⟩] } }) ∧
    (8 ≤ s.svc.notices.length → ∃ log, s.flg.OverflowArrived log s.now 0 ∧
      t = { closed with flg := log, svc := { s.svc with noticeSeq := s.svc.noticeSeq + 2 } })

/-- R188: the selection of the arbiter with no cell in progress: the reply slot, the notice FIFO, the unit report FIFO,
or IDLE. -/
def Selected (v w : Service) : Prop :=
  w = { v with up := w.up, upWord := w.upWord, upChosen := true } ∧
    match v.reply ++ v.notices ++ v.reports with
    | [] => w.up = none ∧ w.upWord = 0
    | c :: _ => w.upWord = c.word 0 ∧ ∃ src, w.up = some ⟨src, c, 1⟩ ∧
        (src = .reply ↔ v.reply ≠ []) ∧ (src = .report ↔ v.reply = [] ∧ v.notices = [])

/-- R8: a list of entries is the chain that starts at `first` and meets every condition of the walk. -/
def IsChain (table : Vector Segment 256) (first : Fin 256) (l : List (Fin 256)) : Prop :=
  l.head? = some first ∧ l.length ≤ 64 ∧ l.Nodup ∧
    (∀ k ∈ l, table[k].type ≠ .unused ∧ (table[k].law = .log → table[k].fStart ≠ table[k].fEnd)) ∧
    (∀ i k, l[i]? = some k → table[k].type = .presence → i = 0) ∧
    (∀ i k j, l[i]? = some k → l[i + 1]? = some j → table[k].next = some j) ∧
    ∀ k, l.getLast? = some k → table[k].next = none

/-! ### Laws of a state -/

/-- R91: a nest holds a ticket exactly when its state is neither DISABLED nor VACANT. -/
abbrev State.ticketLaw (s : State) : Prop := ∀ n, (s.nest n).ticket.isSome = (s.nest n).state.holdsTicket

/-- R154: the number of nests that hold a ticket. -/
def State.holders (s : State) : Nat := (allNests.filter (fun n => (s.nest n).ticket.isSome)).length

/-- R93, R105: the ticket's attempt lies within its lot's attempt limit, and no retest is left standing. -/
def Ticket.sound (t : Ticket) (b : Binding) : Bool :=
  decide (1 ≤ t.attempt ∧ t.attempt ≤ b.attemptLimit) && t.disp != .retest

/-- R105, R147, R148, R154: the lot and its tickets agree. -/
abbrev State.lotLaw (s : State) : Prop :=
  s.ticketLaw ∧ s.ltc.ticketCount = s.holders ∧ (s.ltc.line = .noLot ↔ s.ltc.binding = none) ∧
    (s.ltc.line.hasTickets = false → s.holders = 0) ∧
    (∀ b, s.ltc.binding = some b → 1 ≤ b.attemptLimit) ∧
    ∀ n, (s.nest n).ticket.all (fun t => s.ltc.binding.any t.sound) = true

/-- R163: what a held-ticket reference names. -/
def State.heldSound (s : State) (h : HeldRef) : Bool :=
  ((s.nest h.nest).state == .report || (s.nest h.nest).state == .held) &&
    (s.nest h.nest).ticket.any (fun t => t.serial == h.serial) &&
    s.flg.first.any (fun r => r.nest == some h.nest && r.serial == some h.serial)

/-- R163: when a ticket is held, the first-fault record is present and names its nest and serial; R110:
the ticket stands in REPORT or HELD. -/
abbrev State.heldLaw (s : State) : Prop := s.flg.held.all s.heldSound = true

/-- R167: whenever the line-stop output is asserted, the armed flag is clear. -/
abbrev State.stopLaw (s : State) : Prop := s.flg.lineStop = true → s.flg.armed = false

/-- 0.8, R19, R48, R54, R125, R180, R182, R186, R187: the capacities of the collections. -/
abbrev State.capacityLaw (s : State) : Prop :=
  s.svc.requests.length ≤ 4 ∧ s.svc.reply.length ≤ 3 ∧ s.svc.notices.length ≤ 8 ∧ s.svc.reports.length ≤ 16 ∧
    s.bmu.queue.length ≤ 16 ∧ s.gdm.trips.length ≤ 16 ∧
    ∀ n, (s.ana n).history.length ≤ 16 ∧ (s.ana n).queue.length ≤ 8

/-- R139: one of the counters that the law relates has saturated. -/
def Counters.saturated (c : Counters) : Bool :=
  c.bins.toList.any (fun x => decide (Config.counterMax ≤ x)) ||
    c.nests.toList.any (fun x => decide (Config.counterMax ≤ x.tested ∨ Config.counterMax ≤ x.passed ∨
      Config.counterMax ≤ x.rejected ∨ Config.counterMax ≤ x.aborted))

/-- R139: the bin counters sum to TESTED, and TESTED of each nest to its outcomes. -/
abbrev Counters.balanced (c : Counters) : Prop :=
  c.bins.toList.sum = (c.nests.toList.map NestCounters.tested).sum ∧
    ∀ n : NestId, c.nests[n].tested = c.nests[n].passed + c.nests[n].rejected + c.nests[n].aborted

/-- R139: the law of the live counters and of the snapshot. -/
abbrev State.yieldLaw (s : State) : Prop :=
  (s.yct.live.saturated = true ∨ s.yct.live.balanced) ∧ (s.yct.snap.saturated = true ∨ s.yct.snap.balanced)

/-- R13: a drive sample lies within ±8,388,351. -/
def inDriveRange (x : Int) : Bool := decide (-8388351 ≤ x ∧ x ≤ 8388351)

/-- R12, R13: the level gains stay in their range, and every drive sample sent within ±8,388,351. -/
abbrev State.driveLaw (s : State) : Prop :=
  ∀ n : NestId, (s.ctx n).gain ≤ 8388607 ∧ inDriveRange s.fli.driveSlots[n] = true

/-- R151, R152: while the line is OPEN or CLOSING every bound entry carries its frozen mark. -/
abbrev State.marksLaw (s : State) : Prop :=
  s.ltc.line.hasTickets = true → ∀ b, s.ltc.binding = some b →
    (∀ k ∈ b.chain, s.ltc.segFrozen[k] = true) ∧ s.ltc.setFrozen[b.primarySet] = true ∧
      (∀ k, b.retestSet = some k → s.ltc.setFrozen[k] = true) ∧
      ∀ k : Fin 256, b.binBase ≤ k.val → k.val ≤ b.binBase + b.keyMode.span - 1 → s.ltc.binFrozen[k] = true

/-! ### Laws of a step -/

/-- R152: every entry with a frozen mark keeps its contents from `s` to `t`. -/
abbrev State.keepsFrozen (s t : State) : Prop :=
  (∀ k : Fin 256, s.ltc.segFrozen[k] = true → t.swg.segments[k] = s.swg.segments[k]) ∧
    (∀ k : Fin 8, s.ltc.setFrozen[k] = true → t.jdu.sets[k] = s.jdu.sets[k]) ∧
    ∀ k : Fin 256, s.ltc.binFrozen[k] = true → t.bmu.binMap[k] = s.bmu.binMap[k]

/-- R99: what a disposition of one attempt may become. -/
def Disp.mayBecome : Disp → Disp → Bool
  | .reject, d => d == .reject
  | .abort, d => d == .abort
  | .retest, d => d == .retest || d == .reject || d == .abort
  | .opened, _ => true
  | .marginal, d => d != .opened

/-- R99: within one attempt a nest's ticket keeps to the disposition order from `s` to `t`. -/
abbrev State.keepsOrder (s t : State) : Prop :=
  ∀ n x y, (s.nest n).ticket = some x → (t.nest n).ticket = some y → y.attempt = x.attempt →
    x.disp.mayBecome y.disp = true

end Sys2Proof.Machine
end

