-- ==== Sys2Proof/Certificates/Slice0/Obligations.lean ====
section
/-! DEFINITION. The statements for the provers, block by block. -/

section

open Sys2Proof Sys2Proof.Machine Host

/-! ### The queue of commands and the resets -/

/-- A step takes the command at the front of the queue and runs it on the state with the rest; an empty
queue leaves the state as it is (assumption log 3). -/
def Obligations.StepTakesFrontCommand : Prop :=
  ∀ s : State,
    (s.pending = [] → step s = .next s) ∧
      ∀ c rest, s.pending = c :: rest → step s = exec c { s with pending := rest }

/-- What power-on reset leaves, in every block, for the values that the rules state.  The cleared flag of the absent
snapshot, which no rule gives, is the model's choice (assumption log 17). -/
def Obligations.PowerOnResetSetsStatedValues : Prop :=
  ∀ s : State, ∃ t, exec .powerOnReset s = .next t ∧
    t.pending = s.pending ∧ t.tmb.stamp = 0 ∧
    (∀ k : Fin 256, t.swg.segments[k] = ⟨.unused, .step, 0, 0, 0, 0, 0, none⟩) ∧
    (∀ n, (t.ctx n).state = .idle ∧ (t.ctx n).stopRequested = false ∧ (t.ctx n).lastDriven = none ∧
      (t.ctx n).phase = 0 ∧ (t.ctx n).freqWord = 0 ∧ (t.ctx n).gain = 0 ∧ (t.ctx n).segment = 0 ∧
      (t.ctx n).blockIndex = 0 ∧ (t.ctx n).programBlock = 0) ∧
    (∀ n : NestId, t.fli.driveSlots[n] = 0) ∧
    (t.fli.link = .searching ∧ t.fli.goodRun = 0 ∧ t.fli.badRun = 0 ∧ t.fli.absentCount = 0 ∧ t.fli.lossStamp = none ∧
      t.fli.lastOpened = none ∧ ∀ k : Fin 2, t.fli.taps[k].current = .off ∧ t.fli.taps[k].pending = none ∧
        t.fli.taps[k].carried = 0) ∧
    (∀ n, t.ana n =
      { state := .closed, cursor := 0, report := ⟨0, 0, .unused, false, false, 0, 0, 0, 0, 0⟩, b0 := 0, count := 0,
        buffer := [], refPhase := 0, i := 0, q := 0, damaged := false, history := [], queue := [], residual := none }) ∧
    (t.gdm.trips = [] ∧ t.gdm.saturated = false ∧ t.gdm.lastDiscard = none ∧ t.gdm.prev = none ∧
      t.gdm.current = ⟨-300, 240, 960⟩ ∧ t.gdm.pending = ⟨-300, 240, 960⟩ ∧ t.gdm.threshold = -300 ∧
      t.gdm.start = 0) ∧
    (∀ k : Fin 8, t.jdu.sets[k].header = ⟨0, 0, 0, 0, 0, 1⟩ ∧
      ∀ j : Fin 32, t.jdu.sets[k].bands[j] = ⟨0, 0, 0, 0, 0, 0, 0, 0⟩) ∧
    (∀ n, t.tally n = ⟨Vector.replicate 32 ⟨0, 0, 0, 0, 0, false, false, false⟩, 0, false, 0, 0, 0⟩) ∧
    (t.tkc.linkView = .searching ∧ t.tkc.reportWait = 200 ∧ t.tkc.unloadLimit = 1200) ∧
    (∀ n, (t.nest n).state = .disabled ∧ (t.nest n).startMode = .auto ∧ (t.nest n).sensor = .used ∧
      (t.nest n).debounce = 960 ∧ (t.nest n).delay = 0 ∧ (t.nest n).ticket = none ∧ (t.nest n).verdict = false ∧
      (t.nest n).timer = 0 ∧ (t.nest n).drive = .idle ∧ (t.nest n).rejectRun = 0 ∧ (t.nest n).disablePending = false) ∧
    (t.bmu.queue = [] ∧ t.bmu.port = .idle ∧ t.bmu.timer = 0 ∧ t.bmu.patternLines = 0 ∧ t.bmu.strobe = false ∧
      t.bmu.strobeWidth = 4800 ∧ t.bmu.gap = 4800 ∧ t.bmu.markerWait = 400 ∧ ∀ k : Fin 256, t.bmu.binMap[k] = ⟨0, 0, false⟩) ∧
    (t.ltc.line = .noLot ∧ t.ltc.binding = none ∧ t.ltc.ticketCount = 0 ∧ t.ltc.aborted = false ∧
      (∀ k : Fin 256, t.ltc.segFrozen[k] = false ∧ t.ltc.binFrozen[k] = false) ∧ ∀ k : Fin 8, t.ltc.setFrozen[k] = false) ∧
    (t.flg.first = none ∧ t.flg.next = 0 ∧ t.flg.held = none ∧ t.flg.lineStop = false ∧ t.flg.armed = true ∧
      t.flg.stopMask = 0x00FE) ∧
    t.yct = ⟨Counters.zero, Counters.zero, false, 0, false⟩ ∧
    (t.svc.asm = .discarding ∧ t.svc.requests = [] ∧ t.svc.reply = [] ∧ t.svc.notices = [] ∧ t.svc.reports = [] ∧
      t.svc.up = none ∧ t.svc.upWord = 0 ∧ t.svc.noticeSeq = 0 ∧ t.svc.reportSeq = 0)

/-- Warm reset keeps the segment table, the limit sets, the bin map, the first record and the next-fault
set, and leaves every other part of the state as power-on reset does. -/
def Obligations.WarmResetKeepsTables : Prop :=
  ∀ s : State, ∃ u t, exec .powerOnReset s = .next u ∧ exec .warmReset s = .next t ∧
    t = { u with
      swg := { u.swg with segments := s.swg.segments }
      jdu := { u.jdu with sets := s.jdu.sets }
      bmu := { u.bmu with binMap := s.bmu.binMap }
      flg := { u.flg with first := s.flg.first, next := s.flg.next } }

/-- The line reset acts when the last word of the LINE_RESET reply has been sent: every block takes the values that its
rules give for it, and keeps the rest. -/
def Obligations.LineResetActionResetsBlocks : Prop :=
  ∀ (s : State) (u : UpCell),
    s.svc.up = some u → u.source = .reply → u.cell.type = 154 → u.index = u.cell.wordCount → s.svc.upChosen = false →
    ∃ t, exec .lineResetAction s = .next t ∧
      t.tmb = s.tmb ∧ t.fli = s.fli ∧ t.yct = s.yct ∧ t.swg.segments = s.swg.segments ∧
      t.swg.processed = s.swg.processed ∧ t.jdu.sets = s.jdu.sets ∧
      t.bmu.binMap = s.bmu.binMap ∧ t.tkc.linkView = s.tkc.linkView ∧ t.pending = s.pending ∧
      (∀ n, (t.ctx n).state = .idle ∧ (t.ctx n).stopRequested = false ∧ (t.ctx n).lastDriven = none ∧
        (t.ctx n).phase = 0 ∧ (t.ctx n).freqWord = 0 ∧ (t.ctx n).gain = 0 ∧ (t.ctx n).segment = 0 ∧
        (t.ctx n).blockIndex = 0 ∧ (t.ctx n).programBlock = 0) ∧
      (∀ n, t.ana n =
        { state := .closed, cursor := 0, report := ⟨0, 0, .unused, false, false, 0, 0, 0, 0, 0⟩, b0 := 0, count := 0,
          buffer := [], refPhase := 0, i := 0, q := 0, damaged := false, history := [], queue := [], residual := none }) ∧
      t.gdm = { s.gdm with trips := [], saturated := false, lastDiscard := none } ∧
      (∀ n, t.tally n = Tally.zero) ∧
      (∀ n, (t.nest n).state = (if (s.nest n).state = .disabled then .disabled else .vacant) ∧ (t.nest n).ticket = none ∧
        (t.nest n).verdict = false ∧ (t.nest n).timer = 0 ∧ (t.nest n).drive = .idle ∧ (t.nest n).rejectRun = 0 ∧
        (t.nest n).disablePending = false ∧ (t.nest n).level = (s.nest n).level ∧ (t.nest n).steady = (s.nest n).steady ∧
        (t.nest n).debounce = (s.nest n).debounce ∧ (t.nest n).delay = (s.nest n).delay ∧
        (t.nest n).startMode = (s.nest n).startMode ∧ (t.nest n).sensor = (s.nest n).sensor) ∧
      t.tkc.reportWait = s.tkc.reportWait ∧ t.tkc.unloadLimit = s.tkc.unloadLimit ∧
      (t.bmu.queue = [] ∧ t.bmu.port = .idle ∧ t.bmu.timer = 0 ∧ t.bmu.patternLines = 0 ∧ t.bmu.strobe = false ∧
        t.bmu.strobeWidth = s.bmu.strobeWidth ∧ t.bmu.gap = s.bmu.gap ∧ t.bmu.markerWait = s.bmu.markerWait) ∧
      (t.ltc.line = .noLot ∧ t.ltc.binding = none ∧ t.ltc.ticketCount = 0 ∧ t.ltc.aborted = false ∧
        (∀ k : Fin 256, t.ltc.segFrozen[k] = false ∧ t.ltc.binFrozen[k] = false) ∧
        ∀ k : Fin 8, t.ltc.setFrozen[k] = false) ∧
      t.flg = { s.flg with held := none, lineStop := false, armed := true } ∧
      (t.svc.requests = [] ∧ t.svc.reply = [] ∧ t.svc.notices = [] ∧ t.svc.reports = [] ∧ t.svc.up = none ∧
        t.svc.upWord = 0 ∧ t.svc.asm = s.svc.asm ∧ t.svc.asmWords = s.svc.asmWords ∧ t.svc.asmBytes = s.svc.asmBytes ∧
        t.svc.noticeSeq = s.svc.noticeSeq ∧ t.svc.reportSeq = s.svc.reportSeq)

/-! ### Requests -/

/-- The arrival of a good cell that carries a request: taken at once when no request waits and no reply
is being sent, queued while fewer than 4 wait, and otherwise discarded with REQUEST_OVERRUN. -/
def Obligations.ArrivingRequestTakenQueuedOrDiscarded : Prop :=
  ∀ (r : Request) (tag : Byte) (s : State),
    (s.quiet → ∃ t, exec (r.command tag) s = .next t ∧
      t = { (act r s).2 with svc := { (act r s).2.svc with reply := (act r s).1.cells r.type tag } }) ∧
    (¬s.quiet → s.svc.requests.length < 4 →
      exec (r.command tag) s =
        .next { s with svc := { s.svc with requests := s.svc.requests ++ [⟨r.type, tag, r.payload⟩] } }) ∧
    (4 ≤ s.svc.requests.length →
      exec (r.command tag) s = .next (raiseFault ⟨.requestOverrun, s.now, none, none, r.type ++ tag⟩ s))

/-- READ_SEGMENT is answered OK with the index and the entry's eight fields. -/
def Obligations.ReadSegmentAnswersStoredEntry : Prop :=
  ∀ (tag index : Byte) (s : State), s.quiet →
    exec (.readSegment tag index) s =
      .next (s.replying 131 tag ([0, index] ++ (s.swg.segments[index.toNat]'index.isLt).bytes))

/-- READ_LIMIT is refused for a set above 7 or a band index above 31, and otherwise answered with the
header (selector 255) or the band. -/
def Obligations.ReadLimitAnswersStoredFields : Prop :=
  ∀ (tag set selector : Byte) (s : State), s.quiet →
    (8 ≤ set.toNat ∨ (32 ≤ selector.toNat ∧ selector.toNat ≠ 255) →
      exec (.readLimit tag set selector) s = .next (s.replying 134 tag [1])) ∧
    ∀ hs : set.toNat < 8,
      (selector.toNat = 255 →
        exec (.readLimit tag set selector) s =
          .next (s.replying 134 tag ([0, set, selector] ++ s.jdu.sets[set.toNat].header.bytes))) ∧
      ∀ hb : selector.toNat < 32,
        exec (.readLimit tag set selector) s =
          .next (s.replying 134 tag ([0, set, selector] ++ s.jdu.sets[set.toNat].bands[selector.toNat].bytes))

/-- READ_BINMAP is refused for a count of 0 or above 8 or a range past 256, and otherwise answered with
the first index, the count and each named entry in index order. -/
def Obligations.ReadBinmapAnswersStoredEntries : Prop :=
  ∀ (tag first count : Byte) (s : State), s.quiet →
    (count.toNat = 0 ∨ 8 < count.toNat ∨ 256 < first.toNat + count.toNat →
      exec (.readBinmap tag first count) s = .next (s.replying 136 tag [1])) ∧
    (1 ≤ count.toNat → count.toNat ≤ 8 → first.toNat + count.toNat ≤ 256 →
      exec (.readBinmap tag first count) s =
        .next (s.replying 136 tag ([0, first, count] ++
          (List.range count.toNat).flatMap (fun i => (s.binEntry (first.toNat + i)).bytes))))

/-- WRITE_SEGMENT: FROZEN, the empty entry for type NONE, BAD_PARAM for a field out of range, and
otherwise all fields replaced together, in that order. -/
def Obligations.WriteSegmentReplacesEntry : Prop :=
  ∀ (tag index : Byte) (f : SegmentFields) (s : State), s.quiet →
    (s.ltc.segFrozen[index.toNat]'index.isLt = true →
      exec (.writeSegment tag index f) s = .next (s.replying 130 tag [3])) ∧
    (s.ltc.segFrozen[index.toNat]'index.isLt = false →
      (f.type = 0 →
        exec (.writeSegment tag index f) s =
          .next ((s.setSegment (entryOf index) ⟨.unused, .step, 0, 0, 0, 0, 0, none⟩).replying 130 tag [0])) ∧
      (f.type ≠ 0 →
        let fits := f.type.toNat ≤ 4 ∧ f.law.toNat ≤ 1 ∧ (100 ≤ f.fStart.toNat ∧ f.fStart.toNat ≤ 400000) ∧
          (100 ≤ f.fEnd.toNat ∧ f.fEnd.toNat ≤ 400000) ∧ (-600 ≤ f.level.toInt ∧ f.level.toInt ≤ 0) ∧
          (1 ≤ f.duration.toNat ∧ f.duration.toNat ≤ 4095) ∧ f.settle.toNat < f.duration.toNat ∧
          (f.next.toNat < 256 ∨ f.next.toNat = 65535)
        (¬fits → exec (.writeSegment tag index f) s = .next (s.replying 130 tag [1])) ∧
        (fits → ∃ e : Segment, e.type.code = f.type.toNat ∧ e.law.code = f.law.toNat ∧ e.fStart = f.fStart.toNat ∧
          e.fEnd = f.fEnd.toNat ∧ e.level = f.level.toInt ∧ e.duration = f.duration.toNat ∧ e.settle = f.settle.toNat ∧
          (match e.next with | some k => f.next.toNat = k.val | none => f.next.toNat = 65535) ∧
          exec (.writeSegment tag index f) s = .next ((s.setSegment (entryOf index) e).replying 130 tag [0]))))

/-- WRITE_LIMIT_HEADER and WRITE_BAND: a set or band out of range, a frozen set, a field out of range, and
otherwise all fields of the header or of the band replaced together, in that order. -/
def Obligations.WriteLimitReplacesFields : Prop :=
  ∀ (tag set index : Byte) (h : HeaderFields) (b : BandFields) (s : State), s.quiet →
    (8 ≤ set.toNat → exec (.writeLimitHeader tag set h) s = .next (s.replying 132 tag [1])) ∧
    (8 ≤ set.toNat ∨ 32 ≤ index.toNat → exec (.writeBand tag set index b) s = .next (s.replying 133 tag [1])) ∧
    ∀ hs : set.toNat < 8,
      (s.ltc.setFrozen[set.toNat] = true →
        exec (.writeLimitHeader tag set h) s = .next (s.replying 132 tag [3]) ∧
        (index.toNat < 32 → exec (.writeBand tag set index b) s = .next (s.replying 133 tag [3]))) ∧
      (s.ltc.setFrozen[set.toNat] = false →
        let l := s.jdu.sets[set.toNat]
        (let fits := (-1800 ≤ h.phase.toInt ∧ h.phase.toInt ≤ 1799) ∧ h.tolerance.toNat ≤ 900 ∧
            (1 ≤ h.persistence.toNat ∧ h.persistence.toNat ≤ 15) ∧ (-1400 ≤ h.presence.toInt ∧ h.presence.toInt ≤ 600) ∧
            h.voidPercent.toNat ≤ 100 ∧ (1 ≤ h.bandCount.toNat ∧ h.bandCount.toNat ≤ 32);
          (¬fits → exec (.writeLimitHeader tag set h) s = .next (s.replying 132 tag [1])) ∧
          (fits → exec (.writeLimitHeader tag set h) s =
            .next ((s.setLimit ⟨set.toNat, hs⟩
              ⟨⟨h.phase.toInt, h.tolerance.toNat, h.persistence.toNat, h.presence.toInt, h.voidPercent.toNat,
                h.bandCount.toNat⟩, l.bands⟩).replying 132 tag [0]))) ∧
        ∀ hi : index.toNat < 32,
          let fits := (100 ≤ b.fLo.toNat ∧ b.fLo.toNat ≤ 400000) ∧ (100 ≤ b.fHi.toNat ∧ b.fHi.toNat ≤ 400000) ∧
            (-1400 ≤ b.gLo.toInt ∧ b.gLo.toInt ≤ 600) ∧ (-1400 ≤ b.gHi.toInt ∧ b.gHi.toInt ≤ 600) ∧
            (-1400 ≤ b.dnMax.toInt ∧ b.dnMax.toInt ≤ 400) ∧ (-1400 ≤ b.rbMax.toInt ∧ b.rbMax.toInt ≤ 400) ∧
            b.margin.toNat ≤ 60 ∧ (1 ≤ b.persistence.toNat ∧ b.persistence.toNat ≤ 15)
          (¬fits → exec (.writeBand tag set index b) s = .next (s.replying 133 tag [1])) ∧
          (fits → exec (.writeBand tag set index b) s =
            .next ((s.setLimit ⟨set.toNat, hs⟩
              { l with bands := (l.bands.set index.toNat
                  ⟨b.fLo.toNat, b.fHi.toNat, b.gLo.toInt, b.gHi.toInt, b.dnMax.toInt, b.rbMax.toInt, b.margin.toNat,
                    b.persistence.toNat⟩) }).replying 133 tag [0])))

/-- WRITE_BINMAP with the entries its count calls for: BAD_PARAM for the range, FROZEN for a marked entry
in it, BAD_PARAM for a field outside its values, and otherwise every named entry replaced and no other. -/
def Obligations.WriteBinmapReplacesAllOrNothing : Prop :=
  ∀ (tag first count : Byte) (es : List BinFields) (s : State), s.quiet → binmapEntriesMatch count es = true →
    let ranged := 1 ≤ count.toNat ∧ count.toNat ≤ 8 ∧ first.toNat + count.toNat ≤ 256
    let frozen := ∃ k : Fin 256, first.toNat ≤ k.val ∧ k.val < first.toNat + count.toNat ∧ s.ltc.binFrozen[k] = true
    let fits := ∀ e ∈ es, e.bin.toNat < 32 ∧ e.pattern.toNat < 64 ∧ e.good.toNat ≤ 1
    (¬ranged → exec (.writeBinmap tag first count es) s = .next (s.replying 135 tag [1])) ∧
    (ranged → frozen → exec (.writeBinmap tag first count es) s = .next (s.replying 135 tag [3])) ∧
    (ranged → ¬frozen → ¬fits → exec (.writeBinmap tag first count es) s = .next (s.replying 135 tag [1])) ∧
    (ranged → ¬frozen → fits → ∃ m : Vector BinEntry 256,
      exec (.writeBinmap tag first count es) s = .next ({ s with bmu := { s.bmu with binMap := m } }.replying 135 tag [0]) ∧
      ∀ k : Fin 256,
        (k.val < first.toNat ∨ first.toNat + count.toNat ≤ k.val → m[k] = s.bmu.binMap[k]) ∧
        ∀ e, first.toNat ≤ k.val → es[k.val - first.toNat]? = some e →
          m[k].bin.val = e.bin.toNat ∧ m[k].pattern.val = e.pattern.toNat ∧
            m[k].good = decide (e.good.toNat = 1))

/-- WRITE_NEST: BAD_PARAM for a nest or field out of range or AUTO with IGNORED, BAD_STATE for a change of
start mode, sensor or delay in a nest that holds a ticket, and otherwise four fields replaced; READ_NEST
answers the configuration and the runtime state. -/
def Obligations.NestConfigurationWrittenAndRead : Prop :=
  ∀ (tag nest : Byte) (f : NestFields) (s : State), s.quiet →
    (8 ≤ nest.toNat →
      exec (.writeNest tag nest f) s = .next (s.replying 137 tag [1]) ∧
      exec (.readNest tag nest) s = .next (s.replying 138 tag [1])) ∧
    ∀ hn : nest.toNat < 8,
      let x := s.nest ⟨nest.toNat, hn⟩
      let fits := f.startMode.toNat ≤ 1 ∧ f.sensor.toNat ≤ 1 ∧ 1 ≤ f.debounce.toNat ∧ f.delay.toNat ≤ 4095 ∧
        ¬(f.startMode = 0 ∧ f.sensor = 1)
      let changes := x.startMode.code ≠ f.startMode.toNat ∨ x.sensor.code ≠ f.sensor.toNat ∨ x.delay ≠ f.delay.toNat
      (¬fits → exec (.writeNest tag nest f) s = .next (s.replying 137 tag [1])) ∧
      (fits → x.state.holdsTicket = true → changes →
        exec (.writeNest tag nest f) s = .next (s.replying 137 tag [2])) ∧
      (fits → x.state.holdsTicket = false ∨ ¬changes →
        exec (.writeNest tag nest f) s =
          .next ((s.setNest ⟨nest.toNat, hn⟩
            { x with startMode := if f.startMode = 0 then .auto else .manual,
                     sensor := if f.sensor = 0 then .used else .ignored,
                     debounce := f.debounce.toNat, delay := f.delay.toNat }).replying 137 tag [0])) ∧
      exec (.readNest tag nest) s =
        .next (s.replying 138 tag ([0, nest] ++ byte x.startMode.code ++ byte x.sensor.code ++ bytes2 x.debounce ++
          bytes2 x.delay ++ byte (if x.state = .disabled then 0 else 1) ++ byte x.state.code ++ byte x.level.code ++
          byte x.rejectRun ++ byte (if x.disablePending then 1 else 0) ++ bytes2 x.timer))

/-- WRITE_LINE: BAD_PARAM and nothing changed when any of the nine fields is out of range, and otherwise
every field handed to its owner, the three guard fields as pending values; READ_LINE answers them. -/
def Obligations.LineConfigurationWrittenAndRead : Prop :=
  ∀ (tag : Byte) (f : LineFields) (s : State), s.quiet →
    (let fits := (-600 ≤ f.threshold.toInt ∧ f.threshold.toInt ≤ 0) ∧ f.pre.toNat ≤ 2400 ∧ f.post.toNat ≤ 2400 ∧
        f.reportWait.toNat ≤ 4095 ∧ f.unloadLimit.toNat ≤ 4095 ∧ 96 ≤ f.strobeWidth.toNat ∧ f.markerWait.toNat ≤ 4095 ∧
        ∀ k, k = 0 ∨ 11 ≤ k → f.stopMask.getLsbD k = false;
      (¬fits → exec (.writeLine tag f) s = .next (s.replying 139 tag [1])) ∧
      (fits → exec (.writeLine tag f) s =
        .next (State.replying
          { s with
            gdm := { s.gdm with pending := ⟨f.threshold.toInt, f.pre.toNat, f.post.toNat⟩ }
            tkc := { s.tkc with reportWait := f.reportWait.toNat, unloadLimit := f.unloadLimit.toNat }
            bmu := { s.bmu with strobeWidth := f.strobeWidth.toNat, gap := f.gap.toNat, markerWait := f.markerWait.toNat }
            flg := { s.flg with stopMask := f.stopMask } } 139 tag [0]))) ∧
    exec (.readLine tag) s =
      .next (s.replying 140 tag ([0] ++ signed2 s.gdm.pending.threshold ++ bytes2 s.gdm.pending.pre ++
        bytes2 s.gdm.pending.post ++ bytes2 s.tkc.reportWait ++ bytes2 s.tkc.unloadLimit ++ bytes2 s.bmu.strobeWidth ++
        bytes2 s.bmu.gap ++ bytes2 s.bmu.markerWait ++ halfBytes s.flg.stopMask))

/-- NEST_ENABLE and NEST_DISABLE by the state of the nest. -/
def Obligations.NestEnableAndDisableByState : Prop :=
  ∀ (tag nest : Byte) (s : State), s.quiet →
    (8 ≤ nest.toNat →
      exec (.nestEnable tag nest) s = .next (s.replying 145 tag [1]) ∧
      exec (.nestDisable tag nest) s = .next (s.replying 146 tag [1])) ∧
    ∀ hn : nest.toNat < 8,
      let n : NestId := ⟨nest.toNat, hn⟩
      ∃ x y, exec (.nestEnable tag nest) s = .next ((s.setNest n x).replying 145 tag [0]) ∧
        exec (.nestDisable tag nest) s = .next ((s.setNest n y).replying 146 tag [0]) ∧
        ((s.nest n).state = .disabled →
          x = { s.nest n with state := .vacant, timer := 0, expiry := none } ∧ y = s.nest n) ∧
        ((s.nest n).state = .vacant →
          x = s.nest n ∧ y = { s.nest n with state := .disabled, timer := 0, expiry := none }) ∧
        ((s.nest n).state.holdsTicket = true →
          x = { s.nest n with disablePending := false } ∧ y = { s.nest n with disablePending := true })

/-- NEST_START: BAD_PARAM, BAD_STATE, or a ticket opened in the nest, in that order. -/
def Obligations.NestStartOpensTicket : Prop :=
  ∀ (tag nest : Byte) (s : State), s.quiet →
    (8 ≤ nest.toNat → exec (.nestStart tag nest) s = .next (s.replying 144 tag [1])) ∧
    ∀ hn : nest.toNat < 8,
      let n : NestId := ⟨nest.toNat, hn⟩
      ((s.nest n).startMode = .auto ∨ (s.nest n).state ≠ .vacant ∨ s.ltc.line ≠ .opened →
        exec (.nestStart tag nest) s = .next (s.replying 144 tag [2])) ∧
      ∀ b, (s.nest n).startMode = .manual → (s.nest n).state = .vacant → s.ltc.line = .opened → s.ltc.binding = some b →
        ∃ t, exec (.nestStart tag nest) s = .next (t.replying 144 tag [0]) ∧ TicketOpened n b s t

/-! ### Lots -/

/-- The walk of R8 passes with exactly the lists that are chains by its conditions. -/
def Obligations.ChainWalkPassesExactlyTheChains : Prop :=
  ∀ (table : Vector Segment 256) (first : Fin 256) (l : List (Fin 256)),
    validateChain table first = .pass l ↔ IsChain table first l

/-- A limit set passes exactly when its header and its bands in use lie in their ranges, each band has f_lo below f_hi
and G_lo at or below G_hi, and the bands ascend. LOT_OPEN: BAD_STATE in OPEN and CLOSING; then the checks RANGE, CHAIN,
PRIMARY_SET, RETEST_SET and SPAN in that order, each refusing with its code; otherwise the lot is bound, its entries
marked, the bin and nest counters and every reject run cleared, and the line OPEN. -/
def Obligations.LotOpenValidatesAndBinds : Prop :=
  (∀ l : LimitSet, l.valid = true ↔
    (-1800 ≤ l.header.phase ∧ l.header.phase ≤ 1799) ∧ (0 ≤ l.header.tolerance ∧ l.header.tolerance ≤ 900) ∧
    (1 ≤ l.header.persistence ∧ l.header.persistence ≤ 15) ∧ (-1400 ≤ l.header.presence ∧ l.header.presence ≤ 600) ∧
    l.header.voidPercent ≤ 100 ∧ (1 ≤ l.header.bandCount ∧ l.header.bandCount ≤ 32) ∧
    (∀ k : Fin 32, k.val < l.header.bandCount →
      let b := l.bands[k]
      (100 ≤ b.fLo ∧ b.fLo ≤ 400000) ∧ (100 ≤ b.fHi ∧ b.fHi ≤ 400000) ∧ (-1400 ≤ b.gLo ∧ b.gLo ≤ 600) ∧
        (-1400 ≤ b.gHi ∧ b.gHi ≤ 600) ∧ (-1400 ≤ b.dnMax ∧ b.dnMax ≤ 400) ∧ (-1400 ≤ b.rbMax ∧ b.rbMax ≤ 400) ∧
        (0 ≤ b.margin ∧ b.margin ≤ 60) ∧ (1 ≤ b.persistence ∧ b.persistence ≤ 15) ∧ b.fLo < b.fHi ∧ b.gLo ≤ b.gHi) ∧
    ∀ j k : Fin 32, k.val = j.val + 1 → k.val < l.header.bandCount → l.bands[j].fHi ≤ l.bands[k].fLo) ∧
  ∀ (tag : Byte) (f : LotFields) (s : State), s.quiet →
    (s.ltc.line = .opened → exec (.lotOpen tag f) s = .next (s.replying 141 tag [2, 1])) ∧
    (s.ltc.line = .closing → exec (.lotOpen tag f) s = .next (s.replying 141 tag [2, 2])) ∧
    (s.ltc.line = .noLot ∨ s.ltc.line = .closed →
      let refused := fun check => exec (.lotOpen tag f) s = .next (s.replying 141 tag ([1] ++ byte s.ltc.line.code ++ check))
      let fits := f.primarySet.toNat < 8 ∧ (f.retestSet.toNat < 8 ∨ f.retestSet.toNat = 255) ∧ f.keyMode.toNat ≤ 2 ∧
        (1 ≤ f.attemptLimit.toNat ∧ f.attemptLimit.toNat ≤ 3) ∧ f.tallyPoint.toNat ≤ 3 ∧ f.earlyOut.toNat ≤ 1 ∧
        f.rejectRun.toNat ≤ 15
      (¬fits → refused [0, 0, 0]) ∧
      (fits → ∃ p : Binding,
        p.lotId = f.lotId.toNat ∧ p.firstSegment.val = f.firstSegment.toNat ∧ p.primarySet.val = f.primarySet.toNat ∧
        (match p.retestSet with | some k => f.retestSet.toNat = k.val | none => f.retestSet.toNat = 255) ∧
        p.binBase = f.binBase.toNat ∧ p.attemptLimit = f.attemptLimit.toNat ∧ p.tallyPoint.code = f.tallyPoint.toNat ∧
        p.earlyOut = decide (f.earlyOut.toNat = 1) ∧ p.nextSerial = f.firstSerial.toNat ∧
        p.firstSerial = f.firstSerial.toNat ∧ p.rejectRun = f.rejectRun.toNat ∧ p.entryDelay = f.entryDelay.toNat ∧
        p.retestDelay = f.retestDelay.toNat ∧
        p.keyMode.span = (if f.keyMode.toNat = 0 then 8 else if f.keyMode.toNat = 1 then 64 else 32) ∧
        (∀ k i, validateChain s.swg.segments p.firstSegment = .fail k i → refused ([1] ++ byte k.val ++ byte i)) ∧
        ∀ chain, validateChain s.swg.segments p.firstSegment = .pass chain →
          let primary := s.jdu.sets[p.primarySet].valid
          let retest := ∀ k, p.retestSet = some k → k ≠ p.primarySet → s.jdu.sets[k].valid = true
          let inSpan := p.binBase + p.keyMode.span - 1 ≤ 255
          (primary = false → refused [2, 0, 0]) ∧
          (primary = true → ¬retest → refused [3, 0, 0]) ∧
          (primary = true → retest → ¬inSpan → refused [4, 0, 0]) ∧
          (primary = true → retest → inSpan → ∃ t b,
            exec (.lotOpen tag f) s = .next t ∧
            b = { p with chain := chain, totalBlocks := (chain.map (fun k => s.swg.segments[k].duration)).sum,
                         firstBlocks := b.firstBlocks } ∧
            b.firstBlocks.length = chain.length ∧
            (∀ i, i < chain.length →
              b.firstBlocks[i]? = some (((chain.take i).map (fun k => s.swg.segments[k].duration)).sum)) ∧
            t.ltc.line = .opened ∧ t.ltc.binding = some b ∧ t.ltc.ticketCount = 0 ∧ t.ltc.aborted = false ∧
            (∀ k ∈ chain, t.ltc.segFrozen[k] = true) ∧ t.ltc.setFrozen[p.primarySet] = true ∧
            (∀ k, p.retestSet = some k → t.ltc.setFrozen[k] = true) ∧
            (∀ k : Fin 256, p.binBase ≤ k.val → k.val < p.binBase + p.keyMode.span → t.ltc.binFrozen[k] = true) ∧
            t.yct = { s.yct with live := { s.yct.live with
              bins := Vector.replicate 32 0, nests := Vector.replicate 8 ⟨0, 0, 0, 0, 0, 0, 0⟩ } } ∧
            (∀ n, t.nest n = { s.nest n with rejectRun := 0 }) ∧
            t.tkc.linkView = s.tkc.linkView ∧ t.tkc.reportWait = s.tkc.reportWait ∧ t.tkc.unloadLimit = s.tkc.unloadLimit ∧
            t.svc = { s.svc with reply := Reply.cells ⟨.ok, [1] ++ bytes4 b.lotId ++ byte chain.length ++
              bytes3 b.totalBlocks ++ b.firstBlocks.flatMap bytes3⟩ 13 tag } ∧
            t.tmb = s.tmb ∧ t.swg = s.swg ∧ t.fli = s.fli ∧ t.bka = s.bka ∧ t.gdm = s.gdm ∧ t.jdu = s.jdu ∧ t.bmu = s.bmu ∧
            t.flg = s.flg ∧ t.pending = s.pending)))

/-- LOT_CLOSE is taken in OPEN only; with no ticket left the line enters CLOSED, its marks clear, and
LOT_DRAINED is offered, to a FIFO with a place or to a full one. -/
def Obligations.LotCloseDrainsOrWaits : Prop :=
  ∀ (tag : Byte) (s : State), s.quiet →
    (s.ltc.line ≠ .opened → exec (.lotClose tag) s = .next (s.replying 142 tag [2])) ∧
    (s.ltc.line = .opened → s.ltc.ticketCount ≠ 0 →
      exec (.lotClose tag) s = .next ({ s with ltc := { s.ltc with line := .closing } }.replying 142 tag [0, 2])) ∧
    (∀ b, s.ltc.line = .opened → s.ltc.ticketCount = 0 → s.ltc.binding = some b →
      ∃ t : State, exec (.lotClose tag) s = .next (t.replying 142 tag [0, 3]) ∧ LotDrained b s t)

/-- LOT_ABORT is taken in OPEN and CLOSING only; every ticket in ENTRY, SWEEP, DRAIN or RETEST_WAIT takes
ABORT at its current stage by the disposition order, one in ENTRY or RETEST_WAIT enters DRAIN with last
driven block NONE, every other nest is left alone, and the reply counts the tickets proposed to.  With no ticket
left the lot drains with the end cause ABORT. -/
def Obligations.LotAbortProposesToTicketsUnderTest : Prop :=
  ∀ (tag : Byte) (s : State), s.quiet →
    (s.ltc.line = .noLot ∨ s.ltc.line = .closed → exec (.lotAbort tag) s = .next (s.replying 143 tag [2])) ∧
    (s.ltc.line = .opened ∨ s.ltc.line = .closing → s.ltc.ticketCount ≠ 0 → ∃ t : State,
      exec (.lotAbort tag) s = .next (t.replying 143 tag ([0, 2] ++
        byte ((allNests.filter (fun n => (s.nest n).state.underTest)).length))) ∧
      t.ltc = { s.ltc with line := .closing, aborted := true } ∧
      (∀ n, (s.nest n).state.underTest = false → t.nest n = s.nest n ∧ t.ctx n = s.ctx n) ∧
      (∀ n, (s.nest n).state.underTest = true → TestAborted n s t) ∧
      t.tmb = s.tmb ∧ t.fli = s.fli ∧ t.gdm = s.gdm ∧ t.jdu = s.jdu ∧ t.bmu = s.bmu ∧ t.yct = s.yct ∧ t.flg = s.flg ∧
      t.svc = s.svc ∧ t.swg.segments = s.swg.segments ∧ t.pending = s.pending) ∧
    (∀ b, s.ltc.line = .opened ∨ s.ltc.line = .closing → s.ltc.ticketCount = 0 →
      (∀ n, (s.nest n).state.underTest = false) → s.ltc.binding = some b →
      ∃ t : State, exec (.lotAbort tag) s = .next (t.replying 143 tag [0, 3, 0]) ∧
        LotDrained b { s with ltc := { s.ltc with aborted := true } } t)

/-! ### Tickets, counters, faults, taps -/

/-- RELEASE_TICKET: BAD_PARAM, NOT_HELD, or the reference cleared and the nest released by its state and
sensor; the retire of the last ticket of a CLOSING line drains the lot. -/
def Obligations.ReleaseTicketByStateAndSensor : Prop :=
  ∀ (tag nest : Byte) (s : State), s.quiet →
    (8 ≤ nest.toNat → exec (.releaseTicket tag nest) s = .next (s.replying 147 tag [1])) ∧
    ∀ hn : nest.toNat < 8,
      let n : NestId := ⟨nest.toNat, hn⟩
      ((∀ h, s.flg.held = some h → h.nest ≠ n) →
        exec (.releaseTicket tag nest) s = .next (s.replying 147 tag [4])) ∧
      ∀ serial, s.flg.held = some ⟨n, serial⟩ →
        ((s.nest n).state = .held → (s.nest n).sensor = .used → (s.nest n).level = .closed →
          exec (.releaseTicket tag nest) s =
            .next (State.replying
              { s with
                flg := { s.flg with held := none }
                tkc := { s.tkc with nests := (s.tkc.nests.set n
                  { s.nest n with state := .unload, timer := s.tkc.unloadLimit, expiry := none }) } }
              147 tag ([0, nest] ++ bytes4 serial ++ [7]))) ∧
        ((s.nest n).state = .held → (s.nest n).sensor = .ignored ∨ (s.nest n).level = .opened →
          let retired := { s with
            flg := { s.flg with held := none }
            ltc := { s.ltc with ticketCount := s.ltc.ticketCount - 1 }
            tkc := { s.tkc with nests := (s.tkc.nests.set n
              { s.nest n with state := if (s.nest n).disablePending then .disabled else .vacant, timer := 0,
                              expiry := none, ticket := none, verdict := false, disablePending := false }) } }
          let content := [0, nest] ++ bytes4 serial ++ (if (s.nest n).disablePending then [0] else [1])
          (s.ltc.line ≠ .closing ∨ 2 ≤ s.ltc.ticketCount →
            exec (.releaseTicket tag nest) s = .next (retired.replying 147 tag content)) ∧
          ∀ b, s.ltc.line = .closing → s.ltc.ticketCount = 1 → s.ltc.binding = some b →
            ∃ t : State, exec (.releaseTicket tag nest) s = .next (t.replying 147 tag content) ∧ LotDrained b retired t) ∧
        ((s.nest n).state ≠ .held →
          exec (.releaseTicket tag nest) s =
            .next ({ s with flg := { s.flg with held := none } }.replying 147 tag
              ([0, nest] ++ bytes4 serial ++ byte (s.nest n).state.code)))

/-- READ_TICKET: BAD_PARAM for the nest or the bands; the nest's state alone when it holds no ticket; and
otherwise the ticket with its tally record and the named bands, field by field in the order of the layout.  The byte of
an absent defect band is left open, and the model's free-value counter alone moves beside the reply (assumption log
6). -/
def Obligations.ReadTicketAnswersTicketAsItStands : Prop :=
  ∀ (tag nest first count : Byte) (s : State), s.quiet →
    (8 ≤ nest.toNat ∨ 8 < count.toNat ∨ 32 < first.toNat + count.toNat →
      exec (.readTicket tag nest first count) s = .next (s.replying 148 tag [1])) ∧
    ∀ hn : nest.toNat < 8, count.toNat ≤ 8 → first.toNat + count.toNat ≤ 32 →
      let n : NestId := ⟨nest.toNat, hn⟩
      ((s.nest n).ticket = none →
        exec (.readTicket tag nest first count) s =
          .next (s.replying 148 tag ([0, nest] ++ byte (s.nest n).state.code ++ [0]))) ∧
      ∀ x, (s.nest n).ticket = some x → ∃ (v : Byte) (content : List Byte),
        (let y := s.tally n
         let bit := fun (place : Nat) (p : Bool) => if p then 2 ^ place else 0
         content = [nest] ++ byte (s.nest n).state.code ++
           byte (1 + bit 1 x.marginal + bit 2 (decide (s.flg.held = some ⟨n, x.serial⟩)) + bit 3 x.firstDefect.isSome +
             bit 4 (x.firstDefect.any (fun d => d.band.isSome)) + bit 5 y.presence) ++
           bytes4 x.serial ++ bytes4 x.lotId ++ byte x.attempt ++ byte x.disp.code ++
           byte (match x.dispStage with | some g => g.code | none => 255) ++
           byte (match x.dispClass with | some c => c.code | none => 255) ++
           (match x.final with
             | some f => byte f.disp.code ++ byte f.stage.code ++ byte f.cls.code
             | none => [255, 255, 255]) ++
           byte (bit 2 x.later.polarity + bit 3 x.later.response + bit 4 x.later.distortion + bit 5 x.later.rub) ++
           (match x.firstDefect with
             | some d => byte d.cls.code ++ (match d.band with | some k => byte k | none => [v]) ++ bytes3 d.fcode ++
                 signed2 d.value ++ signed2 d.limit ++ bytes3 d.programBlock
             | none => List.replicate 12 0) ++
           bytes3 (x.lastDriven.getD 16777215) ++ bytes3 (x.lastJudged.getD 16777215) ++ bytes3 y.polarityWrong ++
           bytes3 y.unbanded ++ bytes3 y.judged ++ bytes3 y.void ++ [first, count] ++
           ((List.finRange 32).filter
               (fun k => decide (first.toNat ≤ k.val ∧ k.val < first.toNat + count.toNat))).flatMap (fun k =>
             let z := y.bands[k]
             bytes3 z.judged ++ bytes3 z.void ++ bytes3 z.respExceed ++ bytes3 z.dnExceed ++ bytes3 z.rbExceed ++
               byte (bit 0 z.responseDeclared + bit 1 z.distortionDeclared + bit 2 z.rubDeclared))) ∧
        content.length = 51 + 16 * count.toNat ∧
        exec (.readTicket tag nest first count) s =
          .next { s with free := s.free + 1, svc := { s.svc with reply := Reply.cells ⟨.ok, content⟩ 20 tag } }

/-- READ_COUNTERS: BAD_PARAM, BAD_STATE, a new snapshot for page 0 with the live counters cleared when the
flag asks, and the page of the snapshot as it stands for pages 1 to 5. -/
def Obligations.ReadCountersTakesSnapshot : Prop :=
  ∀ (tag page flags : Byte) (s : State), s.quiet →
    (5 < page.toNat ∨ (flags.getLsbD 0 = true ∧ page ≠ 0) →
      exec (.readCounters tag page flags) s = .next (s.replying 149 tag [1])) ∧
    (1 ≤ page.toNat → page.toNat ≤ 5 → flags.getLsbD 0 = false →
      (s.yct.present = false → exec (.readCounters tag page flags) s = .next (s.replying 149 tag [2])) ∧
      (s.yct.present = true →
        exec (.readCounters tag page flags) s =
          .next (s.replying 149 tag ([0, page, s.yct.number] ++ byte (if s.yct.cleared then 1 else 0) ++
            (s.yct.snap.page page.toNat).flatMap bytes4)))) ∧
    (page = 0 →
      exec (.readCounters tag page flags) s =
        .next (State.replying
          { s with yct :=
            { live := if flags.getLsbD 0 then Counters.zero else s.yct.live, snap := s.yct.live, present := true,
              number := s.yct.number + 1, cleared := flags.getLsbD 0 } }
          149 tag ([0, 0, s.yct.number + 1] ++ byte (if flags.getLsbD 0 then 1 else 0) ++
            (s.yct.live.page 0).flatMap bytes4)))

/-- READ_FAULTS answers the log, the held-ticket reference and the line stop, and changes nothing in the
log; what the reply holds for an absent record, nest or serial is left open (assumption log 6). -/
def Obligations.ReadFaultsAnswersLog : Prop :=
  ∀ (tag : Byte) (s : State), s.quiet → ∃ stamp nest serial detail : List Byte,
    stamp.length = 4 ∧ nest.length = 1 ∧ serial.length = 4 ∧ detail.length = 2 ∧
    (∀ r, s.flg.first = some r → stamp = bytes4 r.stamp ∧ detail = halfBytes r.detail ∧
      (∀ n : NestId, r.nest = some n → nest = byte n.val) ∧ ∀ k, r.serial = some k → serial = bytes4 k) ∧
    exec (.readFaults tag) s =
      .next (State.replying { s with free := s.free + 11 } 150 tag
        ([0] ++
          byte (flagByte [s.flg.first.isSome, s.flg.first.any (fun r => r.nest.isSome),
            s.flg.first.any (fun r => r.serial.isSome), s.flg.lineStop, s.flg.armed]) ++
          byte ((s.flg.first.map (fun r => r.kind.code)).getD 0) ++ stamp ++ nest ++ serial ++ detail ++
          halfBytes s.flg.next ++
          (match s.flg.held with | some h => byte h.nest.val ++ bytes4 h.serial | none => [255, 0, 0, 0, 0])))

/-- CLEAR_FAULTS: BAD_PARAM for a code outside 1 to 10, BAD_STATE for a clear of the first record while a
ticket is held, and otherwise the named kinds leave the set and the record is emptied when asked; the
output and the armed flag stay. -/
def Obligations.ClearFaultsUnlessHeld : Prop :=
  ∀ (tag flags : Byte) (kinds : Half) (s : State), s.quiet →
    let content := fun (f : FaultLog) => byte (if f.first.isSome then 1 else 0) ++ halfBytes f.next
    let named := ∀ k, k = 0 ∨ 11 ≤ k → kinds.getLsbD k = false
    (¬named → exec (.clearFaults tag flags kinds) s = .next (s.replying 151 tag (([1] : List Byte) ++ content s.flg))) ∧
    (named → flags.getLsbD 0 = true → s.flg.held ≠ none →
      exec (.clearFaults tag flags kinds) s = .next (s.replying 151 tag (([2] : List Byte) ++ content s.flg))) ∧
    (named → flags.getLsbD 0 = false ∨ s.flg.held = none → ∃ f : FaultLog,
      f = { s.flg with first := if flags.getLsbD 0 then none else s.flg.first, next := f.next } ∧
      (∀ k, f.next.getLsbD k = (s.flg.next.getLsbD k && !kinds.getLsbD k)) ∧
      exec (.clearFaults tag flags kinds) s = .next ({ s with flg := f }.replying 151 tag (([0] : List Byte) ++ content f)))

/-- RESUME_LINE deasserts and arms the line stop, and asserts it again when the first record's kind or a
kind of the next-fault set is in the stop mask. -/
def Obligations.ResumeLineStopsAgainForLoggedKind : Prop :=
  ∀ (tag : Byte) (s : State), s.quiet →
    let logged := (∃ r, s.flg.first = some r ∧ s.flg.stopMask.getLsbD r.kind.code = true) ∨
      ∃ k, s.flg.next.getLsbD k = true ∧ s.flg.stopMask.getLsbD k = true
    (logged → exec (.resumeLine tag) s =
      .next ({ s with flg := { s.flg with lineStop := true, armed := false } }.replying 152 tag [0, 1])) ∧
    (¬logged → exec (.resumeLine tag) s =
      .next ({ s with flg := { s.flg with lineStop := false, armed := true } }.replying 152 tag [0, 2]))

/-- SET_TAP: BAD_PARAM for a slot, source or nest out of range, and otherwise the source becomes the
slot's pending source; the reply of either result carries both slots after the request. -/
def Obligations.SetTapSetsPendingSource : Prop :=
  ∀ (tag slot source nest : Byte) (s : State), s.quiet →
    let fits := slot.toNat < 2 ∧ source.toNat ≤ 5 ∧
      (source.toNat = 1 ∨ source.toNat = 3 ∨ source.toNat = 4 → nest.toNat < 8)
    (¬fits → exec (.setTap tag slot source nest) s =
      .next (s.replying 153 tag (([1] : List Byte) ++ s.fli.taps[0].bytes ++ s.fli.taps[1].bytes))) ∧
    (fits → ∃ (src : TapSource) (taps : Vector TapSlot 2), src.code = source.toNat ∧
      (source.toNat = 1 ∨ source.toNat = 3 ∨ source.toNat = 4 → src.nestCode = nest.toNat) ∧
      exec (.setTap tag slot source nest) s =
        .next ({ s with fli := { s.fli with taps := taps } }.replying 153 tag (([0] : List Byte) ++ taps[0].bytes ++ taps[1].bytes)) ∧
      ∀ k : Fin 2, taps[k] = if k.val = slot.toNat then { s.fli.taps[k] with pending := some src } else s.fli.taps[k])

/-- STATUS answers 26 bytes and changes nothing; LINE_RESET is answered OK with nothing yet reset; a
request of an unlisted type is answered UNKNOWN with no effect. -/
def Obligations.StatusLineResetAndUnknownAnswered : Prop :=
  ∀ (tag : Byte) (s : State), s.quiet →
    (exec (.status tag) s =
      .next (s.replying 129 tag ([0, 16, 12, 0, 2] ++ byte s.ltc.line.code ++
        bytes4 (if s.ltc.line = .noLot then 0 else (s.ltc.binding.map (fun b => b.lotId)).getD 0) ++
        byte s.fli.link.code ++ allNests.flatMap (fun n => byte (s.nest n).state.code) ++
        (match s.flg.held with | some h => byte h.nest.val ++ bytes4 h.serial | none => [255, 0, 0, 0, 0]) ++
        byte (if s.flg.lineStop then 1 else 0) ++ byte (if s.flg.armed then 1 else 0)))) ∧
    exec (.lineReset tag) s = .next (s.replying 154 tag [0]) ∧
    ∀ (type : Byte) (payload : List Byte), isRequestType type = false →
      exec (.unknownRequest type tag payload) s =
        .next (s.replying (if type.toNat ≤ 127 then type + 128 else 255) tag [5])

/-! ### The frame-end -/

/-- The frame-end of a frame: the stamp goes up by 1, the frame is GOOD, BAD or ABSENT, and the lock state, the runs,
the loss stamp and TKC's link view follow; what no rule of the frame-end names stays. That the stamp goes up first is
log 4. -/
def Obligations.FrameEndUpdatesLockState : Prop :=
  ∀ (frame : Option UpstreamFrame) (sensors : Byte) (ready : Bool) (s : State), ∃ t,
    exec (.upstreamFrontFrame frame sensors ready) s = .next t ∧
    t.tmb.stamp = (s.tmb.stamp + 1) % 4026531840 ∧
    (let good := ∃ f, frame = some f ∧ byteSum (slotBytes f) = f.check.toNat
     let was := s.fli
     let now := t.fli
     (was.link = .searching → good → was.goodRun < 47 →
       now.link = .searching ∧ now.goodRun = was.goodRun + 1 ∧ now.badRun = was.badRun ∧
         now.absentCount = was.absentCount ∧ now.lossStamp = was.lossStamp) ∧
     (was.link = .searching → good → 47 ≤ was.goodRun →
       now.link = .locked ∧ now.goodRun = 0 ∧ now.badRun = 0 ∧ now.absentCount = 0 ∧ now.lossStamp = none) ∧
     (was.link = .searching → ¬good →
       now.link = .searching ∧ now.goodRun = 0 ∧ now.badRun = was.badRun ∧ now.absentCount = was.absentCount ∧
         now.lossStamp = was.lossStamp) ∧
     (was.link = .locked → good →
       now.link = .locked ∧ now.goodRun = was.goodRun ∧ now.badRun = 0 ∧ now.absentCount = 0 ∧ now.lossStamp = none) ∧
     (was.link = .locked → ¬good →
       now.absentCount = was.absentCount + (if frame = none then 1 else 0) ∧
       (was.badRun < 7 →
         now.link = .locked ∧ now.goodRun = was.goodRun ∧ now.badRun = was.badRun + 1 ∧ now.lossStamp = none) ∧
       (7 ≤ was.badRun →
         now.link = .searching ∧ now.goodRun = 0 ∧ now.badRun = 0 ∧ now.lossStamp = some s.tmb.stamp)) ∧
     now.lastOpened = was.lastOpened) ∧
    t.tkc.linkView = (if t.fli.link = s.fli.link then s.tkc.linkView else t.fli.link) ∧
    t.tkc.reportWait = s.tkc.reportWait ∧ t.tkc.unloadLimit = s.tkc.unloadLimit ∧
    t.swg.segments = s.swg.segments ∧ t.jdu = s.jdu ∧ t.bmu = { s.bmu with ready := ready } ∧ t.yct = s.yct ∧
    t.ltc = s.ltc ∧ t.flg = s.flg ∧ t.svc = { s.svc with upChosen := false } ∧ t.pending = s.pending

/-- The frame-end of a frame sends the drive samples in a downstream frame with its check, delivers the marked samples
to BKA and GDM, which take them into the blocks in progress, and carries the tap slots' sources; a residual is carried
once. In the frame that takes the link to LOCKED a context that takes a start request waits for it anew, and every other
takes its sample. The marks that are cleared, and the one of a spent residual, are the model's own (log 2). -/
def Obligations.FrameEndMovesSamples : Prop :=
  ∀ (frame : Option UpstreamFrame) (sensors : Byte) (ready : Bool) (s : State), ∃ t,
    exec (.upstreamFrontFrame frame sensors ready) s = .next t ∧
    (∀ n : NestId,
      t.fli.driveSlots[n] = (if (s.ctx n).state = .running then
        max (-8388351) (sineTable ((s.ctx n).phase.toNat / 2 ^ 18) * ((s.ctx n).gain : Int) / 32768) else 0) ∧
      ((s.ctx n).state = .running →
        t.ctx n = { s.ctx n with phase := (s.ctx n).phase + (s.ctx n).freqWord })) ∧
    (∃ check : Nat, check < 65536 ∧
      downstreamBytes t.fli.driveSlots =
        (List.finRange 8).flatMap (fun n =>
          let x := BitVec.ofInt 24 t.fli.driveSlots[n]
          [x.extractLsb' 16 8, x.extractLsb' 8 8, x.extractLsb' 0 8]) ++ [BitVec.ofNat 8 (check / 256), BitVec.ofNat 8 check] ∧
      check = (((downstreamBytes t.fli.driveSlots).take 24).map BitVec.toNat).sum % 65536) ∧
    (let trusted := fun f : UpstreamFrame =>
       t.fli.link = .locked ∧ frame = some f ∧ byteSum (slotBytes f) = f.check.toNat
     (∀ f, trusted f →
       (∀ n : NestId, t.fli.mics[n] = ⟨f.mics[n].toInt, false, f.clip.getLsbD n⟩) ∧
       t.fli.guardMic = if f.clip.getLsbD 8 then ⟨0, true, false⟩ else ⟨f.guard.toInt, false, false⟩) ∧
     ((∀ f, ¬trusted f) → (∀ n : NestId, t.fli.mics[n] = ⟨0, true, false⟩) ∧ t.fli.guardMic = ⟨0, true, false⟩)) ∧
    (∀ n : NestId, ∃ a : Analysis,
      let starts := s.fli.link = .searching ∧ t.fli.link = .locked ∧ (s.nest n).timer = 0 ∧ (s.nest n).drive = .idle ∧
        ((s.nest n).state = .entry ∨ (s.nest n).state = .retestWait) ∧ (s.ctx n).state = .idle
      let residual := (s.ana n).residual.map (fun r => { r with
        spent := r.spent || decide (479 ≤ elapsed ((r.b0 + 480) % 4026531840) s.tmb.stamp) })
      ((s.ana n).state = .opened → (s.ana n).count < 480 →
        let x := t.fli.mics[n]
        let k := (s.ana n).refPhase.toNat / 2 ^ 18
        a = { s.ana n with
          buffer := (s.ana n).buffer ++ [x.value], damaged := (s.ana n).damaged || x.invalid || x.clipped
          i := (s.ana n).i + x.value * sineTable (k + 4096), q := (s.ana n).q + x.value * sineTable k
          refPhase := (s.ana n).refPhase + (s.ana n).report.freqWord, count := (s.ana n).count + 1
          residual := residual }) ∧
      ((s.ana n).state ≠ .opened ∨ 480 ≤ (s.ana n).count → a = { s.ana n with residual := residual }) ∧
      (¬starts → t.ana n = a) ∧
      (starts → t.ana n = { a with state := .waiting, cursor := 0, count := 0, buffer := [], i := 0, q := 0,
                                   damaged := false, history := [] })) ∧
    t.fli.tapsTaken = false ∧ t.gdm.configTaken = false ∧ (∀ n : NestId, t.swg.processed[n] = false) ∧
    (let x := t.fli.guardMic
     let step := match s.gdm.prev with
       | some p => if p.invalid = true ∨ x.invalid = true then 0 else (x.value - p.value).natAbs
       | none => 0
     t.gdm.prev = some x ∧ t.gdm.trips = s.gdm.trips ∧ t.gdm.saturated = s.gdm.saturated ∧
       t.gdm.lastDiscard = s.gdm.lastDiscard ∧ t.gdm.current = s.gdm.current ∧ t.gdm.pending = s.gdm.pending ∧
     (s.tmb.stamp % 480 = 0 →
       t.gdm.start = s.tmb.stamp ∧ t.gdm.eg = step ∧ t.gdm.invalidSeen = x.invalid ∧
         t.gdm.threshold = s.gdm.current.threshold) ∧
     (s.tmb.stamp % 480 ≠ 0 →
       t.gdm.start = s.gdm.start ∧ t.gdm.eg = max s.gdm.eg step ∧
         t.gdm.invalidSeen = (s.gdm.invalidSeen || x.invalid) ∧ t.gdm.threshold = s.gdm.threshold)) ∧
    ∀ k : Fin 2, t.fli.taps[k] = { s.fli.taps[k] with
      carried := match s.fli.taps[k].current with
        | .off => 0
        | .mic m => t.fli.mics[m].value
        | .guard => t.fli.guardMic.value
        | .drive m => t.fli.driveSlots[m]
        | .resid m => match (s.ana m).residual with
          | none => 0
          | some r => if r.spent then 0 else
            max (-8388608) (min 8388607 ((r.values[elapsed ((r.b0 + 480) % 4026531840) s.tmb.stamp]?).getD 0))
        | .follow => match s.fli.taps[k].follow with
          | some m => t.fli.mics[m].value
          | none => 0 }

/-- The frame-end of a frame samples the nest sensors: the steady count, and an event due when it reaches the
debounce; the first frame after a reset sets the level.  A link-locked report makes the start requests that
waited for it.  That the event is taken as a step of its own is the model's choice (assumption log 2). -/
def Obligations.FrameEndDebouncesSensors : Prop :=
  ∀ (frame : Option UpstreamFrame) (sensors : Byte) (ready : Bool) (s : State), ∃ t,
    exec (.upstreamFrontFrame frame sensors ready) s = .next t ∧
    ∀ n : NestId, ∃ (level : Level) (steady : Nat) (due : Bool),
      (let raw : Level := if sensors.getLsbD n then .closed else .opened
       let starts := s.fli.link = .searching ∧ t.fli.link = .locked ∧ (s.nest n).timer = 0 ∧ (s.nest n).drive = .idle ∧
         ((s.nest n).state = .entry ∨ (s.nest n).state = .retestWait)
       t.nest n = { s.nest n with
         raw := raw, level := level, steady := steady, eventDue := due,
         drive := if starts then .starting else (s.nest n).drive } ∧
       (starts → (s.ctx n).state = .idle → (t.ctx n).state = .armed ∧ (t.ana n).state = .waiting ∧ (t.ana n).cursor = 0 ∧
         (t.ana n).history = []) ∧
       (¬starts → (s.ctx n).state ≠ .running → t.ctx n = s.ctx n) ∧
       (s.tmb.framed = false → level = raw ∧ steady = 0 ∧ due = false) ∧
       (s.tmb.framed = true → level = (s.nest n).level ∧
         (raw = (s.nest n).level → steady = 0 ∧ due = false) ∧
         (raw ≠ (s.nest n).level → (s.nest n).steady < 65535 →
           steady = (s.nest n).steady + 1 ∧ (due = true ↔ (s.nest n).debounce ≤ (s.nest n).steady + 1))))

/-- FRONT_LOST, 4,800 frames of SEARCHING after the loss: the fault, the watch closed, and ABORT proposed to every
ticket in SWEEP, DRAIN or RETEST_WAIT of an OPEN or CLOSING line; at any other frame-end nothing.  That a step
not due has no effect is the model's choice (assumption log 1). -/
def Obligations.FrontLostRaisedWhenTheWatchEnds : Prop :=
  ∀ (s : State),
    let due := s.tmb.framed = true ∧ s.fli.link = .searching ∧
      ∃ l, s.fli.lossStamp = some l ∧ elapsed l s.lastFrame = 4800
    (¬due → exec .frontLost s = .next s) ∧
    (due → ∃ t, exec .frontLost s = .next t ∧
      t.fli = { s.fli with lossStamp := none, absentCount := 0 } ∧
      (let raised := raiseFault ⟨.frontLost, s.lastFrame, none, none, BitVec.ofNat 16 s.fli.absentCount⟩ s
       t.flg = raised.flg ∧ t.svc = raised.svc) ∧
      (∀ n,
        (s.ltc.line = .opened ∨ s.ltc.line = .closing →
          (s.nest n).state = .sweep ∨ (s.nest n).state = .drain ∨ (s.nest n).state = .retestWait → TestAborted n s t) ∧
        (s.ltc.line = .noLot ∨ s.ltc.line = .closed ∨
            ((s.nest n).state ≠ .sweep ∧ (s.nest n).state ≠ .drain ∧ (s.nest n).state ≠ .retestWait) →
          t.nest n = s.nest n ∧ t.ctx n = s.ctx n)) ∧
      t.ltc = s.ltc ∧ t.tmb = s.tmb ∧ t.gdm = s.gdm ∧ t.jdu = s.jdu ∧ t.bmu = s.bmu ∧ t.yct = s.yct ∧
      t.swg.segments = s.swg.segments ∧ t.pending = s.pending)

/-! ### The global boundary -/

/-- At a global boundary: a pending tap source becomes current and a FOLLOW slot takes the last-opened nest;
trips 10,080 frames old leave from the head; saturation ends when the list is below 16 and the last discard is
that old; the pending guard fields become current.  The tap selection and the guard fields are taken once at each
boundary, so that a request after it waits for the next.  Off the grid none of the four has an effect (log 1); the
marks of what has been taken are the model's own (log 2). -/
def Obligations.BoundaryStepsOfTapsAndGuard : Prop :=
  ∀ s : State,
    (s.tmb.stamp % 480 ≠ 0 →
      exec .tapChange s = .next s ∧ exec .tripRecordRemoval s = .next s ∧ exec .saturationEnd s = .next s ∧
        exec .guardConfigTakeEffect s = .next s) ∧
    (s.tmb.stamp % 480 = 0 →
      let at_ := { s with tmb := { s.tmb with boundary := true } }
      let old := fun t : Nat => elapsed ((t + 10080) % 4026531840) s.tmb.stamp < 2013265920
      (s.fli.tapsTaken = true → exec .tapChange s = .next at_) ∧
      (s.fli.tapsTaken = false → ∃ taps : Vector TapSlot 2,
        exec .tapChange s = .next { at_ with fli := { s.fli with taps := taps, tapsTaken := true } } ∧
        ∀ k : Fin 2, taps[k].pending = none ∧ taps[k].carried = s.fli.taps[k].carried ∧
          (∀ src, s.fli.taps[k].pending = some src → taps[k].current = src) ∧
          (s.fli.taps[k].pending = none → taps[k].current = s.fli.taps[k].current) ∧
          (taps[k].current = .follow → taps[k].follow = s.fli.lastOpened)) ∧
      (∃ gone kept : List Trip, s.gdm.trips = gone ++ kept ∧ (∀ r ∈ gone, old r.t) ∧
        (∀ r, kept.head? = some r → ¬old r.t) ∧
        exec .tripRecordRemoval s = .next { at_ with gdm := { s.gdm with trips := kept } } ∧
        ∃ saturated : Bool,
          exec .saturationEnd s = .next { at_ with gdm := { s.gdm with trips := kept, saturated := saturated } } ∧
          (saturated = true ↔ s.gdm.saturated = true ∧
            (16 ≤ kept.length ∨ ∃ d, s.gdm.lastDiscard = some d ∧ ¬old d))) ∧
      (s.gdm.configTaken = true → exec .guardConfigTakeEffect s = .next at_) ∧
      (s.gdm.configTaken = false → exec .guardConfigTakeEffect s =
        .next { at_ with gdm := { s.gdm with current := s.gdm.pending, configTaken := true } }))

/-- GLOBAL_BLOCK_BOUNDARY counts every timer above 0 down by 1, once at each boundary, and TKC reads the link state.
After it a nest in ENTRY (or RETEST_WAIT) with timer 0, link view LOCKED and drive IDLE makes its start request, which
an IDLE context takes. A step not due has no effect (the model's choice, log 1); the once at each boundary is log 14. -/
def Obligations.BoundaryCountsTimersAndDelaysRunOut : Prop :=
  (∀ s : State,
    (s.tmb.stamp % 480 = 0 → s.tmb.counted = false → ∃ t, exec .globalBlockBoundary s = .next t ∧
      t.tmb = { s.tmb with boundary := true, counted := true } ∧ t.tkc.linkView = s.fli.link ∧
      t.tkc.reportWait = s.tkc.reportWait ∧ t.tkc.unloadLimit = s.tkc.unloadLimit ∧
      (∀ n, t.nest n = { s.nest n with
        timer := (s.nest n).timer - 1
        expiry := if (s.nest n).timer = 1 then some s.tmb.stamp else (s.nest n).expiry }) ∧
      t.bmu = { s.bmu with
        timer := s.bmu.timer - 1, expiry := if s.bmu.timer = 1 then some s.tmb.stamp else s.bmu.expiry } ∧
      t.swg = s.swg ∧ t.fli = s.fli ∧ t.bka = s.bka ∧ t.gdm = s.gdm ∧ t.jdu = s.jdu ∧ t.yct = s.yct ∧ t.ltc = s.ltc ∧
      t.flg = s.flg ∧ t.svc = s.svc ∧ t.pending = s.pending) ∧
    (s.tmb.stamp % 480 ≠ 0 ∨ s.tmb.counted = true → exec .globalBlockBoundary s = .next s)) ∧
  ∀ (n : NestId) (s : State) (c : Instr) (waiting : NestState),
    (c = .entryDelayExpiry n ∧ waiting = .entry) ∨ (c = .retestDelayExpiry n ∧ waiting = .retestWait) →
    let due := s.tmb.counted = true ∧ (s.nest n).state = waiting ∧ (s.nest n).timer = 0 ∧ s.tkc.linkView = .locked ∧
      (s.nest n).drive = .idle
    (¬due → exec c s = .next s) ∧
    (due → ∃ t, exec c s = .next t ∧
      t.nest n = { s.nest n with drive := .starting } ∧ (∀ m, m ≠ n → t.nest m = s.nest m) ∧
      ((s.ctx n).state = .idle →
        t.ctx n = { s.ctx n with state := .armed } ∧
        t.ana n = { s.ana n with state := .waiting, cursor := 0, count := 0, buffer := [], i := 0, q := 0,
                                 damaged := false, history := [] }) ∧
      ((s.ctx n).state ≠ .idle → t.ctx n = s.ctx n ∧ t.ana n = s.ana n) ∧
      (∀ m, m ≠ n → t.ctx m = s.ctx m ∧ t.ana m = s.ana m) ∧
      t.tmb = s.tmb ∧ t.fli = s.fli ∧ t.gdm = s.gdm ∧ t.jdu = s.jdu ∧ t.bmu = s.bmu ∧ t.yct = s.yct ∧ t.ltc = s.ltc ∧
      t.flg = s.flg ∧ t.svc = s.svc ∧ t.pending = s.pending)

/-! ### The sweep -/

/-- An ARMED context starts its sweep at a global boundary that finds the link LOCKED: the lot's first segment is
loaded, block 0 begins and is reported, and the waiting nest enters SWEEP. A context that SWG considers there and does
not start, as one whose request came after SWG processed the boundary, stays as it is; the mark that the boundary has
been processed for the nest, and which steps set it, are the model's own (logs 2 and 20). Off the grid the step has no
effect (the model's choice, log 1). -/
def Obligations.SweepStartsAtLockedBoundary : Prop :=
  ∀ (n : NestId) (b : Binding) (s : State), s.ltc.binding = some b →
    let due := s.swg.processed[n] = false ∧ (s.ctx n).state = .armed ∧ s.fli.link = .locked
    (s.tmb.stamp % 480 ≠ 0 → exec (.sweepStart n) s = .next s) ∧
    (s.tmb.stamp % 480 = 0 → ¬due → exec (.sweepStart n) s =
      .next { s with tmb := { s.tmb with boundary := true }
                     swg := { s.swg with processed := s.swg.processed.set n true } }) ∧
    (s.tmb.stamp % 480 = 0 → due → ∃ t, exec (.sweepStart n) s = .next t ∧
      t.swg.processed = s.swg.processed.set n true ∧
      (let e := s.swg.segments[b.firstSegment]
       let f := if e.type = .quiet then 0 else blockFcode e 0
       let w := if e.type = .quiet then 0 else freqWordOf f
       t.ctx n = { state := .running, segment := b.firstSegment, copy := e, blockIndex := 0, programBlock := 0, phase := 0,
                   freqWord := w, gain := if e.type = .quiet then 0 else gainOf e.level, stopRequested := false,
                   lastDriven := none, blockStart := s.tmb.stamp } ∧
       ∃ h, t.ana n = { s.ana n with history := h } ∧
        h.getLast? = some { start := s.tmb.stamp, programBlock := 0, type := e.type, settle := decide (0 < e.settle),
                            lastOfSegment := decide (1 = e.duration), fcode := f, level := e.level, freqWord := w,
                            phase := 0, b0 := (s.tmb.stamp + (s.nest n).delay) % 4026531840 }) ∧
      ((s.nest n).state = .entry ∨ (s.nest n).state = .retestWait →
        t.nest n = { s.nest n with state := .sweep, timer := 0, expiry := none, drive := .running }) ∧
      (∀ m, m ≠ n → t.nest m = s.nest m ∧ t.ctx m = s.ctx m ∧ t.ana m = s.ana m) ∧
      t.tmb = { s.tmb with boundary := true } ∧ t.swg.segments = s.swg.segments ∧ t.fli = s.fli ∧ t.gdm = s.gdm ∧
      t.jdu = s.jdu ∧ t.bmu = s.bmu ∧ t.yct = s.yct ∧ t.ltc = s.ltc ∧ t.flg = s.flg ∧ t.svc = s.svc ∧
      t.pending = s.pending)

/-- The boundary 480 frames after a drive block began: the block is recorded as last driven, and the first case that
applies is taken: stop requested, next block of the segment, next segment, or the end of the sweep, which a nest in
SWEEP takes with its last driven block, and one in ENTRY or RETEST_WAIT by checking its own start, for the next boundary.
In DRAIN a drive status of RUNNING is that of the previous ticket's sweep, whose end leaves the ticket's last driven
block (the model's reading, log 18). SWG has then processed the boundary for the nest (the model's mark, logs 2 and 20).
A step not due has no effect (the model's choice, log 1). -/
def Obligations.DriveBlockEndTakesFirstCase : Prop :=
  ∀ (n : NestId) (s : State),
    let c := s.ctx n
    let due := s.tmb.stamp % 480 = 0 ∧ c.state = .running ∧
      (c.blockStart + 480) % 4026531840 = s.tmb.stamp % 4026531840
    (¬due → exec (.driveBlockEnd n) s = .next s) ∧
    (due → ∃ t, exec (.driveBlockEnd n) s = .next t ∧ t.swg.processed = s.swg.processed.set n true ∧
      (let begins := fun (k : Fin 256) (e : Segment) (j : Nat) =>
         (∃ f : Nat, f = (if e.type = .quiet then 0 else blockFcode e j) ∧
           t.ctx n = { c with segment := k, copy := e, blockIndex := j, programBlock := c.programBlock + 1,
                              freqWord := if e.type = .quiet then 0 else freqWordOf f,
                              gain := if e.type = .quiet then 0 else gainOf e.level,
                              lastDriven := some c.programBlock, blockStart := s.tmb.stamp } ∧
           ∃ h, t.ana n = { s.ana n with history := h } ∧
             h.getLast? = some { start := s.tmb.stamp, programBlock := c.programBlock + 1, type := e.type,
                                 settle := decide (j < e.settle), lastOfSegment := decide (j + 1 = e.duration), fcode := f,
                                 level := e.level, freqWord := if e.type = .quiet then 0 else freqWordOf f,
                                 phase := c.phase, b0 := (s.tmb.stamp + (s.nest n).delay) % 4026531840 }) ∧
         t.nest n = s.nest n
       let ends :=
         ((s.nest n).state ≠ .entry → (s.nest n).state ≠ .retestWait →
           t.ctx n = { c with state := .idle, stopRequested := false, lastDriven := some c.programBlock } ∧
           t.ana n = s.ana n) ∧
         ((s.nest n).state = .sweep → t.nest n = { s.nest n with
           state := .drain, timer := 0, expiry := none, drive := .idle,
           ticket := (s.nest n).ticket.map (fun x => { x with lastDriven := some c.programBlock }) }) ∧
         ((s.nest n).state = .drain → t.nest n = { s.nest n with
           drive := .idle
           ticket := if (s.nest n).drive = .running then (s.nest n).ticket
             else (s.nest n).ticket.map (fun x => { x with lastDriven := some c.programBlock }) }) ∧
         ((s.nest n).state.underTest = false → t.nest n = { s.nest n with drive := .idle }) ∧
         ((s.nest n).state = .entry ∨ (s.nest n).state = .retestWait →
           let starts := (s.nest n).timer = 0 ∧ s.tkc.linkView = .locked
           (starts → t.nest n = { s.nest n with drive := .starting } ∧
             t.ctx n = { c with state := .armed, stopRequested := false, lastDriven := some c.programBlock } ∧
             t.ana n = { s.ana n with state := .waiting, cursor := 0, count := 0, buffer := [], i := 0, q := 0,
                                      damaged := false, history := [] }) ∧
           (¬starts → t.nest n = { s.nest n with drive := .idle } ∧
             t.ctx n = { c with state := .idle, stopRequested := false, lastDriven := some c.programBlock } ∧
             t.ana n = s.ana n))
       (c.stopRequested = true → ends) ∧
       (c.stopRequested = false → c.blockIndex + 1 < c.copy.duration → begins c.segment c.copy (c.blockIndex + 1)) ∧
       (c.stopRequested = false → c.copy.duration ≤ c.blockIndex + 1 →
         (∀ k, c.copy.next = some k → begins k s.swg.segments[k] 0) ∧ (c.copy.next = none → ends))) ∧
      (∀ m, m ≠ n → t.nest m = s.nest m ∧ t.ctx m = s.ctx m ∧ t.ana m = s.ana m) ∧
      t.tmb = { s.tmb with boundary := true } ∧ t.swg.segments = s.swg.segments ∧ t.fli = s.fli ∧ t.gdm = s.gdm ∧
      t.jdu = s.jdu ∧ t.bmu = s.bmu ∧ t.yct = s.yct ∧ t.ltc = s.ltc ∧ t.flg = s.flg ∧ t.svc = s.svc ∧
      t.pending = s.pending)

/-- The f-code of a block is the law's real value, W the scaled f-code, and Lg the level's real factor, each rounded
to the nearest integer with halves upward; with the ranges and the tables of R10 and R12.  The sine table holds the
nearest integers of its real values (none lies on a half), at the index that the top 14 bits of P give. -/
def Obligations.OscillatorFiguresAreTheStatedRoundings : Prop :=
  (∀ (e : Segment) (k : Nat), 100 ≤ e.fStart → e.fStart ≤ 400000 → 100 ≤ e.fEnd → e.fEnd ≤ 400000 → k < e.duration →
    (e.law = .step → blockFcode e k = e.fStart) ∧
    (e.law = .log →
      (blockFcode e k : Int) =
        ⌊(e.fStart : Real) * ((e.fEnd : Real) / e.fStart) ^ ((k : Real) / e.duration) + 1 / 2⌋)) ∧
  (∀ f : Nat, 100 ≤ f → f ≤ 400000 →
    ((freqWordOf f).toNat : Int) = ⌊(f : Real) * 2 ^ 32 / 960000 + 1 / 2⌋ ∧
    447392 ≤ (freqWordOf f).toNat ∧ (freqWordOf f).toNat ≤ 1789569707 ∧
    |((freqWordOf f).toNat : Real) * 96000 / 2 ^ 32 - (f : Real) / 10| < 0.0000112) ∧
  (freqWordOf 100 = 447392 ∧ freqWordOf 2000 = 8947849 ∧ freqWordOf 10000 = 44739243 ∧ freqWordOf 20000 = 89478485 ∧
    freqWordOf 400000 = 1789569707) ∧
  (∀ l : Int, -600 ≤ l → l ≤ 0 →
    (gainOf l : Int) = ⌊(8388607 : Real) * 10 ^ ((l : Real) / 200) + 1 / 2⌋ ∧ 8389 ≤ gainOf l ∧ gainOf l ≤ 8388607) ∧
  (∀ i : Nat, i < 16384 →
    |32767 * Real.sin (2 * Real.pi * i / 16384) - (sineTable i : Real)| < 1 / 2 ∧
    -32767 ≤ sineTable i ∧ sineTable i ≤ 32767 ∧ cosineTable i = sineTable ((i + 4096) % 16384)) ∧
  (∀ p : Word, phaseIndex p = p.toNat / 2 ^ 18 ∧ phaseIndex p < 16384) ∧
  (gainOf 0 = 8388607 ∧ gainOf (-200) = 838861 ∧ gainOf (-400) = 83886 ∧ gainOf (-600) = 8389) ∧
  ∀ (c : SweepCtx) (stamp : Nat),
    (c.copy.type = .quiet → (c.begin stamp).freqWord = 0 ∧ (c.begin stamp).gain = 0) ∧
    (c.copy.type ≠ .quiet →
      (c.begin stamp).freqWord = freqWordOf (blockFcode c.copy c.blockIndex) ∧ (c.begin stamp).gain = gainOf c.copy.level)

/-! ### Blocks -/

/-- A WAITING context opens the block at its cursor with the sample of that block's b0; an OPEN context with 480
samples completes its block into a record whose LF, G, DN and RB are the stated real figures, rounded and clamped
(none lies on a half), and whose PH is 10 θ of the point (Q, I) rounded, +1800 written −1800, with the table of R44;
within 10^-12 of a half the statement leaves either side (assumption log 7). A full pending block queue stops the
model (assumption log 8). A step not due has no effect (log 1). -/
def Obligations.AnalysisBlockOpensAndCompletes : Prop :=
  (∀ (n : NestId) (s : State) (r : DriveReport),
    (s.ana n).state = .waiting → (s.ana n).history.find? (fun r => r.programBlock == (s.ana n).cursor) = some r →
    s.tmb.framed = true → r.b0 = s.lastFrame →
    let x := s.fli.mics[n]
    exec (.analysisBlockOpen n) s = .next { s with bka := (s.bka.set n
      { s.ana n with
        state := .opened, report := r, b0 := r.b0, count := 1, buffer := [x.value]
        refPhase := r.phase + r.freqWord, damaged := x.invalid || x.clipped
        i := x.value * sineTable (r.phase.toNat / 2 ^ 18 + 4096), q := x.value * sineTable (r.phase.toNat / 2 ^ 18) }) }) ∧
  (∀ (n : NestId) (s : State), (s.ana n).state = .opened → (s.ana n).count = 480 →
    (8 ≤ (s.ana n).queue.length → exec (.analysisBlockComplete n) s = .fault .pendingQueueFull) ∧
    ((s.ana n).queue.length < 8 → ∃ (r : BlockRecord) (values : List Int),
      let a := s.ana n
      exec (.analysisBlockComplete n) s = .next { s with bka := (s.bka.set n
        { a with state := .waiting, cursor := a.cursor + 1, queue := a.queue ++ [r], residual := some ⟨a.b0, values, false⟩ }) } ∧
      r.nest = n ∧ r.programBlock = a.cursor ∧ r.type = a.report.type ∧ r.settle = a.report.settle ∧
      r.lastOfSegment = a.report.lastOfSegment ∧ r.fcode = a.report.fcode ∧ r.damaged = a.damaged ∧ r.b0 = a.b0 ∧
      r.mark = none ∧ r.g = r.lf - a.report.level ∧ values.length = a.buffer.length ∧
      (∀ k x, a.buffer[k]? = some x →
        let p := (a.report.phase + BitVec.ofNat 32 k * a.report.freqWord).toNat / 2 ^ 18
        values[k]? = some (x - roundAway (2 * (a.q * sineTable p + a.i * sineTable (p + 4096))) 515364618720)) ∧
      let amplitude : Real := 2 * √((a.i : Real) ^ 2 + (a.q : Real) ^ 2) / 15728160
      let rms : Real := √(((values.map (fun v => (v : Real) ^ 2)).sum) / 480)
      let steepest : Nat := ((values.zip values.tail).map (fun v => (v.2 - v.1).natAbs)).foldl max 0
      (r.silent = true ↔ amplitude < 1) ∧
      (r.silent = true → r.lf = -1400 ∧ r.ph = 0 ∧ r.dn = 400 ∧ r.rb = 400) ∧
      (r.silent = false →
        (∃ k : Int, |200 * Real.logb 10 (amplitude / 8388607) - k| < 1 / 2 ∧ r.lf = max (-1400) (min 0 k)) ∧
        (rms = 0 → r.dn = -1400) ∧
        (rms ≠ 0 → ∃ k : Int, |200 * Real.logb 10 (rms / amplitude) - k| < 1 / 2 ∧ r.dn = max (-1400) (min 400 k)) ∧
        (steepest = 0 → r.rb = -1400) ∧
        (steepest ≠ 0 → ∃ k : Int,
          |200 * Real.logb 10 ((steepest : Real) / amplitude) - k| < 1 / 2 ∧ r.rb = max (-1400) (min 400 k)) ∧
        (∃ k : Int, -1800 ≤ k ∧ k ≤ 1800 ∧
          |1800 / Real.pi * Complex.arg ⟨(a.q : Real), (a.i : Real)⟩ - k| ≤ 1 / 2 + 1 / 10 ^ 12 ∧
          r.ph = if k = 1800 then -1800 else k) ∧
        (a.i = 0 → 0 < a.q → r.ph = 0) ∧ (0 < a.i → a.q = 0 → r.ph = 900) ∧ (0 < a.i → a.i = a.q → r.ph = 450) ∧
        (a.i = 0 → a.q < 0 → r.ph = -1800) ∧ (a.i < 0 → a.q = 0 → r.ph = -900)))) ∧
  ∀ (n : NestId) (s : State),
    ((s.ana n).state ≠ .waiting → exec (.analysisBlockOpen n) s = .next s) ∧
    ((s.ana n).state ≠ .opened ∨ (s.ana n).count ≠ 480 → exec (.analysisBlockComplete n) s = .next s)

/-- At a global boundary the records whose decision point has come leave the head of the nest's pending block queue,
after GDM's own work at the boundary, with the pre and post that GDM took there, whichever step took them. Each is
marked VOID when damaged, in saturation, or when a trip overlaps its guard window, and CLEAN otherwise, and JDU takes
them one at a time in queue order. For a nest in SWEEP or DRAIN a record that is neither settle nor QUIET is counted and
judged by the rule of its segment type against the active limit set of the attempt, and every record is reported as
judged; for any other nest it is dropped. GDM's work within the step is log 11. -/
def Obligations.DueBlocksDepartAndAreJudged : Prop :=
  (∀ (n : NestId) (s : State),
    (s.tmb.stamp % 480 ≠ 0 → exec (.blockDeparture n) s = .next s) ∧
    (s.tmb.stamp % 480 = 0 → ∃ (t : State) (gone kept marked : List BlockRecord),
      exec (.blockDeparture n) s = .next t ∧ (s.ana n).queue = gone ++ kept ∧
      let guard := if s.gdm.configTaken then s.gdm.current else s.gdm.pending
      let due := fun r : BlockRecord =>
        elapsed ((r.b0 + (480 + guard.post)) % 4026531840) s.tmb.stamp < 2013265920
      (∀ r ∈ gone, due r) ∧ (∀ r, kept.head? = some r → ¬due r) ∧
      (∀ v, exec .saturationEnd s = .next v → t.gdm = { v.gdm with current := guard, configTaken := true }) ∧
      (let before := fun a b : Nat => ¬elapsed b a < 2013265920
       let void := fun r : BlockRecord => r.damaged = true ∨ t.gdm.saturated = true ∨
         ∃ p ∈ t.gdm.trips, before p.t ((r.b0 + (480 + guard.post)) % 4026531840) ∧
           before ((r.b0 + (4026531840 - guard.pre)) % 4026531840) ((p.t + 480) % 4026531840)
       marked.length = gone.length ∧
       (∀ (i : Nat) (r : BlockRecord), gone[i]? = some r →
         (void r → marked[i]? = some { r with mark := some .void }) ∧
         (¬void r → marked[i]? = some { r with mark := some .clean }))) ∧
      t = marked.foldl (fun u r => judgeRecord n r u)
        { s with tmb := { s.tmb with boundary := true }, gdm := t.gdm
                 bka := (s.bka.set n { s.ana n with queue := kept }) } ∧
      (t.ana n).queue = kept ∧ (∀ m, m ≠ n → t.nest m = s.nest m ∧ t.ctx m = s.ctx m ∧ t.ana m = s.ana m ∧
        t.tally m = s.tally m) ∧
      t.fli = s.fli ∧ t.bmu = s.bmu ∧ t.ltc = s.ltc ∧ t.flg = s.flg ∧ t.svc = s.svc ∧
      t.swg.segments = s.swg.segments ∧ t.jdu.sets = s.jdu.sets ∧ t.pending = s.pending ∧
      (gone = [] ∨ ((s.nest n).state ≠ .sweep ∧ (s.nest n).state ≠ .drain) →
        t.tkc = s.tkc ∧ t.swg = s.swg ∧ t.jdu = s.jdu ∧ t.yct = s.yct))) ∧
  ∀ (n : NestId) (r : BlockRecord) (mark : Mark) (s : State), r.mark = some mark →
    ((s.nest n).state ≠ .sweep → (s.nest n).state ≠ .drain → judgeRecord n r s = s) ∧
    ∀ x b, (s.nest n).state = .sweep ∨ (s.nest n).state = .drain → (s.nest n).ticket = some x →
      s.ltc.binding = some b → ∃ u : State,
        let set := s.jdu.sets[if x.attempt ≤ 1 then b.primarySet else b.retestSet.getD b.primarySet]
        let y := s.tally n
        let counted := match mark with
          | .clean => s.setTally n { y with judged := tallyUp y.judged }
          | .void => { s.setTally n { y with void := tallyUp y.void } with
              yct := { s.yct with live := { s.yct.live with voidBlocks := countUp s.yct.live.voidBlocks } } }
        (r.settle = true ∨ r.type = .quiet → u = s) ∧
        (r.settle = false → r.type = .presence → u = judgePresence n set.header r mark counted) ∧
        (r.settle = false → r.type = .polarity → u = judgePolarity n set.header r mark counted) ∧
        (r.settle = false → r.type = .measure → u = judgeMeasure n set r mark counted) ∧
        (∃ z, (u.nest n).ticket = some z ∧ judgeRecord n r s =
          u.setNest n { u.nest n with ticket := some { z with lastJudged := some r.programBlock } })

/-- A MEASURE record is taken into the band in use that holds its f-code, or counted unbanded when none does; a VOID
one is counted there and done with. A CLEAN one in its band: the three checks count their exceeds, one that reaches
the persistence for the first time rejects, in the order response, distortion, rub, and a value within the margin
proposes MARGINAL. -/
def Obligations.BandChecksCountRejectAndMark : Prop :=
  (∀ (n : NestId) (l : LimitSet) (r : BlockRecord) (mark : Mark) (s : State),
    let holds := fun k : Fin 32 => k.val < l.header.bandCount ∧ l.bands[k].fLo ≤ r.fcode ∧ r.fcode < l.bands[k].fHi
    ((∀ k, ¬holds k) →
      judgeMeasure n l r mark s = s.setTally n { s.tally n with unbanded := tallyUp (s.tally n).unbanded }) ∧
    ∀ k, holds k → (∀ j, j < k → ¬holds j) →
      (mark = .void → judgeMeasure n l r mark s = s.setTally n { s.tally n with
        bands := (s.tally n).bands.set k { (s.tally n).bands[k] with void := tallyUp (s.tally n).bands[k].void } }) ∧
      (mark = .clean → judgeMeasure n l r mark s = judgeBand n k l.bands[k] r s)) ∧
  ∀ (n : NestId) (k : Fin 32) (b : Band) (r : BlockRecord) (s : State) (x : Ticket),
    (s.nest n).ticket = some x →
    let t := judgeBand n k b r s
    let was := (s.tally n).bands[k]
    let now := (t.tally n).bands[k]
    let response := r.silent = true ∨ r.g < b.gLo ∨ b.gHi < r.g
    let distortion := r.silent = false ∧ b.dnMax < r.dn
    let rub := r.silent = false ∧ b.rbMax < r.rb
    let near := r.silent = false ∧
      ((¬response ∧ (r.g < b.gLo + b.margin ∨ b.gHi - b.margin < r.g)) ∨
        (¬distortion ∧ b.dnMax - b.margin < r.dn) ∨ (¬rub ∧ b.rbMax - b.margin < r.rb))
    let newResponse := response ∧ b.persistence ≤ now.respExceed ∧ was.responseDeclared = false
    let newDistortion := distortion ∧ b.persistence ≤ now.dnExceed ∧ was.distortionDeclared = false
    let newRub := rub ∧ b.persistence ≤ now.rbExceed ∧ was.rubDeclared = false
    now.judged = tallyUp was.judged ∧ now.void = was.void ∧
    (response → now.respExceed = tallyUp was.respExceed) ∧ (¬response → now.respExceed = was.respExceed) ∧
    (distortion → now.dnExceed = tallyUp was.dnExceed) ∧ (¬distortion → now.dnExceed = was.dnExceed) ∧
    (rub → now.rbExceed = tallyUp was.rbExceed) ∧ (¬rub → now.rbExceed = was.rbExceed) ∧
    (now.responseDeclared = true ↔ was.responseDeclared = true ∨ newResponse) ∧
    (now.distortionDeclared = true ↔ was.distortionDeclared = true ∨ newDistortion) ∧
    (now.rubDeclared = true ↔ was.rubDeclared = true ∨ newRub) ∧
    ∃ y, (t.nest n).ticket = some y ∧
      (y.later.response = true ↔ x.later.response = true ∨ newResponse) ∧
      (y.later.distortion = true ↔ x.later.distortion = true ∨ newDistortion) ∧
      (y.later.rub = true ↔ x.later.rub = true ∨ newRub) ∧ y.later.polarity = x.later.polarity ∧
      (y.marginal = true ↔ x.marginal = true ∨ near) ∧
      (let rejects := fun (cls : Cls) (value limit : Int) =>
         y.firstDefect = some (x.firstDefect.getD ⟨cls, some k.val, r.fcode, value, limit, r.programBlock⟩) ∧
         (x.disp ≠ .reject → x.disp ≠ .abort →
           y.disp = .reject ∧ y.dispStage = some .sweep ∧ y.dispClass = some cls)
       (newResponse → rejects .response r.g (if b.gHi < r.g then b.gHi else b.gLo)) ∧
       (¬newResponse → newDistortion → rejects .distortion r.dn b.dnMax) ∧
       (¬newResponse → ¬newDistortion → newRub → rejects .rub r.rb b.rbMax) ∧
       (¬newResponse → ¬newDistortion → ¬newRub → y.firstDefect = x.firstDefect ∧
         (near → x.disp = .opened → y.disp = .marginal ∧ y.dispStage = some .sweep ∧ y.dispClass = some .marginal) ∧
         (¬near ∨ x.disp ≠ .opened → y.disp = x.disp ∧ y.dispStage = x.dispStage ∧ y.dispClass = x.dispClass)))

/-- PRESENCE: a CLEAN record at or above the threshold satisfies it, and the last of the segment proposes ABORT when
nothing has.  POLARITY: a CLEAN record that is silent or further from the expected phase than the tolerance is
wrong, and the one that brings the count to the persistence proposes REJECT. -/
def Obligations.PresenceAndPolarityRecordsAreJudged : Prop :=
  ∀ (n : NestId) (h : LimitHeader) (r : BlockRecord) (mark : Mark) (s : State),
    (let seen := (s.tally n).presence = true ∨ (mark = .clean ∧ h.presence ≤ r.g)
     let u := s.setTally n { s.tally n with presence := decide seen }
     (r.lastOfSegment = true → ¬seen →
       judgePresence n h r mark s = propose n ⟨.abort, .entry, .abort, none⟩ u) ∧
     (r.lastOfSegment = false ∨ seen → judgePresence n h r mark s = u)) ∧
    (let d := if |r.ph - h.phase| > 1800 then 3600 - |r.ph - h.phase| else |r.ph - h.phase|
     let wrong := mark = .clean ∧ (r.silent = true ∨ h.tolerance < d)
     let count := tallyUp (s.tally n).polarityWrong
     let u := s.setTally n { s.tally n with polarityWrong := count }
     (¬wrong → judgePolarity n h r mark s = s) ∧
     (wrong → count ≠ h.persistence → judgePolarity n h r mark s = u) ∧
     (wrong → count = h.persistence → judgePolarity n h r mark s =
       propose n ⟨.reject, .polarity, .polarity,
         some ⟨.polarity, none, r.fcode, if r.silent then 1800 else d, h.tolerance, r.programBlock⟩⟩ u))

/-! ### The ticket's proposals and its end -/

/-- A proposal changes the disposition by the table of R99, and with it the stage and class; MARGINAL sets the marginal
flag, a defect fills an empty first defect and joins the later-class set, whatever the resolution. A REJECT that changes
the disposition in SWEEP stops the sweep when the lot has early-out on; a proposal that is no ABORT stops none else. -/
def Obligations.ProposalFollowsDispositionOrder : Prop :=
  ∀ (n : NestId) (p : Proposal) (s : State) (x : Ticket), (s.nest n).ticket = some x → p.disp ≠ .opened →
    let changes := x.disp = .opened ∨ (x.disp = .marginal ∧ p.disp ≠ .marginal) ∨
      (x.disp = .retest ∧ (p.disp = .reject ∨ p.disp = .abort))
    ∃ y, ((propose n p s).nest n).ticket = some y ∧
      (changes → y.disp = p.disp ∧ y.dispStage = some p.stage ∧ y.dispClass = some p.cls) ∧
      (¬changes → y.disp = x.disp ∧ y.dispStage = x.dispStage ∧ y.dispClass = x.dispClass) ∧
      (y.marginal = true ↔ x.marginal = true ∨ p.disp = .marginal) ∧
      (p.defect = none → y.firstDefect = x.firstDefect ∧ y.later = x.later) ∧
      (∀ d, p.defect = some d → y.firstDefect = some (x.firstDefect.getD d) ∧ y.later = x.later.add d.cls) ∧
      y.serial = x.serial ∧ y.lotId = x.lotId ∧ y.attempt = x.attempt ∧ y.final = x.final ∧ y.entry = x.entry ∧
      (let t := propose n p s
       let stops := p.disp = .reject ∧ changes ∧ (s.nest n).state = .sweep ∧
         ∃ b, s.ltc.binding = some b ∧ b.earlyOut = true
       (stops → (s.ctx n).state = .running →
         t.ctx n = { s.ctx n with stopRequested := true } ∧ t.nest n = { s.nest n with ticket := some y }) ∧
       (stops → (s.ctx n).state = .armed → t.ctx n = { s.ctx n with state := .idle } ∧ y.lastDriven = none ∧
         t.nest n = { s.nest n with
           state := .drain, timer := 0, expiry := none, drive := .idle, ticket := some y }) ∧
       (stops → (s.ctx n).state = .idle → t.ctx n = s.ctx n ∧ t.nest n = { s.nest n with ticket := some y }) ∧
       (¬stops → p.disp ≠ .abort → t.ctx n = s.ctx n ∧ t.nest n = { s.nest n with ticket := some y }) ∧
       (∀ m, m ≠ n → t.nest m = s.nest m ∧ t.ctx m = s.ctx m) ∧ t.bka = s.bka ∧ t.jdu = s.jdu ∧ t.yct = s.yct ∧
       t.ltc = s.ltc ∧ t.flg = s.flg ∧ t.svc = s.svc)

/-- DRAIN completes with the drive IDLE and the last driven block NONE or judged: REVIEW proposes RETEST or REJECT
with class VOID for a void band, and CLOSE fixes the final disposition and enters REPORT, or starts a retest. A step
not due has no effect (the model's choice, log 1). -/
def Obligations.DrainCompletesWithReviewAndClose : Prop :=
  ∀ (n : NestId) (b : Binding) (x : Ticket) (s : State),
    s.ltc.binding = some b → (s.nest n).ticket = some x →
    let due := (s.nest n).state = .drain ∧ (s.nest n).drive = .idle ∧ (x.lastDriven = none ∨ x.lastJudged = x.lastDriven)
    (¬due → exec (.drainComplete n) s = .next s) ∧
    (due → ∃ t, exec (.drainComplete n) s = .next t ∧
      (let set := s.jdu.sets[if x.attempt ≤ 1 then b.primarySet else b.retestSet.getD b.primarySet]
       let void := (x.disp = .opened ∨ x.disp = .marginal) ∧
         ∃ k : Fin 32, k.val < set.header.bandCount ∧
           let y := (s.tally n).bands[k]
           (y.void ≠ 0 ∨ y.judged ≠ 0) ∧ (y.void + y.judged) * set.header.voidPercent < y.void * 100
       (¬void → x.disp = .opened → EnteredReport n b x ⟨.pass, .close, .pass⟩ s t) ∧
       (¬void → x.disp = .marginal → EnteredReport n b { x with marginal := true } ⟨.pass, .close, .marginal⟩ s t) ∧
       (∀ stage cls, x.disp = .reject → x.dispStage = some stage → x.dispClass = some cls →
         EnteredReport n b x ⟨.reject, stage, cls⟩ s t) ∧
       (∀ stage, x.disp = .abort → x.dispStage = some stage → EnteredReport n b x ⟨.abort, stage, .abort⟩ s t) ∧
       (void → b.attemptLimit ≤ x.attempt → EnteredReport n b
         { x with disp := .reject, dispStage := some .review, dispClass := some .void } ⟨.reject, .review, .void⟩ s t) ∧
       (¬(void ∧ x.attempt < b.attemptLimit) → x.disp ≠ .retest →
         t.swg = s.swg ∧ t.bka = s.bka ∧ t.jdu = s.jdu ∧ t.yct = s.yct) ∧
       (void → x.attempt < b.attemptLimit →
         (t.nest n).ticket = some { x with
           attempt := x.attempt + 1, disp := .opened, dispStage := none, dispClass := none, marginal := false,
           firstDefect := none, later := ⟨false, false, false, false⟩, lastDriven := none, lastJudged := none } ∧
         (t.nest n).state = .retestWait ∧ (t.nest n).timer = b.retestDelay ∧ t.tally n = Tally.zero ∧
         (∀ m, m ≠ n → t.tally m = s.tally m ∧ t.ctx m = s.ctx m ∧ t.ana m = s.ana m) ∧ t.jdu.sets = s.jdu.sets ∧
         (∀ m : NestId, t.yct.live.nests[m] = if m = n then
           { s.yct.live.nests[n] with retests := countUp s.yct.live.nests[n].retests } else s.yct.live.nests[m]) ∧
         t.yct.live.bins = s.yct.live.bins ∧ t.yct.live.tickets = s.yct.live.tickets ∧
         (b.retestDelay = 0 → s.tkc.linkView = .locked → (t.nest n).drive = .starting ∧
           ((s.ctx n).state = .idle → (t.ctx n).state = .armed)) ∧
         (b.retestDelay ≠ 0 ∨ s.tkc.linkView ≠ .locked → (t.nest n).drive = .idle ∧ t.ctx n = s.ctx n))) ∧
      (∀ m, m ≠ n → t.nest m = s.nest m) ∧ (t.nest n).level = (s.nest n).level ∧ (t.nest n).verdict = (s.nest n).verdict ∧
      (t.nest n).rejectRun = (s.nest n).rejectRun ∧ (t.nest n).disablePending = (s.nest n).disablePending ∧
      t.tmb = s.tmb ∧ t.fli = s.fli ∧ t.gdm = s.gdm ∧ t.bmu = s.bmu ∧ t.ltc = s.ltc ∧ t.flg = s.flg ∧ t.svc = s.svc ∧
      t.pending = s.pending)

/-- Report-taken, with space in the queues the ticket needs: the tally, the unit report, the marker job, the verdict
line and the reject run, and then HELD for a held ticket, UNLOAD for a used sensor that is CLOSED, and retire
otherwise, which drains the lot when it is the last ticket of a CLOSING line; with no space, nothing. That the step
without space has no effect is the model's choice (log 1), and so is the order of the notices of REJECT_RUN and of the
drain in one event (log 19). -/
def Obligations.ReportTakenTalliesReportsAndUnloads : Prop :=
  ∀ (n : NestId) (b : Binding) (x : Ticket) (f : Final) (e : BinEntry) (s : State),
    s.ltc.binding = some b → (s.nest n).state = .report → (s.nest n).ticket = some x →
    x.final = some f → x.entry = some e →
    let space := s.svc.reports.length < 16 ∧ (e.pattern ≠ 0 → s.bmu.queue.length < 16)
    (¬space → exec (.reportTaken n) s = .next s) ∧
    (space → ∃ t u, exec (.reportTaken n) s = .next u ∧
      (let drains := s.ltc.line = .closing ∧ s.ltc.ticketCount ≤ 1 ∧ s.flg.held ≠ some ⟨n, x.serial⟩ ∧
         ((s.nest n).sensor = .ignored ∨ (s.nest n).level = .opened)
       (¬drains → u = t) ∧ (drains → LotDrained b t u)) ∧
      let tallied := b.tallyPoint.code ≤ f.stage.code
      let run := if tallied ∧ f.disp = .reject then min 15 ((s.nest n).rejectRun + 1)
        else if tallied ∧ f.disp = .pass then 0 else (s.nest n).rejectRun
      let reached := tallied ∧ f.disp = .reject ∧ 1 ≤ b.rejectRun ∧ b.rejectRun ≤ run
      (let was := s.yct.live
       let now := t.yct.live
       (tallied →
         (∀ k : Fin 32, now.bins[k] = if k = e.bin then countUp was.bins[k] else was.bins[k]) ∧
         now.nests[n] = { was.nests[n] with
           tested := countUp was.nests[n].tested
           passed := if f.disp = .pass then countUp was.nests[n].passed else was.nests[n].passed
           marginal := if f.disp = .pass ∧ x.marginal = true then countUp was.nests[n].marginal else was.nests[n].marginal
           rejected := if f.disp = .reject then countUp was.nests[n].rejected else was.nests[n].rejected
           aborted := if f.disp = .abort then countUp was.nests[n].aborted else was.nests[n].aborted }) ∧
       (¬tallied → now.bins = was.bins ∧
         now.nests[n] = { was.nests[n] with untallied := countUp was.nests[n].untallied }) ∧
       (∀ m : NestId, m ≠ n → now.nests[m] = was.nests[m]) ∧ now.tickets = was.tickets ∧
       now.guardTrips = was.guardTrips ∧ now.voidBlocks = was.voidBlocks ∧ now.cellErrors = was.cellErrors ∧
       t.yct.snap = s.yct.snap) ∧
      t.svc.reports = s.svc.reports ++ [⟨64, s.svc.reportSeq,
        bytes4 x.serial ++ bytes4 x.lotId ++ byte n.val ++ byte x.attempt ++ byte f.disp.code ++ byte f.stage.code ++
          byte f.cls.code ++
          byte (flagByte [x.marginal, decide tallied, x.firstDefect.isSome, x.firstDefect.any (fun d => d.band.isSome)]) ++
          byte e.bin.val ++ byte e.pattern.val ++ byte x.later.code ++ bytes3 (s.tally n).judged ++
          bytes3 (s.tally n).void ++
          (match x.firstDefect with
            | some d => byte d.cls.code ++ byte (d.band.getD 0) ++ bytes3 d.fcode ++ signed2 d.value ++ signed2 d.limit ++
                bytes3 d.programBlock
            | none => [])⟩] ∧
      t.svc.reportSeq = s.svc.reportSeq + 1 ∧
      t.bmu = { s.bmu with
        queue := if e.pattern = 0 then s.bmu.queue else s.bmu.queue ++ [⟨e.pattern, x.serial, n⟩] } ∧
      (¬reached → t.flg = s.flg ∧ t.svc.notices = s.svc.notices ∧ (t.nest n).rejectRun = run) ∧
      (reached → (t.nest n).rejectRun = 0 ∧
        let raised := raiseFault ⟨.rejectRun, s.now, some n, some x.serial, BitVec.ofNat 16 b.rejectRun⟩ s
        t.flg = raised.flg ∧ t.svc.notices = raised.svc.notices) ∧
      (let pending := (s.nest n).disablePending = true ∨ reached
       let held := s.flg.held = some ⟨n, x.serial⟩
       (held → (t.nest n).state = .held ∧ (t.nest n).timer = 0 ∧ (t.nest n).ticket = some x ∧
         (t.nest n).verdict = e.good ∧ ((t.nest n).disablePending = true ↔ pending) ∧ t.ltc = s.ltc) ∧
       (¬held → (s.nest n).sensor = .used → (s.nest n).level = .closed →
         (t.nest n).state = .unload ∧ (t.nest n).timer = s.tkc.unloadLimit ∧ (t.nest n).ticket = some x ∧
         (t.nest n).verdict = e.good ∧ ((t.nest n).disablePending = true ↔ pending) ∧ t.ltc = s.ltc) ∧
       (¬held → (s.nest n).sensor = .ignored ∨ (s.nest n).level = .opened →
         (pending → (t.nest n).state = .disabled) ∧ (¬pending → (t.nest n).state = .vacant) ∧ (t.nest n).timer = 0 ∧
         (t.nest n).ticket = none ∧ (t.nest n).verdict = false ∧ (t.nest n).disablePending = false ∧
         t.ltc = { s.ltc with ticketCount := s.ltc.ticketCount - 1 })) ∧
      (∀ m, m ≠ n → t.nest m = s.nest m) ∧ t.swg = s.swg ∧ t.bka = s.bka ∧ t.jdu = s.jdu ∧ t.fli = s.fli ∧
      t.gdm = s.gdm ∧ t.tmb = s.tmb ∧ t.pending = s.pending)

/-- REPORT_STALL, NEST_STUCK and MARKER_STALL are raised once for an expired timer, with the boundary's stamp; a
NEST_STUCK into a clean log takes the nest to HELD. With no expiry, or in another state, they have no effect. That the
detail is the limit as it stands at the raising is the model's reading (assumption log 16). A step not due has no
effect (log 1). -/
def Obligations.ExpiredTimersRaiseTheirFaults : Prop :=
  ∀ (n : NestId) (s : State),
    ((s.nest n).expiry = none ∨ (s.nest n).state ≠ .report → exec (.reportStall n) s = .next s) ∧
    ((s.nest n).expiry = none ∨ (s.nest n).state ≠ .unload → exec (.nestStuck n) s = .next s) ∧
    (s.bmu.expiry = none ∨ s.bmu.port ≠ .waiting → exec .markerStall s = .next s) ∧
    (∀ g x, (s.nest n).expiry = some g → (s.nest n).ticket = some x →
      (∀ e, (s.nest n).state = .report → x.entry = some e →
        let detail := (if 16 ≤ s.svc.reports.length then 1 else 0) +
          (if e.pattern ≠ 0 ∧ 16 ≤ s.bmu.queue.length then 2 else 0)
        detail ≠ 0 →
        exec (.reportStall n) s = .next (raiseFault ⟨.reportStall, g, some n, some x.serial, BitVec.ofNat 16 detail⟩
          (s.setNest n { s.nest n with expiry := none }))) ∧
      ((s.nest n).state = .unload →
        (let r : FaultRecord := ⟨.nestStuck, g, some n, some x.serial, BitVec.ofNat 16 s.tkc.unloadLimit⟩
         (s.flg.first = none ∧ s.flg.next = 0 →
           exec (.nestStuck n) s =
             .next (raiseFault r (s.setNest n { s.nest n with state := .held, timer := 0, expiry := none }))) ∧
         (¬(s.flg.first = none ∧ s.flg.next = 0) →
           exec (.nestStuck n) s = .next (raiseFault r (s.setNest n { s.nest n with expiry := none })))))) ∧
    ∀ g j rest, s.bmu.expiry = some g → s.bmu.port = .waiting → s.bmu.queue = j :: rest →
      exec .markerStall s =
        .next (raiseFault ⟨.markerStall, g, some j.nest, some j.serial, BitVec.ofNat 16 s.bmu.markerWait⟩
          { s with bmu := { s.bmu with expiry := none } })

/-! ### The sensor's events -/

/-- A close event sets the level CLOSED, and opens a ticket in a VACANT AUTO nest of an OPEN line whose sensor is
USED; in every other nest it does no more. A step not due has no effect (the model's choice, log 1). -/
def Obligations.CloseEventOpensTicket : Prop :=
  ∀ (n : NestId) (s : State),
    ((s.nest n).eventDue = false ∨ (s.nest n).level = .closed → exec (.closeEvent n) s = .next s) ∧
    ((s.nest n).eventDue = true → (s.nest n).level = .opened →
      let settled := s.setNest n { s.nest n with level := .closed, steady := 0, eventDue := false }
      let opens := (s.nest n).state = .vacant ∧ (s.nest n).startMode = .auto ∧ (s.nest n).sensor = .used ∧
        s.ltc.line = .opened
      (¬opens → exec (.closeEvent n) s = .next settled) ∧
      ∀ b, opens → s.ltc.binding = some b →
        ∃ t, exec (.closeEvent n) s = .next t ∧ TicketOpened n b settled t ∧ (t.nest n).level = .closed)

/-- An open event sets the level OPEN. With the sensor USED it pulls a unit under test: ABORT at the current stage,
the sweep stopped, the pending blocks discarded, UNIT_PULLED raised, and REPORT; and it retires a ticket in UNLOAD,
which drains the lot when it is the last of a CLOSING line. A step not due has no effect (the model's choice, log 1). -/
def Obligations.OpenEventPullsOrRetires : Prop :=
  ∀ (n : NestId) (s : State),
    ((s.nest n).eventDue = false ∨ (s.nest n).level = .opened → exec (.openEvent n) s = .next s) ∧
    ((s.nest n).eventDue = true → (s.nest n).level = .closed →
      let settled := { s.nest n with level := .opened, steady := 0, eventDue := false }
      ((s.nest n).sensor = .ignored ∨ ((s.nest n).state.underTest = false ∧ (s.nest n).state ≠ .unload) →
        exec (.openEvent n) s = .next (s.setNest n settled)) ∧
      ((s.nest n).sensor = .used → (s.nest n).state = .unload →
        let retired := { s with
          ltc := { s.ltc with ticketCount := s.ltc.ticketCount - 1 }
          tkc := { s.tkc with nests := (s.tkc.nests.set n
            { settled with state := if (s.nest n).disablePending then .disabled else .vacant, timer := 0, expiry := none,
                           ticket := none, verdict := false, disablePending := false }) } }
        (s.ltc.line ≠ .closing ∨ 2 ≤ s.ltc.ticketCount → exec (.openEvent n) s = .next retired) ∧
        ∀ b, s.ltc.line = .closing → s.ltc.ticketCount = 1 → s.ltc.binding = some b →
          ∃ t, exec (.openEvent n) s = .next t ∧ LotDrained b retired t) ∧
      ∀ b x, (s.nest n).sensor = .used → (s.nest n).state.underTest = true → s.ltc.binding = some b →
        (s.nest n).ticket = some x → ∃ t y f, exec (.openEvent n) s = .next t ∧
          x.AbortedTo y (s.currentStage n) ∧ EnteredReport n b y f s t ∧
          (x.disp ≠ .reject → f = ⟨.abort, y.dispStage.getD .entry, .abort⟩) ∧
          (∀ stage cls, x.disp = .reject → x.dispStage = some stage → x.dispClass = some cls →
            f = ⟨.reject, stage, cls⟩) ∧
          ((s.nest n).drive ≠ .idle →
            ((s.ctx n).state = .armed → (t.ctx n).state = .idle ∧ (t.nest n).drive = .idle) ∧
            ((s.ctx n).state = .running → t.ctx n = { s.ctx n with stopRequested := true } ∧
              (t.nest n).drive = (s.nest n).drive)) ∧
          ((s.nest n).drive = .idle → t.ctx n = s.ctx n ∧ (t.nest n).drive = .idle) ∧
          t.ana n = { s.ana n with state := .closed, queue := [] } ∧
          (let raised :=
             raiseFault ⟨.unitPulled, s.now, some n, some x.serial, BitVec.ofNat 16 (s.currentStage n).code⟩ s
           t.flg = raised.flg ∧ t.svc = raised.svc) ∧
          (t.nest n).level = .opened ∧ (∀ m, m ≠ n → t.nest m = s.nest m ∧ t.ctx m = s.ctx m ∧ t.ana m = s.ana m) ∧
          t.ltc = s.ltc ∧ t.tmb = s.tmb ∧ t.fli = s.fli ∧ t.gdm = s.gdm ∧ t.jdu = s.jdu ∧ t.bmu = s.bmu ∧ t.yct = s.yct ∧
          t.swg.segments = s.swg.segments ∧ t.pending = s.pending)

/-! ### The guard and the marker port -/

/-- A guard block closes with its 480th sample: a trip, by its level or an invalid sample, is counted and joins a list
of fewer than 16, and is otherwise discarded with saturation, which raises GUARD_STORM when it begins. A step not due
has no effect (the model's choice, log 1); the mark that the close has been taken is the model's own (log 2). -/
def Obligations.GuardBlockCloseOffersTrip : Prop :=
  ∀ (s : State),
    let g := s.gdm
    let due := s.tmb.framed = true ∧ g.closed = false ∧ s.lastFrame = (g.start + 479) % 4026531840
    let level := guardLevel g.eg
    (g.eg = 0 → level = -1400) ∧
    (0 < g.eg → g.eg ≤ 16777215 → ∃ k : Int,
      |200 * Real.logb 10 ((g.eg : Real) / 8388607) - k| < 1 / 2 ∧ level = max (-1400) k) ∧
    (¬due → exec .guardBlockClose s = .next s) ∧
    (due →
      let trip := g.invalidSeen = true ∨ g.threshold ≤ level
      (¬trip → exec .guardBlockClose s = .next { s with gdm := { g with closed := true } }) ∧
      (trip →
        let counted := { s with
          yct := { s.yct with live := { s.yct.live with guardTrips := countUp s.yct.live.guardTrips } } }
        (g.trips.length < 16 →
          exec .guardBlockClose s =
            .next { counted with gdm := { g with closed := true, trips := g.trips ++ [⟨g.start, level⟩] } }) ∧
        (16 ≤ g.trips.length →
          let full := { counted with gdm := { g with closed := true, saturated := true, lastDiscard := some g.start } }
          (g.saturated = true → exec .guardBlockClose s = .next full) ∧
          (g.saturated = false → ∃ top : Int,
            (∀ r ∈ g.trips, r.gl ≤ max (-1400) top) ∧ (top = -1400 ∨ ∃ r ∈ g.trips, r.gl = top) ∧
            exec .guardBlockClose s =
              .next (raiseFault ⟨.guardStorm, (g.start + 479) % 4026531840, none, none, BitVec.ofInt 16 top⟩ full)))))

/-- The marker port at a frame-end: an IDLE or WAITING sequencer with a job starts it when READY is high, and an IDLE
one waits, with its timer loaded, when READY is low; SETUP lasts 96 frames, the strobe its width, the gap its own, and
the finished job leaves the head and the next is treated in the same event. Which step makes which change is the
model's choice (log 13). -/
def Obligations.MarkerPortRunsItsJobs : Prop :=
  ∀ (s : State), s.tmb.framed = true → s.tmb.boundary = false →
    let age := elapsed s.bmu.jobStart s.lastFrame
    let started := fun b : BinMarker =>
      { b with port := .setup, jobStart := s.lastFrame, jobWidth := b.strobeWidth, jobGap := b.gap, timer := 0, expiry := none }
    let waits := fun b : BinMarker => { b with port := .waiting, timer := b.markerWait, expiry := none }
    (s.bmu.queue ≠ [] → s.bmu.ready = true → s.bmu.port = .idle ∨ s.bmu.port = .waiting →
      exec .markerJobStart s = .next { s with bmu := started s.bmu }) ∧
    (s.bmu.queue ≠ [] → s.bmu.ready = false → s.bmu.port = .idle →
      exec .markerJobStart s = .next { s with bmu := waits s.bmu }) ∧
    (s.bmu.queue = [] ∨ (s.bmu.ready = false ∧ s.bmu.port = .waiting) ∨ (s.bmu.port ≠ .idle ∧ s.bmu.port ≠ .waiting) →
      exec .markerJobStart s = .next s) ∧
    (s.bmu.port = .setup → age = 96 →
      exec .markerStrobeStart s = .next { s with bmu := { s.bmu with port := .strobe } }) ∧
    (s.bmu.port = .strobe → age = 96 + s.bmu.jobWidth → 0 < s.bmu.jobGap →
      exec .markerGapStart s = .next { s with bmu := { s.bmu with port := .gap } }) ∧
    (s.bmu.port = .gap ∨ (s.bmu.port = .strobe ∧ s.bmu.jobGap = 0) → age = 96 + s.bmu.jobWidth + s.bmu.jobGap →
      let idle := { s.bmu with port := .idle, queue := s.bmu.queue.tail }
      (s.bmu.queue.tail = [] → exec .markerJobRemove s = .next { s with bmu := idle }) ∧
      (s.bmu.queue.tail ≠ [] → s.bmu.ready = true → exec .markerJobRemove s = .next { s with bmu := started idle }) ∧
      (s.bmu.queue.tail ≠ [] → s.bmu.ready = false → exec .markerJobRemove s = .next { s with bmu := waits idle })) ∧
    (s.bmu.strobe = true ↔ s.bmu.port = .strobe) ∧
    (∀ j rest, s.bmu.queue = j :: rest →
      s.bmu.patternLines = if s.bmu.port = .idle ∨ s.bmu.port = .waiting then 0 else j.pattern.val)

/-! ### Cells -/

/-- The assembler takes a management word by its state and the word's kind; a malformed cell or stray word is
discarded with CELL_CHECK and its cause, a good cell is offered to the request queue, and the next upstream word is
that of the cell in progress, or with none in progress the first of the cell selected: reply, notice, unit report. The
word that is sent next is chosen in the same step (log 12). -/
def Obligations.AssemblerTakesWords : Prop :=
  ∀ (w : Word) (s : State),
    let kind := w.toNat / 2 ^ 30
    let content : List Byte := [w.extractLsb' 16 8, w.extractLsb' 8 8, w.extractLsb' 0 8]
    let asm := fun (st : AsmState) (words : Nat) (bytes : List Byte) =>
      { s with svc := { s.svc with asm := st, asmWords := words, asmBytes := bytes } }
    let wrong := fun (cause : Half) (u : State) =>
      let raised := raiseFault ⟨.cellCheck, s.now, none, none, cause⟩ u
      { raised with yct := { raised.yct with live :=
        { raised.yct.live with cellErrors := countUp raised.yct.live.cellErrors } } }
    ∃ u : State, exec (.managementWord w) s = .next { u with svc := u.svc.choose } ∧
      (kind = 0 → u = s) ∧
      (kind = 1 → s.svc.asm ≠ .assembling → u = asm .assembling 1 content) ∧
      (kind = 1 → s.svc.asm = .assembling → u = wrong 2 (asm .assembling 1 content)) ∧
      (s.svc.asm = .waiting → kind = 2 → u = wrong 3 (asm .discarding 0 [])) ∧
      (s.svc.asm = .waiting → kind = 3 → u = wrong 3 s) ∧
      (s.svc.asm = .discarding → kind = 2 → u = s) ∧
      (s.svc.asm = .discarding → kind = 3 → u = asm .waiting 0 []) ∧
      (s.svc.asm = .assembling → s.svc.asmWords = 32 →
        (kind = 2 → u = wrong 4 (asm .discarding 0 [])) ∧ (kind = 3 → u = wrong 4 (asm .waiting 0 []))) ∧
      (s.svc.asm = .assembling → s.svc.asmWords < 32 →
        (kind = 2 → u = asm .assembling (s.svc.asmWords + 1) (s.svc.asmBytes ++ content)) ∧
        (kind = 3 →
          let bytes := s.svc.asmBytes ++ content
          let words := s.svc.asmWords + 1
          let payload := (bytes.getD 2 0).toNat
          let sized := payload ≤ 90 ∧ words = (payload + 7) / 3
          let summed := byteSum (bytes.take (3 * words - 2)) =
            (bytes.getD (3 * words - 2) 0).toNat * 256 + (bytes.getD (3 * words - 1) 0).toNat
          let cell : Machine.Cell := ⟨bytes.getD 0 0, bytes.getD 1 0, (bytes.drop 3).take payload⟩
          (¬sized → u = wrong 5 (asm .waiting 0 [])) ∧
          (sized → ¬summed → u = wrong 1 (asm .waiting 0 [])) ∧
          (sized → summed → u = offerCell cell (takeCell cell) (asm .waiting 0 [])))) ∧
      (∀ v : UpCell, u.svc.up = some v → u.svc.upChosen = false → v.index < v.cell.wordCount →
        u.svc.choose = { u.svc with up := some { v with index := v.index + 1 }, upWord := v.cell.word v.index,
                                    upChosen := true }) ∧
      (u.svc.up = none → u.svc.upChosen = false → Selected u.svc u.svc.choose) ∧
      (u.svc.upChosen = true → u.svc.choose = u.svc)

/-- The last word of an upstream cell has been sent: the cell leaves its place, a reply slot that empties takes the
oldest request, and the arbiter selects the next cell: reply, then notice, then unit report, or IDLE. That it is a
step of its own is the model's choice (log 12). -/
def Obligations.UpstreamCellEndSelectsNext : Prop :=
  ∀ (v : UpCell) (s : State), s.svc.up = some v → v.index = v.cell.wordCount → s.svc.upChosen = false →
    ¬(v.source = .reply ∧ v.cell.type = 154) →
    let selected := fun (u t : State) => ∃ svc : Service, t = { u with svc := svc } ∧ Selected u.svc svc
    ∃ t, exec .upstreamCellEnd s = .next t ∧
      (v.source = .notice → selected { s with svc := { s.svc with up := none, notices := s.svc.notices.tail } } t) ∧
      (v.source = .report → selected { s with svc := { s.svc with up := none, reports := s.svc.reports.tail } } t) ∧
      (v.source = .reply → s.svc.reply.tail ≠ [] ∨ s.svc.requests = [] →
        selected { s with svc := { s.svc with up := none, reply := s.svc.reply.tail } } t) ∧
      ∀ c rest, v.source = .reply → s.svc.reply.tail = [] → s.svc.requests = c :: rest →
        selected (takeCell c { s with svc := { s.svc with up := none, reply := [], requests := rest } }) t

/-- An arrival: a clean log takes it as the first record and holds the ticket of a capturing kind, any other log takes
its kind into the next-fault set; a stop-enabled kind on an armed line stops it; and a FAULT notice takes the next
tag and a free place, or raises NOTICE_OVERFLOW, which is logged without a notice of its own. -/
def Obligations.FaultArrivesAtTheLog : Prop :=
  ∀ (r : FaultRecord) (s : State),
    let t := raiseFault r s
    let clean := s.flg.first = none ∧ s.flg.next = 0
    let captures := clean ∧ (r.kind = .nestStuck ∨ r.kind = .unitPulled) ∧
      ∃ n serial x, r.nest = some n ∧ r.serial = some serial ∧ (s.nest n).state.holdsTicket = true ∧
        (s.nest n).ticket = some x ∧ x.serial = serial
    let stops := s.flg.stopMask.getLsbD r.kind.code = true ∧ s.flg.armed = true
    let overflows := 8 ≤ s.svc.notices.length
    (clean → t.flg.first = some r) ∧ (¬clean → t.flg.first = s.flg.first) ∧
    (∀ k, t.flg.next.getLsbD k = true ↔ s.flg.next.getLsbD k = true ∨ (¬clean ∧ k = r.kind.code) ∨
      (overflows ∧ k = FaultKind.noticeOverflow.code)) ∧
    (captures → ∃ n serial, r.nest = some n ∧ r.serial = some serial ∧ t.flg.held = some ⟨n, serial⟩) ∧
    (¬captures → t.flg.held = s.flg.held) ∧ t.flg.stopMask = s.flg.stopMask ∧
    (stops → t.flg.lineStop = true ∧ t.flg.armed = false) ∧
    (¬stops → ¬overflows → t.flg.lineStop = s.flg.lineStop ∧ t.flg.armed = s.flg.armed) ∧
    (¬overflows → ∃ flags, t.svc = { s.svc with
      noticeSeq := s.svc.noticeSeq + 1
      notices := s.svc.notices ++ [⟨65, s.svc.noticeSeq,
        byte r.kind.code ++ byte (flagByte flags) ++ byte (match r.nest with | some n => n.val | none => 0) ++
          bytes4 r.stamp⟩] } ∧
      ∃ next held nest : Bool, flags = [next, held, nest] ∧ (next = false ↔ clean) ∧ (held = true ↔ captures) ∧
        (nest = true ↔ r.nest ≠ none)) ∧
    (overflows → t.svc = { s.svc with noticeSeq := s.svc.noticeSeq + 2 }) ∧
    t.tmb = s.tmb ∧ t.swg = s.swg ∧ t.fli = s.fli ∧ t.bka = s.bka ∧ t.gdm = s.gdm ∧ t.jdu = s.jdu ∧ t.tkc = s.tkc ∧
    t.bmu = s.bmu ∧ t.yct = s.yct ∧ t.ltc = s.ltc ∧ t.pending = s.pending

/-- The words of a cell of at most 90 payload bytes, sent in order to an assembler with no cell in progress, WAITING or
DISCARDING, offer exactly that cell to the request queue and leave the assembler WAITING. -/
def Obligations.WordsOfACellAreAssembledToIt : Prop :=
  ∀ (c : Machine.Cell) (s : State), c.payload.length ≤ 90 → s.svc.asm ≠ .assembling →
    (List.range c.wordCount).foldl (fun u k => assemble (c.word k) u) s =
      offerCell c (takeCell c) { s with svc := { s.svc with asm := .waiting, asmWords := 0, asmBytes := [] } }

/-- The payload of every request that can be sent is read back as that request. -/
def Obligations.PayloadOfARequestIsReadBack : Prop :=
  ∀ (r : Request) (tag : Byte), (r.command tag).wellFormed = true → Request.parse r.type r.payload = .request r

/-! ### Laws that every step keeps -/

/-- The state after power-on reset meets every law. -/
def Obligations.LawsHoldAtReset : Prop :=
  let s := State.reset
  s.lotLaw ∧ s.heldLaw ∧ s.stopLaw ∧ s.yieldLaw ∧ s.capacityLaw ∧ s.driveLaw ∧ s.marksLaw

/-- A step keeps the law of the lot and its tickets: a nest holds a ticket exactly when its state says so, the ticket
count is the number of them, none stands outside an open lot, and no attempt exceeds its lot's limit. -/
def Obligations.StepKeepsLotAndTicketLaw : Prop :=
  ∀ s t : State, s.lotLaw → step s = .next t → t.lotLaw

/-- Within one attempt a REJECT or ABORT stands, and a RETEST becomes only REJECT or ABORT, over every step. -/
def Obligations.StepKeepsDispositionOrder : Prop :=
  ∀ s t : State, s.ticketLaw → step s = .next t → s.keepsOrder t

/-- A step keeps the laws of the fault log: a held ticket is named by the first record and stands in REPORT or HELD, and
an asserted line stop is not armed. -/
def Obligations.StepKeepsHeldTicketAndLineStop : Prop :=
  ∀ s t : State, s.heldLaw → s.stopLaw → step s = .next t → t.heldLaw ∧ t.stopLaw

/-- A step keeps the balance of the counters, live and in the snapshot. -/
def Obligations.StepKeepsYieldBalance : Prop :=
  ∀ s t : State, s.yieldLaw → step s = .next t → t.yieldLaw

/-- A step keeps every collection within its places and every drive sample within ±8,388,351. -/
def Obligations.StepKeepsCapacitiesAndDriveRange : Prop :=
  ∀ s t : State, s.capacityLaw → s.driveLaw → step s = .next t → t.capacityLaw ∧ t.driveLaw

/-- Every step but a power-on reset keeps the contents of every entry with a frozen mark, and a step keeps every bound
entry of an OPEN or CLOSING lot marked. -/
def Obligations.StepKeepsFrozenTables : Prop :=
  ∀ s t : State, step s = .next t →
    (s.marksLaw → t.marksLaw) ∧ (s.pending.head? ≠ some .powerOnReset → s.keepsFrozen t)

end
end

