-- ==== Sys2Proof/Laws/Arith.lean ====
section
/-! SUPPORT. The range of the sine table and of the drive sample (R11, R13), and what the bit search finds. -/

namespace Sys2Proof.Machine

open Sys2Proof

-- The long kernel evaluation below would otherwise hold a thread for every theorem after it.
set_option Elab.async false

/-- Every value of a quarter turn of the sine table, in 64 rows of 64 and the last. -/
theorem quarterSine_rows :
    ((List.range 64).all fun a => (List.range 64).all fun b => decide (quarterSine (64 * a + b) ≤ 32767)) = true ∧
      quarterSine 4096 ≤ 32767 := by
  decide +kernel

theorem quarterSine_le {r : Nat} (h : r ≤ 4096) : quarterSine r ≤ 32767 := by
  rcases Nat.lt_or_eq_of_le h with hlt | heq
  · have rows := quarterSine_rows.1
    rw [List.all_eq_true] at rows
    have row := rows (r / 64) (by simp; omega)
    rw [List.all_eq_true] at row
    have cell := row (r % 64) (by simp; omega)
    have e : 64 * (r / 64) + r % 64 = r := by omega
    rw [e] at cell
    simpa using cell
  · rw [heq]; exact quarterSine_rows.2

/-- R11: S ranges from −32,767 to 32,767. -/
theorem sineTable_range (i : Nat) : -32767 ≤ sineTable i ∧ sineTable i ≤ 32767 := by
  have h1 := quarterSine_le (r := i % 4096) (by omega)
  have h2 := quarterSine_le (r := 4096 - i % 4096) (by omega)
  unfold sineTable
  simp only []
  split <;> omega

/-- What the bit search finds: the greatest number it may reach at which a predicate that holds up to some point holds. -/
theorem greatest_spec (p : Nat → Bool) (mono : ∀ a b, a ≤ b → p b = true → p a = true) :
    ∀ (k acc : Nat), (acc = 0 ∨ p acc = true) →
      let m := greatest p k acc
      (m = 0 ∨ p m = true) ∧ acc ≤ m ∧ m < acc + 2 ^ k ∧ ∀ x, x < acc + 2 ^ k → p x = true → x ≤ m := by
  intro k
  induction k with
  | zero => intro acc h; simp [greatest, h]; intro x hx _; omega
  | succ k ih =>
    intro acc h
    simp only [greatest]
    have hp : 2 ^ (k + 1) = 2 ^ k + 2 ^ k := by rw [Nat.pow_succ]; omega
    by_cases hq : p (acc + 2 ^ k) = true
    · simp only [hq, if_true]
      obtain ⟨a, b, c, d⟩ := ih (acc + 2 ^ k) (Or.inr hq)
      exact ⟨a, by omega, by omega, fun x hx => d x (by omega)⟩
    · have hf : p (acc + 2 ^ k) = false := by simpa using hq
      rw [if_neg hq]
      obtain ⟨a, b, c, d⟩ := ih acc h
      refine ⟨a, b, by omega, fun x hx hx2 => ?_⟩
      by_cases hlt : x < acc + 2 ^ k
      · exact d x hlt hx2
      · have := mono (acc + 2 ^ k) x (by omega) hx2
        exact absurd this hq

end Sys2Proof.Machine
end

