-- ==== Sys2Proof/Laws/State.lean ====
section
/-! SUPPORT. What each update of the state gives at each field, and at what the state holds for one nest. -/

namespace Sys2Proof.Machine

open Sys2Proof

/-- A fold whose steps leave a part of the state alone leaves it alone. -/
theorem foldl_field {α β : Type} {p : State → α} {g : State → β → State} (h : ∀ s b, p (g s b) = p s) (l : List β)
    (s : State) : p (l.foldl g s) = p s := by
  induction l generalizing s with
  | nil => rfl
  | cons b rest ih => simp [List.foldl, ih, h]

/-- An operation on each nest that leaves a part of the state alone. -/
theorem eachNest_field {α : Type} {p : State → α} {f : NestId → State → State} (h : ∀ n s, p (f n s) = p s) (s : State) :
    p (State.eachNest f s) = p s := by
  unfold State.eachNest
  exact foldl_field (fun s n => h n s) allNests s

/-! ### setNest -/

@[simp] theorem State.setNest_tmb (s : State) (n : NestId) (x : Nest) :
    (s.setNest n x).tmb = s.tmb := rfl
@[simp] theorem State.setNest_swg (s : State) (n : NestId) (x : Nest) :
    (s.setNest n x).swg = s.swg := rfl
@[simp] theorem State.setNest_fli (s : State) (n : NestId) (x : Nest) :
    (s.setNest n x).fli = s.fli := rfl
@[simp] theorem State.setNest_bka (s : State) (n : NestId) (x : Nest) :
    (s.setNest n x).bka = s.bka := rfl
@[simp] theorem State.setNest_gdm (s : State) (n : NestId) (x : Nest) :
    (s.setNest n x).gdm = s.gdm := rfl
@[simp] theorem State.setNest_jdu (s : State) (n : NestId) (x : Nest) :
    (s.setNest n x).jdu = s.jdu := rfl
@[simp] theorem State.setNest_tkc (s : State) (n : NestId) (x : Nest) :
    (s.setNest n x).tkc = { s.tkc with nests := s.tkc.nests.set n x } := rfl
@[simp] theorem State.setNest_bmu (s : State) (n : NestId) (x : Nest) :
    (s.setNest n x).bmu = s.bmu := rfl
@[simp] theorem State.setNest_yct (s : State) (n : NestId) (x : Nest) :
    (s.setNest n x).yct = s.yct := rfl
@[simp] theorem State.setNest_ltc (s : State) (n : NestId) (x : Nest) :
    (s.setNest n x).ltc = s.ltc := rfl
@[simp] theorem State.setNest_flg (s : State) (n : NestId) (x : Nest) :
    (s.setNest n x).flg = s.flg := rfl
@[simp] theorem State.setNest_svc (s : State) (n : NestId) (x : Nest) :
    (s.setNest n x).svc = s.svc := rfl
@[simp] theorem State.setNest_free (s : State) (n : NestId) (x : Nest) :
    (s.setNest n x).free = s.free := rfl
@[simp] theorem State.setNest_pending (s : State) (n : NestId) (x : Nest) :
    (s.setNest n x).pending = s.pending := rfl
@[simp] theorem State.setNest_nest (s : State) (n : NestId) (x : Nest) (m : NestId) :
    (s.setNest n x).nest m = if m = n then x else s.nest m := by
  simp [State.setNest, State.nest, Vector.getElem_set, Fin.val_inj, eq_comm]
theorem State.setNest_nest_self (s : State) (n : NestId) (x : Nest) : (s.setNest n x).nest n = x := by simp
@[simp] theorem State.setNest_ctx (s : State) (n : NestId) (x : Nest) (m : NestId) : (s.setNest n x).ctx m = s.ctx m := rfl
@[simp] theorem State.setNest_ana (s : State) (n : NestId) (x : Nest) (m : NestId) : (s.setNest n x).ana m = s.ana m := rfl
@[simp] theorem State.setNest_tally (s : State) (n : NestId) (x : Nest) (m : NestId) : (s.setNest n x).tally m = s.tally m := rfl
@[simp] theorem State.setNest_lot (s : State) (n : NestId) (x : Nest) : (s.setNest n x).lot = s.lot := rfl
@[simp] theorem State.setNest_now (s : State) (n : NestId) (x : Nest) : (s.setNest n x).now = s.now := rfl
@[simp] theorem State.setNest_lastFrame (s : State) (n : NestId) (x : Nest) : (s.setNest n x).lastFrame = s.lastFrame := rfl

/-! ### setCtx -/

@[simp] theorem State.setCtx_tmb (s : State) (n : NestId) (x : SweepCtx) :
    (s.setCtx n x).tmb = s.tmb := rfl
@[simp] theorem State.setCtx_swg (s : State) (n : NestId) (x : SweepCtx) :
    (s.setCtx n x).swg = { s.swg with ctx := s.swg.ctx.set n x } := rfl
@[simp] theorem State.setCtx_fli (s : State) (n : NestId) (x : SweepCtx) :
    (s.setCtx n x).fli = s.fli := rfl
@[simp] theorem State.setCtx_bka (s : State) (n : NestId) (x : SweepCtx) :
    (s.setCtx n x).bka = s.bka := rfl
@[simp] theorem State.setCtx_gdm (s : State) (n : NestId) (x : SweepCtx) :
    (s.setCtx n x).gdm = s.gdm := rfl
@[simp] theorem State.setCtx_jdu (s : State) (n : NestId) (x : SweepCtx) :
    (s.setCtx n x).jdu = s.jdu := rfl
@[simp] theorem State.setCtx_tkc (s : State) (n : NestId) (x : SweepCtx) :
    (s.setCtx n x).tkc = s.tkc := rfl
@[simp] theorem State.setCtx_bmu (s : State) (n : NestId) (x : SweepCtx) :
    (s.setCtx n x).bmu = s.bmu := rfl
@[simp] theorem State.setCtx_yct (s : State) (n : NestId) (x : SweepCtx) :
    (s.setCtx n x).yct = s.yct := rfl
@[simp] theorem State.setCtx_ltc (s : State) (n : NestId) (x : SweepCtx) :
    (s.setCtx n x).ltc = s.ltc := rfl
@[simp] theorem State.setCtx_flg (s : State) (n : NestId) (x : SweepCtx) :
    (s.setCtx n x).flg = s.flg := rfl
@[simp] theorem State.setCtx_svc (s : State) (n : NestId) (x : SweepCtx) :
    (s.setCtx n x).svc = s.svc := rfl
@[simp] theorem State.setCtx_free (s : State) (n : NestId) (x : SweepCtx) :
    (s.setCtx n x).free = s.free := rfl
@[simp] theorem State.setCtx_pending (s : State) (n : NestId) (x : SweepCtx) :
    (s.setCtx n x).pending = s.pending := rfl
@[simp] theorem State.setCtx_nest (s : State) (n : NestId) (x : SweepCtx) (m : NestId) : (s.setCtx n x).nest m = s.nest m := rfl
@[simp] theorem State.setCtx_ctx (s : State) (n : NestId) (x : SweepCtx) (m : NestId) :
    (s.setCtx n x).ctx m = if m = n then x else s.ctx m := by
  simp [State.setCtx, State.ctx, Vector.getElem_set, Fin.val_inj, eq_comm]
theorem State.setCtx_ctx_self (s : State) (n : NestId) (x : SweepCtx) : (s.setCtx n x).ctx n = x := by simp
@[simp] theorem State.setCtx_ana (s : State) (n : NestId) (x : SweepCtx) (m : NestId) : (s.setCtx n x).ana m = s.ana m := rfl
@[simp] theorem State.setCtx_tally (s : State) (n : NestId) (x : SweepCtx) (m : NestId) : (s.setCtx n x).tally m = s.tally m := rfl
@[simp] theorem State.setCtx_lot (s : State) (n : NestId) (x : SweepCtx) : (s.setCtx n x).lot = s.lot := rfl
@[simp] theorem State.setCtx_now (s : State) (n : NestId) (x : SweepCtx) : (s.setCtx n x).now = s.now := rfl
@[simp] theorem State.setCtx_lastFrame (s : State) (n : NestId) (x : SweepCtx) : (s.setCtx n x).lastFrame = s.lastFrame := rfl

/-! ### setProcessed -/

@[simp] theorem State.setProcessed_tmb (s : State) (n : NestId) :
    (s.setProcessed n).tmb = s.tmb := rfl
@[simp] theorem State.setProcessed_swg (s : State) (n : NestId) :
    (s.setProcessed n).swg = { s.swg with processed := s.swg.processed.set n true } := rfl
@[simp] theorem State.setProcessed_fli (s : State) (n : NestId) :
    (s.setProcessed n).fli = s.fli := rfl
@[simp] theorem State.setProcessed_bka (s : State) (n : NestId) :
    (s.setProcessed n).bka = s.bka := rfl
@[simp] theorem State.setProcessed_gdm (s : State) (n : NestId) :
    (s.setProcessed n).gdm = s.gdm := rfl
@[simp] theorem State.setProcessed_jdu (s : State) (n : NestId) :
    (s.setProcessed n).jdu = s.jdu := rfl
@[simp] theorem State.setProcessed_tkc (s : State) (n : NestId) :
    (s.setProcessed n).tkc = s.tkc := rfl
@[simp] theorem State.setProcessed_bmu (s : State) (n : NestId) :
    (s.setProcessed n).bmu = s.bmu := rfl
@[simp] theorem State.setProcessed_yct (s : State) (n : NestId) :
    (s.setProcessed n).yct = s.yct := rfl
@[simp] theorem State.setProcessed_ltc (s : State) (n : NestId) :
    (s.setProcessed n).ltc = s.ltc := rfl
@[simp] theorem State.setProcessed_flg (s : State) (n : NestId) :
    (s.setProcessed n).flg = s.flg := rfl
@[simp] theorem State.setProcessed_svc (s : State) (n : NestId) :
    (s.setProcessed n).svc = s.svc := rfl
@[simp] theorem State.setProcessed_free (s : State) (n : NestId) :
    (s.setProcessed n).free = s.free := rfl
@[simp] theorem State.setProcessed_pending (s : State) (n : NestId) :
    (s.setProcessed n).pending = s.pending := rfl
@[simp] theorem State.setProcessed_nest (s : State) (n : NestId) (m : NestId) : (s.setProcessed n).nest m = s.nest m := rfl
@[simp] theorem State.setProcessed_ctx (s : State) (n : NestId) (m : NestId) : (s.setProcessed n).ctx m = s.ctx m := rfl
@[simp] theorem State.setProcessed_ana (s : State) (n : NestId) (m : NestId) : (s.setProcessed n).ana m = s.ana m := rfl
@[simp] theorem State.setProcessed_tally (s : State) (n : NestId) (m : NestId) : (s.setProcessed n).tally m = s.tally m := rfl
@[simp] theorem State.setProcessed_lot (s : State) (n : NestId) : (s.setProcessed n).lot = s.lot := rfl
@[simp] theorem State.setProcessed_now (s : State) (n : NestId) : (s.setProcessed n).now = s.now := rfl
@[simp] theorem State.setProcessed_lastFrame (s : State) (n : NestId) : (s.setProcessed n).lastFrame = s.lastFrame := rfl

/-! ### setAna -/

@[simp] theorem State.setAna_tmb (s : State) (n : NestId) (x : Analysis) :
    (s.setAna n x).tmb = s.tmb := rfl
@[simp] theorem State.setAna_swg (s : State) (n : NestId) (x : Analysis) :
    (s.setAna n x).swg = s.swg := rfl
@[simp] theorem State.setAna_fli (s : State) (n : NestId) (x : Analysis) :
    (s.setAna n x).fli = s.fli := rfl
@[simp] theorem State.setAna_bka (s : State) (n : NestId) (x : Analysis) :
    (s.setAna n x).bka = s.bka.set n x := rfl
@[simp] theorem State.setAna_gdm (s : State) (n : NestId) (x : Analysis) :
    (s.setAna n x).gdm = s.gdm := rfl
@[simp] theorem State.setAna_jdu (s : State) (n : NestId) (x : Analysis) :
    (s.setAna n x).jdu = s.jdu := rfl
@[simp] theorem State.setAna_tkc (s : State) (n : NestId) (x : Analysis) :
    (s.setAna n x).tkc = s.tkc := rfl
@[simp] theorem State.setAna_bmu (s : State) (n : NestId) (x : Analysis) :
    (s.setAna n x).bmu = s.bmu := rfl
@[simp] theorem State.setAna_yct (s : State) (n : NestId) (x : Analysis) :
    (s.setAna n x).yct = s.yct := rfl
@[simp] theorem State.setAna_ltc (s : State) (n : NestId) (x : Analysis) :
    (s.setAna n x).ltc = s.ltc := rfl
@[simp] theorem State.setAna_flg (s : State) (n : NestId) (x : Analysis) :
    (s.setAna n x).flg = s.flg := rfl
@[simp] theorem State.setAna_svc (s : State) (n : NestId) (x : Analysis) :
    (s.setAna n x).svc = s.svc := rfl
@[simp] theorem State.setAna_free (s : State) (n : NestId) (x : Analysis) :
    (s.setAna n x).free = s.free := rfl
@[simp] theorem State.setAna_pending (s : State) (n : NestId) (x : Analysis) :
    (s.setAna n x).pending = s.pending := rfl
@[simp] theorem State.setAna_nest (s : State) (n : NestId) (x : Analysis) (m : NestId) : (s.setAna n x).nest m = s.nest m := rfl
@[simp] theorem State.setAna_ctx (s : State) (n : NestId) (x : Analysis) (m : NestId) : (s.setAna n x).ctx m = s.ctx m := rfl
@[simp] theorem State.setAna_ana (s : State) (n : NestId) (x : Analysis) (m : NestId) :
    (s.setAna n x).ana m = if m = n then x else s.ana m := by
  simp [State.setAna, State.ana, Vector.getElem_set, Fin.val_inj, eq_comm]
theorem State.setAna_ana_self (s : State) (n : NestId) (x : Analysis) : (s.setAna n x).ana n = x := by simp
@[simp] theorem State.setAna_tally (s : State) (n : NestId) (x : Analysis) (m : NestId) : (s.setAna n x).tally m = s.tally m := rfl
@[simp] theorem State.setAna_lot (s : State) (n : NestId) (x : Analysis) : (s.setAna n x).lot = s.lot := rfl
@[simp] theorem State.setAna_now (s : State) (n : NestId) (x : Analysis) : (s.setAna n x).now = s.now := rfl
@[simp] theorem State.setAna_lastFrame (s : State) (n : NestId) (x : Analysis) : (s.setAna n x).lastFrame = s.lastFrame := rfl

/-! ### setTally -/

@[simp] theorem State.setTally_tmb (s : State) (n : NestId) (x : Tally) :
    (s.setTally n x).tmb = s.tmb := rfl
@[simp] theorem State.setTally_swg (s : State) (n : NestId) (x : Tally) :
    (s.setTally n x).swg = s.swg := rfl
@[simp] theorem State.setTally_fli (s : State) (n : NestId) (x : Tally) :
    (s.setTally n x).fli = s.fli := rfl
@[simp] theorem State.setTally_bka (s : State) (n : NestId) (x : Tally) :
    (s.setTally n x).bka = s.bka := rfl
@[simp] theorem State.setTally_gdm (s : State) (n : NestId) (x : Tally) :
    (s.setTally n x).gdm = s.gdm := rfl
@[simp] theorem State.setTally_jdu (s : State) (n : NestId) (x : Tally) :
    (s.setTally n x).jdu = { s.jdu with tally := s.jdu.tally.set n x } := rfl
@[simp] theorem State.setTally_tkc (s : State) (n : NestId) (x : Tally) :
    (s.setTally n x).tkc = s.tkc := rfl
@[simp] theorem State.setTally_bmu (s : State) (n : NestId) (x : Tally) :
    (s.setTally n x).bmu = s.bmu := rfl
@[simp] theorem State.setTally_yct (s : State) (n : NestId) (x : Tally) :
    (s.setTally n x).yct = s.yct := rfl
@[simp] theorem State.setTally_ltc (s : State) (n : NestId) (x : Tally) :
    (s.setTally n x).ltc = s.ltc := rfl
@[simp] theorem State.setTally_flg (s : State) (n : NestId) (x : Tally) :
    (s.setTally n x).flg = s.flg := rfl
@[simp] theorem State.setTally_svc (s : State) (n : NestId) (x : Tally) :
    (s.setTally n x).svc = s.svc := rfl
@[simp] theorem State.setTally_free (s : State) (n : NestId) (x : Tally) :
    (s.setTally n x).free = s.free := rfl
@[simp] theorem State.setTally_pending (s : State) (n : NestId) (x : Tally) :
    (s.setTally n x).pending = s.pending := rfl
@[simp] theorem State.setTally_nest (s : State) (n : NestId) (x : Tally) (m : NestId) : (s.setTally n x).nest m = s.nest m := rfl
@[simp] theorem State.setTally_ctx (s : State) (n : NestId) (x : Tally) (m : NestId) : (s.setTally n x).ctx m = s.ctx m := rfl
@[simp] theorem State.setTally_ana (s : State) (n : NestId) (x : Tally) (m : NestId) : (s.setTally n x).ana m = s.ana m := rfl
@[simp] theorem State.setTally_tally (s : State) (n : NestId) (x : Tally) (m : NestId) :
    (s.setTally n x).tally m = if m = n then x else s.tally m := by
  simp [State.setTally, State.tally, Vector.getElem_set, Fin.val_inj, eq_comm]
theorem State.setTally_tally_self (s : State) (n : NestId) (x : Tally) : (s.setTally n x).tally n = x := by simp
@[simp] theorem State.setTally_lot (s : State) (n : NestId) (x : Tally) : (s.setTally n x).lot = s.lot := rfl
@[simp] theorem State.setTally_now (s : State) (n : NestId) (x : Tally) : (s.setTally n x).now = s.now := rfl
@[simp] theorem State.setTally_lastFrame (s : State) (n : NestId) (x : Tally) : (s.setTally n x).lastFrame = s.lastFrame := rfl

/-! ### setSvc -/

@[simp] theorem State.setSvc_tmb (s : State) (x : Service) :
    (s.setSvc x).tmb = s.tmb := rfl
@[simp] theorem State.setSvc_swg (s : State) (x : Service) :
    (s.setSvc x).swg = s.swg := rfl
@[simp] theorem State.setSvc_fli (s : State) (x : Service) :
    (s.setSvc x).fli = s.fli := rfl
@[simp] theorem State.setSvc_bka (s : State) (x : Service) :
    (s.setSvc x).bka = s.bka := rfl
@[simp] theorem State.setSvc_gdm (s : State) (x : Service) :
    (s.setSvc x).gdm = s.gdm := rfl
@[simp] theorem State.setSvc_jdu (s : State) (x : Service) :
    (s.setSvc x).jdu = s.jdu := rfl
@[simp] theorem State.setSvc_tkc (s : State) (x : Service) :
    (s.setSvc x).tkc = s.tkc := rfl
@[simp] theorem State.setSvc_bmu (s : State) (x : Service) :
    (s.setSvc x).bmu = s.bmu := rfl
@[simp] theorem State.setSvc_yct (s : State) (x : Service) :
    (s.setSvc x).yct = s.yct := rfl
@[simp] theorem State.setSvc_ltc (s : State) (x : Service) :
    (s.setSvc x).ltc = s.ltc := rfl
@[simp] theorem State.setSvc_flg (s : State) (x : Service) :
    (s.setSvc x).flg = s.flg := rfl
@[simp] theorem State.setSvc_svc (s : State) (x : Service) :
    (s.setSvc x).svc = x := rfl
@[simp] theorem State.setSvc_free (s : State) (x : Service) :
    (s.setSvc x).free = s.free := rfl
@[simp] theorem State.setSvc_pending (s : State) (x : Service) :
    (s.setSvc x).pending = s.pending := rfl
@[simp] theorem State.setSvc_nest (s : State) (x : Service) (m : NestId) : (s.setSvc x).nest m = s.nest m := rfl
@[simp] theorem State.setSvc_ctx (s : State) (x : Service) (m : NestId) : (s.setSvc x).ctx m = s.ctx m := rfl
@[simp] theorem State.setSvc_ana (s : State) (x : Service) (m : NestId) : (s.setSvc x).ana m = s.ana m := rfl
@[simp] theorem State.setSvc_tally (s : State) (x : Service) (m : NestId) : (s.setSvc x).tally m = s.tally m := rfl
@[simp] theorem State.setSvc_lot (s : State) (x : Service) : (s.setSvc x).lot = s.lot := rfl
@[simp] theorem State.setSvc_now (s : State) (x : Service) : (s.setSvc x).now = s.now := rfl
@[simp] theorem State.setSvc_lastFrame (s : State) (x : Service) : (s.setSvc x).lastFrame = s.lastFrame := rfl

/-! ### setFlg -/

@[simp] theorem State.setFlg_tmb (s : State) (x : FaultLog) :
    (s.setFlg x).tmb = s.tmb := rfl
@[simp] theorem State.setFlg_swg (s : State) (x : FaultLog) :
    (s.setFlg x).swg = s.swg := rfl
@[simp] theorem State.setFlg_fli (s : State) (x : FaultLog) :
    (s.setFlg x).fli = s.fli := rfl
@[simp] theorem State.setFlg_bka (s : State) (x : FaultLog) :
    (s.setFlg x).bka = s.bka := rfl
@[simp] theorem State.setFlg_gdm (s : State) (x : FaultLog) :
    (s.setFlg x).gdm = s.gdm := rfl
@[simp] theorem State.setFlg_jdu (s : State) (x : FaultLog) :
    (s.setFlg x).jdu = s.jdu := rfl
@[simp] theorem State.setFlg_tkc (s : State) (x : FaultLog) :
    (s.setFlg x).tkc = s.tkc := rfl
@[simp] theorem State.setFlg_bmu (s : State) (x : FaultLog) :
    (s.setFlg x).bmu = s.bmu := rfl
@[simp] theorem State.setFlg_yct (s : State) (x : FaultLog) :
    (s.setFlg x).yct = s.yct := rfl
@[simp] theorem State.setFlg_ltc (s : State) (x : FaultLog) :
    (s.setFlg x).ltc = s.ltc := rfl
@[simp] theorem State.setFlg_flg (s : State) (x : FaultLog) :
    (s.setFlg x).flg = x := rfl
@[simp] theorem State.setFlg_svc (s : State) (x : FaultLog) :
    (s.setFlg x).svc = s.svc := rfl
@[simp] theorem State.setFlg_free (s : State) (x : FaultLog) :
    (s.setFlg x).free = s.free := rfl
@[simp] theorem State.setFlg_pending (s : State) (x : FaultLog) :
    (s.setFlg x).pending = s.pending := rfl
@[simp] theorem State.setFlg_nest (s : State) (x : FaultLog) (m : NestId) : (s.setFlg x).nest m = s.nest m := rfl
@[simp] theorem State.setFlg_ctx (s : State) (x : FaultLog) (m : NestId) : (s.setFlg x).ctx m = s.ctx m := rfl
@[simp] theorem State.setFlg_ana (s : State) (x : FaultLog) (m : NestId) : (s.setFlg x).ana m = s.ana m := rfl
@[simp] theorem State.setFlg_tally (s : State) (x : FaultLog) (m : NestId) : (s.setFlg x).tally m = s.tally m := rfl
@[simp] theorem State.setFlg_lot (s : State) (x : FaultLog) : (s.setFlg x).lot = s.lot := rfl
@[simp] theorem State.setFlg_now (s : State) (x : FaultLog) : (s.setFlg x).now = s.now := rfl
@[simp] theorem State.setFlg_lastFrame (s : State) (x : FaultLog) : (s.setFlg x).lastFrame = s.lastFrame := rfl

/-! ### setLtc -/

@[simp] theorem State.setLtc_tmb (s : State) (x : LotCtl) :
    (s.setLtc x).tmb = s.tmb := rfl
@[simp] theorem State.setLtc_swg (s : State) (x : LotCtl) :
    (s.setLtc x).swg = s.swg := rfl
@[simp] theorem State.setLtc_fli (s : State) (x : LotCtl) :
    (s.setLtc x).fli = s.fli := rfl
@[simp] theorem State.setLtc_bka (s : State) (x : LotCtl) :
    (s.setLtc x).bka = s.bka := rfl
@[simp] theorem State.setLtc_gdm (s : State) (x : LotCtl) :
    (s.setLtc x).gdm = s.gdm := rfl
@[simp] theorem State.setLtc_jdu (s : State) (x : LotCtl) :
    (s.setLtc x).jdu = s.jdu := rfl
@[simp] theorem State.setLtc_tkc (s : State) (x : LotCtl) :
    (s.setLtc x).tkc = s.tkc := rfl
@[simp] theorem State.setLtc_bmu (s : State) (x : LotCtl) :
    (s.setLtc x).bmu = s.bmu := rfl
@[simp] theorem State.setLtc_yct (s : State) (x : LotCtl) :
    (s.setLtc x).yct = s.yct := rfl
@[simp] theorem State.setLtc_ltc (s : State) (x : LotCtl) :
    (s.setLtc x).ltc = x := rfl
@[simp] theorem State.setLtc_flg (s : State) (x : LotCtl) :
    (s.setLtc x).flg = s.flg := rfl
@[simp] theorem State.setLtc_svc (s : State) (x : LotCtl) :
    (s.setLtc x).svc = s.svc := rfl
@[simp] theorem State.setLtc_free (s : State) (x : LotCtl) :
    (s.setLtc x).free = s.free := rfl
@[simp] theorem State.setLtc_pending (s : State) (x : LotCtl) :
    (s.setLtc x).pending = s.pending := rfl
@[simp] theorem State.setLtc_nest (s : State) (x : LotCtl) (m : NestId) : (s.setLtc x).nest m = s.nest m := rfl
@[simp] theorem State.setLtc_ctx (s : State) (x : LotCtl) (m : NestId) : (s.setLtc x).ctx m = s.ctx m := rfl
@[simp] theorem State.setLtc_ana (s : State) (x : LotCtl) (m : NestId) : (s.setLtc x).ana m = s.ana m := rfl
@[simp] theorem State.setLtc_tally (s : State) (x : LotCtl) (m : NestId) : (s.setLtc x).tally m = s.tally m := rfl
@[simp] theorem State.setLtc_lot (s : State) (x : LotCtl) : (s.setLtc x).lot = x.binding := rfl
@[simp] theorem State.setLtc_now (s : State) (x : LotCtl) : (s.setLtc x).now = s.now := rfl
@[simp] theorem State.setLtc_lastFrame (s : State) (x : LotCtl) : (s.setLtc x).lastFrame = s.lastFrame := rfl

/-! ### setBmu -/

@[simp] theorem State.setBmu_tmb (s : State) (x : BinMarker) :
    (s.setBmu x).tmb = s.tmb := rfl
@[simp] theorem State.setBmu_swg (s : State) (x : BinMarker) :
    (s.setBmu x).swg = s.swg := rfl
@[simp] theorem State.setBmu_fli (s : State) (x : BinMarker) :
    (s.setBmu x).fli = s.fli := rfl
@[simp] theorem State.setBmu_bka (s : State) (x : BinMarker) :
    (s.setBmu x).bka = s.bka := rfl
@[simp] theorem State.setBmu_gdm (s : State) (x : BinMarker) :
    (s.setBmu x).gdm = s.gdm := rfl
@[simp] theorem State.setBmu_jdu (s : State) (x : BinMarker) :
    (s.setBmu x).jdu = s.jdu := rfl
@[simp] theorem State.setBmu_tkc (s : State) (x : BinMarker) :
    (s.setBmu x).tkc = s.tkc := rfl
@[simp] theorem State.setBmu_bmu (s : State) (x : BinMarker) :
    (s.setBmu x).bmu = x := rfl
@[simp] theorem State.setBmu_yct (s : State) (x : BinMarker) :
    (s.setBmu x).yct = s.yct := rfl
@[simp] theorem State.setBmu_ltc (s : State) (x : BinMarker) :
    (s.setBmu x).ltc = s.ltc := rfl
@[simp] theorem State.setBmu_flg (s : State) (x : BinMarker) :
    (s.setBmu x).flg = s.flg := rfl
@[simp] theorem State.setBmu_svc (s : State) (x : BinMarker) :
    (s.setBmu x).svc = s.svc := rfl
@[simp] theorem State.setBmu_free (s : State) (x : BinMarker) :
    (s.setBmu x).free = s.free := rfl
@[simp] theorem State.setBmu_pending (s : State) (x : BinMarker) :
    (s.setBmu x).pending = s.pending := rfl
@[simp] theorem State.setBmu_nest (s : State) (x : BinMarker) (m : NestId) : (s.setBmu x).nest m = s.nest m := rfl
@[simp] theorem State.setBmu_ctx (s : State) (x : BinMarker) (m : NestId) : (s.setBmu x).ctx m = s.ctx m := rfl
@[simp] theorem State.setBmu_ana (s : State) (x : BinMarker) (m : NestId) : (s.setBmu x).ana m = s.ana m := rfl
@[simp] theorem State.setBmu_tally (s : State) (x : BinMarker) (m : NestId) : (s.setBmu x).tally m = s.tally m := rfl
@[simp] theorem State.setBmu_lot (s : State) (x : BinMarker) : (s.setBmu x).lot = s.lot := rfl
@[simp] theorem State.setBmu_now (s : State) (x : BinMarker) : (s.setBmu x).now = s.now := rfl
@[simp] theorem State.setBmu_lastFrame (s : State) (x : BinMarker) : (s.setBmu x).lastFrame = s.lastFrame := rfl

/-! ### setGdm -/

@[simp] theorem State.setGdm_tmb (s : State) (x : GuardMon) :
    (s.setGdm x).tmb = s.tmb := rfl
@[simp] theorem State.setGdm_swg (s : State) (x : GuardMon) :
    (s.setGdm x).swg = s.swg := rfl
@[simp] theorem State.setGdm_fli (s : State) (x : GuardMon) :
    (s.setGdm x).fli = s.fli := rfl
@[simp] theorem State.setGdm_bka (s : State) (x : GuardMon) :
    (s.setGdm x).bka = s.bka := rfl
@[simp] theorem State.setGdm_gdm (s : State) (x : GuardMon) :
    (s.setGdm x).gdm = x := rfl
@[simp] theorem State.setGdm_jdu (s : State) (x : GuardMon) :
    (s.setGdm x).jdu = s.jdu := rfl
@[simp] theorem State.setGdm_tkc (s : State) (x : GuardMon) :
    (s.setGdm x).tkc = s.tkc := rfl
@[simp] theorem State.setGdm_bmu (s : State) (x : GuardMon) :
    (s.setGdm x).bmu = s.bmu := rfl
@[simp] theorem State.setGdm_yct (s : State) (x : GuardMon) :
    (s.setGdm x).yct = s.yct := rfl
@[simp] theorem State.setGdm_ltc (s : State) (x : GuardMon) :
    (s.setGdm x).ltc = s.ltc := rfl
@[simp] theorem State.setGdm_flg (s : State) (x : GuardMon) :
    (s.setGdm x).flg = s.flg := rfl
@[simp] theorem State.setGdm_svc (s : State) (x : GuardMon) :
    (s.setGdm x).svc = s.svc := rfl
@[simp] theorem State.setGdm_free (s : State) (x : GuardMon) :
    (s.setGdm x).free = s.free := rfl
@[simp] theorem State.setGdm_pending (s : State) (x : GuardMon) :
    (s.setGdm x).pending = s.pending := rfl
@[simp] theorem State.setGdm_nest (s : State) (x : GuardMon) (m : NestId) : (s.setGdm x).nest m = s.nest m := rfl
@[simp] theorem State.setGdm_ctx (s : State) (x : GuardMon) (m : NestId) : (s.setGdm x).ctx m = s.ctx m := rfl
@[simp] theorem State.setGdm_ana (s : State) (x : GuardMon) (m : NestId) : (s.setGdm x).ana m = s.ana m := rfl
@[simp] theorem State.setGdm_tally (s : State) (x : GuardMon) (m : NestId) : (s.setGdm x).tally m = s.tally m := rfl
@[simp] theorem State.setGdm_lot (s : State) (x : GuardMon) : (s.setGdm x).lot = s.lot := rfl
@[simp] theorem State.setGdm_now (s : State) (x : GuardMon) : (s.setGdm x).now = s.now := rfl
@[simp] theorem State.setGdm_lastFrame (s : State) (x : GuardMon) : (s.setGdm x).lastFrame = s.lastFrame := rfl

/-! ### setFli -/

@[simp] theorem State.setFli_tmb (s : State) (x : FrontLink) :
    (s.setFli x).tmb = s.tmb := rfl
@[simp] theorem State.setFli_swg (s : State) (x : FrontLink) :
    (s.setFli x).swg = s.swg := rfl
@[simp] theorem State.setFli_fli (s : State) (x : FrontLink) :
    (s.setFli x).fli = x := rfl
@[simp] theorem State.setFli_bka (s : State) (x : FrontLink) :
    (s.setFli x).bka = s.bka := rfl
@[simp] theorem State.setFli_gdm (s : State) (x : FrontLink) :
    (s.setFli x).gdm = s.gdm := rfl
@[simp] theorem State.setFli_jdu (s : State) (x : FrontLink) :
    (s.setFli x).jdu = s.jdu := rfl
@[simp] theorem State.setFli_tkc (s : State) (x : FrontLink) :
    (s.setFli x).tkc = s.tkc := rfl
@[simp] theorem State.setFli_bmu (s : State) (x : FrontLink) :
    (s.setFli x).bmu = s.bmu := rfl
@[simp] theorem State.setFli_yct (s : State) (x : FrontLink) :
    (s.setFli x).yct = s.yct := rfl
@[simp] theorem State.setFli_ltc (s : State) (x : FrontLink) :
    (s.setFli x).ltc = s.ltc := rfl
@[simp] theorem State.setFli_flg (s : State) (x : FrontLink) :
    (s.setFli x).flg = s.flg := rfl
@[simp] theorem State.setFli_svc (s : State) (x : FrontLink) :
    (s.setFli x).svc = s.svc := rfl
@[simp] theorem State.setFli_free (s : State) (x : FrontLink) :
    (s.setFli x).free = s.free := rfl
@[simp] theorem State.setFli_pending (s : State) (x : FrontLink) :
    (s.setFli x).pending = s.pending := rfl
@[simp] theorem State.setFli_nest (s : State) (x : FrontLink) (m : NestId) : (s.setFli x).nest m = s.nest m := rfl
@[simp] theorem State.setFli_ctx (s : State) (x : FrontLink) (m : NestId) : (s.setFli x).ctx m = s.ctx m := rfl
@[simp] theorem State.setFli_ana (s : State) (x : FrontLink) (m : NestId) : (s.setFli x).ana m = s.ana m := rfl
@[simp] theorem State.setFli_tally (s : State) (x : FrontLink) (m : NestId) : (s.setFli x).tally m = s.tally m := rfl
@[simp] theorem State.setFli_lot (s : State) (x : FrontLink) : (s.setFli x).lot = s.lot := rfl
@[simp] theorem State.setFli_now (s : State) (x : FrontLink) : (s.setFli x).now = s.now := rfl
@[simp] theorem State.setFli_lastFrame (s : State) (x : FrontLink) : (s.setFli x).lastFrame = s.lastFrame := rfl

/-! ### setYct -/

@[simp] theorem State.setYct_tmb (s : State) (x : Yield) :
    (s.setYct x).tmb = s.tmb := rfl
@[simp] theorem State.setYct_swg (s : State) (x : Yield) :
    (s.setYct x).swg = s.swg := rfl
@[simp] theorem State.setYct_fli (s : State) (x : Yield) :
    (s.setYct x).fli = s.fli := rfl
@[simp] theorem State.setYct_bka (s : State) (x : Yield) :
    (s.setYct x).bka = s.bka := rfl
@[simp] theorem State.setYct_gdm (s : State) (x : Yield) :
    (s.setYct x).gdm = s.gdm := rfl
@[simp] theorem State.setYct_jdu (s : State) (x : Yield) :
    (s.setYct x).jdu = s.jdu := rfl
@[simp] theorem State.setYct_tkc (s : State) (x : Yield) :
    (s.setYct x).tkc = s.tkc := rfl
@[simp] theorem State.setYct_bmu (s : State) (x : Yield) :
    (s.setYct x).bmu = s.bmu := rfl
@[simp] theorem State.setYct_yct (s : State) (x : Yield) :
    (s.setYct x).yct = x := rfl
@[simp] theorem State.setYct_ltc (s : State) (x : Yield) :
    (s.setYct x).ltc = s.ltc := rfl
@[simp] theorem State.setYct_flg (s : State) (x : Yield) :
    (s.setYct x).flg = s.flg := rfl
@[simp] theorem State.setYct_svc (s : State) (x : Yield) :
    (s.setYct x).svc = s.svc := rfl
@[simp] theorem State.setYct_free (s : State) (x : Yield) :
    (s.setYct x).free = s.free := rfl
@[simp] theorem State.setYct_pending (s : State) (x : Yield) :
    (s.setYct x).pending = s.pending := rfl
@[simp] theorem State.setYct_nest (s : State) (x : Yield) (m : NestId) : (s.setYct x).nest m = s.nest m := rfl
@[simp] theorem State.setYct_ctx (s : State) (x : Yield) (m : NestId) : (s.setYct x).ctx m = s.ctx m := rfl
@[simp] theorem State.setYct_ana (s : State) (x : Yield) (m : NestId) : (s.setYct x).ana m = s.ana m := rfl
@[simp] theorem State.setYct_tally (s : State) (x : Yield) (m : NestId) : (s.setYct x).tally m = s.tally m := rfl
@[simp] theorem State.setYct_lot (s : State) (x : Yield) : (s.setYct x).lot = s.lot := rfl
@[simp] theorem State.setYct_now (s : State) (x : Yield) : (s.setYct x).now = s.now := rfl
@[simp] theorem State.setYct_lastFrame (s : State) (x : Yield) : (s.setYct x).lastFrame = s.lastFrame := rfl

/-! ### setLive -/

@[simp] theorem State.setLive_tmb (s : State) (c : Counters) :
    (s.setLive c).tmb = s.tmb := rfl
@[simp] theorem State.setLive_swg (s : State) (c : Counters) :
    (s.setLive c).swg = s.swg := rfl
@[simp] theorem State.setLive_fli (s : State) (c : Counters) :
    (s.setLive c).fli = s.fli := rfl
@[simp] theorem State.setLive_bka (s : State) (c : Counters) :
    (s.setLive c).bka = s.bka := rfl
@[simp] theorem State.setLive_gdm (s : State) (c : Counters) :
    (s.setLive c).gdm = s.gdm := rfl
@[simp] theorem State.setLive_jdu (s : State) (c : Counters) :
    (s.setLive c).jdu = s.jdu := rfl
@[simp] theorem State.setLive_tkc (s : State) (c : Counters) :
    (s.setLive c).tkc = s.tkc := rfl
@[simp] theorem State.setLive_bmu (s : State) (c : Counters) :
    (s.setLive c).bmu = s.bmu := rfl
@[simp] theorem State.setLive_yct (s : State) (c : Counters) :
    (s.setLive c).yct = { s.yct with live := c } := rfl
@[simp] theorem State.setLive_ltc (s : State) (c : Counters) :
    (s.setLive c).ltc = s.ltc := rfl
@[simp] theorem State.setLive_flg (s : State) (c : Counters) :
    (s.setLive c).flg = s.flg := rfl
@[simp] theorem State.setLive_svc (s : State) (c : Counters) :
    (s.setLive c).svc = s.svc := rfl
@[simp] theorem State.setLive_free (s : State) (c : Counters) :
    (s.setLive c).free = s.free := rfl
@[simp] theorem State.setLive_pending (s : State) (c : Counters) :
    (s.setLive c).pending = s.pending := rfl
@[simp] theorem State.setLive_nest (s : State) (c : Counters) (m : NestId) : (s.setLive c).nest m = s.nest m := rfl
@[simp] theorem State.setLive_ctx (s : State) (c : Counters) (m : NestId) : (s.setLive c).ctx m = s.ctx m := rfl
@[simp] theorem State.setLive_ana (s : State) (c : Counters) (m : NestId) : (s.setLive c).ana m = s.ana m := rfl
@[simp] theorem State.setLive_tally (s : State) (c : Counters) (m : NestId) : (s.setLive c).tally m = s.tally m := rfl
@[simp] theorem State.setLive_lot (s : State) (c : Counters) : (s.setLive c).lot = s.lot := rfl
@[simp] theorem State.setLive_now (s : State) (c : Counters) : (s.setLive c).now = s.now := rfl
@[simp] theorem State.setLive_lastFrame (s : State) (c : Counters) : (s.setLive c).lastFrame = s.lastFrame := rfl

/-! ### setSegment -/

@[simp] theorem State.setSegment_tmb (s : State) (k : Fin 256) (e : Segment) :
    (s.setSegment k e).tmb = s.tmb := rfl
@[simp] theorem State.setSegment_swg (s : State) (k : Fin 256) (e : Segment) :
    (s.setSegment k e).swg = { s.swg with segments := s.swg.segments.set k e } := rfl
@[simp] theorem State.setSegment_fli (s : State) (k : Fin 256) (e : Segment) :
    (s.setSegment k e).fli = s.fli := rfl
@[simp] theorem State.setSegment_bka (s : State) (k : Fin 256) (e : Segment) :
    (s.setSegment k e).bka = s.bka := rfl
@[simp] theorem State.setSegment_gdm (s : State) (k : Fin 256) (e : Segment) :
    (s.setSegment k e).gdm = s.gdm := rfl
@[simp] theorem State.setSegment_jdu (s : State) (k : Fin 256) (e : Segment) :
    (s.setSegment k e).jdu = s.jdu := rfl
@[simp] theorem State.setSegment_tkc (s : State) (k : Fin 256) (e : Segment) :
    (s.setSegment k e).tkc = s.tkc := rfl
@[simp] theorem State.setSegment_bmu (s : State) (k : Fin 256) (e : Segment) :
    (s.setSegment k e).bmu = s.bmu := rfl
@[simp] theorem State.setSegment_yct (s : State) (k : Fin 256) (e : Segment) :
    (s.setSegment k e).yct = s.yct := rfl
@[simp] theorem State.setSegment_ltc (s : State) (k : Fin 256) (e : Segment) :
    (s.setSegment k e).ltc = s.ltc := rfl
@[simp] theorem State.setSegment_flg (s : State) (k : Fin 256) (e : Segment) :
    (s.setSegment k e).flg = s.flg := rfl
@[simp] theorem State.setSegment_svc (s : State) (k : Fin 256) (e : Segment) :
    (s.setSegment k e).svc = s.svc := rfl
@[simp] theorem State.setSegment_free (s : State) (k : Fin 256) (e : Segment) :
    (s.setSegment k e).free = s.free := rfl
@[simp] theorem State.setSegment_pending (s : State) (k : Fin 256) (e : Segment) :
    (s.setSegment k e).pending = s.pending := rfl
@[simp] theorem State.setSegment_nest (s : State) (k : Fin 256) (e : Segment) (m : NestId) : (s.setSegment k e).nest m = s.nest m := rfl
@[simp] theorem State.setSegment_ctx (s : State) (k : Fin 256) (e : Segment) (m : NestId) : (s.setSegment k e).ctx m = s.ctx m := rfl
@[simp] theorem State.setSegment_ana (s : State) (k : Fin 256) (e : Segment) (m : NestId) : (s.setSegment k e).ana m = s.ana m := rfl
@[simp] theorem State.setSegment_tally (s : State) (k : Fin 256) (e : Segment) (m : NestId) : (s.setSegment k e).tally m = s.tally m := rfl
@[simp] theorem State.setSegment_lot (s : State) (k : Fin 256) (e : Segment) : (s.setSegment k e).lot = s.lot := rfl
@[simp] theorem State.setSegment_now (s : State) (k : Fin 256) (e : Segment) : (s.setSegment k e).now = s.now := rfl
@[simp] theorem State.setSegment_lastFrame (s : State) (k : Fin 256) (e : Segment) : (s.setSegment k e).lastFrame = s.lastFrame := rfl

/-! ### setLimit -/

@[simp] theorem State.setLimit_tmb (s : State) (k : Fin 8) (l : LimitSet) :
    (s.setLimit k l).tmb = s.tmb := rfl
@[simp] theorem State.setLimit_swg (s : State) (k : Fin 8) (l : LimitSet) :
    (s.setLimit k l).swg = s.swg := rfl
@[simp] theorem State.setLimit_fli (s : State) (k : Fin 8) (l : LimitSet) :
    (s.setLimit k l).fli = s.fli := rfl
@[simp] theorem State.setLimit_bka (s : State) (k : Fin 8) (l : LimitSet) :
    (s.setLimit k l).bka = s.bka := rfl
@[simp] theorem State.setLimit_gdm (s : State) (k : Fin 8) (l : LimitSet) :
    (s.setLimit k l).gdm = s.gdm := rfl
@[simp] theorem State.setLimit_jdu (s : State) (k : Fin 8) (l : LimitSet) :
    (s.setLimit k l).jdu = { s.jdu with sets := s.jdu.sets.set k l } := rfl
@[simp] theorem State.setLimit_tkc (s : State) (k : Fin 8) (l : LimitSet) :
    (s.setLimit k l).tkc = s.tkc := rfl
@[simp] theorem State.setLimit_bmu (s : State) (k : Fin 8) (l : LimitSet) :
    (s.setLimit k l).bmu = s.bmu := rfl
@[simp] theorem State.setLimit_yct (s : State) (k : Fin 8) (l : LimitSet) :
    (s.setLimit k l).yct = s.yct := rfl
@[simp] theorem State.setLimit_ltc (s : State) (k : Fin 8) (l : LimitSet) :
    (s.setLimit k l).ltc = s.ltc := rfl
@[simp] theorem State.setLimit_flg (s : State) (k : Fin 8) (l : LimitSet) :
    (s.setLimit k l).flg = s.flg := rfl
@[simp] theorem State.setLimit_svc (s : State) (k : Fin 8) (l : LimitSet) :
    (s.setLimit k l).svc = s.svc := rfl
@[simp] theorem State.setLimit_free (s : State) (k : Fin 8) (l : LimitSet) :
    (s.setLimit k l).free = s.free := rfl
@[simp] theorem State.setLimit_pending (s : State) (k : Fin 8) (l : LimitSet) :
    (s.setLimit k l).pending = s.pending := rfl
@[simp] theorem State.setLimit_nest (s : State) (k : Fin 8) (l : LimitSet) (m : NestId) : (s.setLimit k l).nest m = s.nest m := rfl
@[simp] theorem State.setLimit_ctx (s : State) (k : Fin 8) (l : LimitSet) (m : NestId) : (s.setLimit k l).ctx m = s.ctx m := rfl
@[simp] theorem State.setLimit_ana (s : State) (k : Fin 8) (l : LimitSet) (m : NestId) : (s.setLimit k l).ana m = s.ana m := rfl
@[simp] theorem State.setLimit_tally (s : State) (k : Fin 8) (l : LimitSet) (m : NestId) : (s.setLimit k l).tally m = s.tally m := rfl
@[simp] theorem State.setLimit_lot (s : State) (k : Fin 8) (l : LimitSet) : (s.setLimit k l).lot = s.lot := rfl
@[simp] theorem State.setLimit_now (s : State) (k : Fin 8) (l : LimitSet) : (s.setLimit k l).now = s.now := rfl
@[simp] theorem State.setLimit_lastFrame (s : State) (k : Fin 8) (l : LimitSet) : (s.setLimit k l).lastFrame = s.lastFrame := rfl

/-! ### markBoundary -/

@[simp] theorem State.markBoundary_tmb (s : State) :
    (s.markBoundary).tmb = { s.tmb with boundary := true } := rfl
@[simp] theorem State.markBoundary_swg (s : State) :
    (s.markBoundary).swg = s.swg := rfl
@[simp] theorem State.markBoundary_fli (s : State) :
    (s.markBoundary).fli = s.fli := rfl
@[simp] theorem State.markBoundary_bka (s : State) :
    (s.markBoundary).bka = s.bka := rfl
@[simp] theorem State.markBoundary_gdm (s : State) :
    (s.markBoundary).gdm = s.gdm := rfl
@[simp] theorem State.markBoundary_jdu (s : State) :
    (s.markBoundary).jdu = s.jdu := rfl
@[simp] theorem State.markBoundary_tkc (s : State) :
    (s.markBoundary).tkc = s.tkc := rfl
@[simp] theorem State.markBoundary_bmu (s : State) :
    (s.markBoundary).bmu = s.bmu := rfl
@[simp] theorem State.markBoundary_yct (s : State) :
    (s.markBoundary).yct = s.yct := rfl
@[simp] theorem State.markBoundary_ltc (s : State) :
    (s.markBoundary).ltc = s.ltc := rfl
@[simp] theorem State.markBoundary_flg (s : State) :
    (s.markBoundary).flg = s.flg := rfl
@[simp] theorem State.markBoundary_svc (s : State) :
    (s.markBoundary).svc = s.svc := rfl
@[simp] theorem State.markBoundary_free (s : State) :
    (s.markBoundary).free = s.free := rfl
@[simp] theorem State.markBoundary_pending (s : State) :
    (s.markBoundary).pending = s.pending := rfl
@[simp] theorem State.markBoundary_nest (s : State) (m : NestId) : (s.markBoundary).nest m = s.nest m := rfl
@[simp] theorem State.markBoundary_ctx (s : State) (m : NestId) : (s.markBoundary).ctx m = s.ctx m := rfl
@[simp] theorem State.markBoundary_ana (s : State) (m : NestId) : (s.markBoundary).ana m = s.ana m := rfl
@[simp] theorem State.markBoundary_tally (s : State) (m : NestId) : (s.markBoundary).tally m = s.tally m := rfl
@[simp] theorem State.markBoundary_lot (s : State) : (s.markBoundary).lot = s.lot := rfl
@[simp] theorem State.markBoundary_lastFrame (s : State) : (s.markBoundary).lastFrame = s.lastFrame := rfl

end Sys2Proof.Machine
end

