-- ==== Sys2Proof/Laws/Faults.lean ====
section
/-! SUPPORT. What the operations of the fault log and the notices leave alone. -/

namespace Sys2Proof.Machine

open Sys2Proof

/-! ### logArrival -/

@[simp] theorem logArrival_tmb (r : FaultRecord) (s : State) : (logArrival r s).tmb = s.tmb := by
  simp [logArrival]
@[simp] theorem logArrival_swg (r : FaultRecord) (s : State) : (logArrival r s).swg = s.swg := by
  simp [logArrival]
@[simp] theorem logArrival_fli (r : FaultRecord) (s : State) : (logArrival r s).fli = s.fli := by
  simp [logArrival]
@[simp] theorem logArrival_bka (r : FaultRecord) (s : State) : (logArrival r s).bka = s.bka := by
  simp [logArrival]
@[simp] theorem logArrival_gdm (r : FaultRecord) (s : State) : (logArrival r s).gdm = s.gdm := by
  simp [logArrival]
@[simp] theorem logArrival_jdu (r : FaultRecord) (s : State) : (logArrival r s).jdu = s.jdu := by
  simp [logArrival]
@[simp] theorem logArrival_tkc (r : FaultRecord) (s : State) : (logArrival r s).tkc = s.tkc := by
  simp [logArrival]
@[simp] theorem logArrival_bmu (r : FaultRecord) (s : State) : (logArrival r s).bmu = s.bmu := by
  simp [logArrival]
@[simp] theorem logArrival_yct (r : FaultRecord) (s : State) : (logArrival r s).yct = s.yct := by
  simp [logArrival]
@[simp] theorem logArrival_ltc (r : FaultRecord) (s : State) : (logArrival r s).ltc = s.ltc := by
  simp [logArrival]
@[simp] theorem logArrival_svc (r : FaultRecord) (s : State) : (logArrival r s).svc = s.svc := by
  simp [logArrival]
@[simp] theorem logArrival_free (r : FaultRecord) (s : State) : (logArrival r s).free = s.free := by
  simp [logArrival]
@[simp] theorem logArrival_pending (r : FaultRecord) (s : State) : (logArrival r s).pending = s.pending := by
  simp [logArrival]
@[simp] theorem logArrival_nest (r : FaultRecord) (s : State) (m : NestId) : (logArrival r s).nest m = s.nest m := by
  simp [State.nest]
@[simp] theorem logArrival_ctx (r : FaultRecord) (s : State) (m : NestId) : (logArrival r s).ctx m = s.ctx m := by
  simp [State.ctx]
@[simp] theorem logArrival_ana (r : FaultRecord) (s : State) (m : NestId) : (logArrival r s).ana m = s.ana m := by
  simp [State.ana]
@[simp] theorem logArrival_tally (r : FaultRecord) (s : State) (m : NestId) : (logArrival r s).tally m = s.tally m := by
  simp [State.tally]
@[simp] theorem logArrival_now (r : FaultRecord) (s : State) : (logArrival r s).now = s.now := by
  simp [State.now, State.lastFrame]
@[simp] theorem logArrival_lot (r : FaultRecord) (s : State) : (logArrival r s).lot = s.lot := by
  simp [State.lot]

/-! ### queueNotice -/

@[simp] theorem queueNotice_tmb (type : Byte) (payload : List Byte) (s : State) : (queueNotice type payload s).tmb = s.tmb := by
  simp [queueNotice]
@[simp] theorem queueNotice_swg (type : Byte) (payload : List Byte) (s : State) : (queueNotice type payload s).swg = s.swg := by
  simp [queueNotice]
@[simp] theorem queueNotice_fli (type : Byte) (payload : List Byte) (s : State) : (queueNotice type payload s).fli = s.fli := by
  simp [queueNotice]
@[simp] theorem queueNotice_bka (type : Byte) (payload : List Byte) (s : State) : (queueNotice type payload s).bka = s.bka := by
  simp [queueNotice]
@[simp] theorem queueNotice_gdm (type : Byte) (payload : List Byte) (s : State) : (queueNotice type payload s).gdm = s.gdm := by
  simp [queueNotice]
@[simp] theorem queueNotice_jdu (type : Byte) (payload : List Byte) (s : State) : (queueNotice type payload s).jdu = s.jdu := by
  simp [queueNotice]
@[simp] theorem queueNotice_tkc (type : Byte) (payload : List Byte) (s : State) : (queueNotice type payload s).tkc = s.tkc := by
  simp [queueNotice]
@[simp] theorem queueNotice_bmu (type : Byte) (payload : List Byte) (s : State) : (queueNotice type payload s).bmu = s.bmu := by
  simp [queueNotice]
@[simp] theorem queueNotice_yct (type : Byte) (payload : List Byte) (s : State) : (queueNotice type payload s).yct = s.yct := by
  simp [queueNotice]
@[simp] theorem queueNotice_ltc (type : Byte) (payload : List Byte) (s : State) : (queueNotice type payload s).ltc = s.ltc := by
  simp [queueNotice]
@[simp] theorem queueNotice_flg (type : Byte) (payload : List Byte) (s : State) : (queueNotice type payload s).flg = s.flg := by
  simp [queueNotice]
@[simp] theorem queueNotice_free (type : Byte) (payload : List Byte) (s : State) : (queueNotice type payload s).free = s.free := by
  simp [queueNotice]
@[simp] theorem queueNotice_pending (type : Byte) (payload : List Byte) (s : State) : (queueNotice type payload s).pending = s.pending := by
  simp [queueNotice]
@[simp] theorem queueNotice_nest (type : Byte) (payload : List Byte) (s : State) (m : NestId) : (queueNotice type payload s).nest m = s.nest m := by
  simp [State.nest]
@[simp] theorem queueNotice_ctx (type : Byte) (payload : List Byte) (s : State) (m : NestId) : (queueNotice type payload s).ctx m = s.ctx m := by
  simp [State.ctx]
@[simp] theorem queueNotice_ana (type : Byte) (payload : List Byte) (s : State) (m : NestId) : (queueNotice type payload s).ana m = s.ana m := by
  simp [State.ana]
@[simp] theorem queueNotice_tally (type : Byte) (payload : List Byte) (s : State) (m : NestId) : (queueNotice type payload s).tally m = s.tally m := by
  simp [State.tally]
@[simp] theorem queueNotice_now (type : Byte) (payload : List Byte) (s : State) : (queueNotice type payload s).now = s.now := by
  simp [State.now, State.lastFrame]
@[simp] theorem queueNotice_lot (type : Byte) (payload : List Byte) (s : State) : (queueNotice type payload s).lot = s.lot := by
  simp [State.lot]

/-! ### raiseOverflow -/

@[simp] theorem raiseOverflow_tmb (detail : Half) (stamp : Nat) (s : State) : (raiseOverflow detail stamp s).tmb = s.tmb := by
  simp [raiseOverflow]
@[simp] theorem raiseOverflow_swg (detail : Half) (stamp : Nat) (s : State) : (raiseOverflow detail stamp s).swg = s.swg := by
  simp [raiseOverflow]
@[simp] theorem raiseOverflow_fli (detail : Half) (stamp : Nat) (s : State) : (raiseOverflow detail stamp s).fli = s.fli := by
  simp [raiseOverflow]
@[simp] theorem raiseOverflow_bka (detail : Half) (stamp : Nat) (s : State) : (raiseOverflow detail stamp s).bka = s.bka := by
  simp [raiseOverflow]
@[simp] theorem raiseOverflow_gdm (detail : Half) (stamp : Nat) (s : State) : (raiseOverflow detail stamp s).gdm = s.gdm := by
  simp [raiseOverflow]
@[simp] theorem raiseOverflow_jdu (detail : Half) (stamp : Nat) (s : State) : (raiseOverflow detail stamp s).jdu = s.jdu := by
  simp [raiseOverflow]
@[simp] theorem raiseOverflow_tkc (detail : Half) (stamp : Nat) (s : State) : (raiseOverflow detail stamp s).tkc = s.tkc := by
  simp [raiseOverflow]
@[simp] theorem raiseOverflow_bmu (detail : Half) (stamp : Nat) (s : State) : (raiseOverflow detail stamp s).bmu = s.bmu := by
  simp [raiseOverflow]
@[simp] theorem raiseOverflow_yct (detail : Half) (stamp : Nat) (s : State) : (raiseOverflow detail stamp s).yct = s.yct := by
  simp [raiseOverflow]
@[simp] theorem raiseOverflow_ltc (detail : Half) (stamp : Nat) (s : State) : (raiseOverflow detail stamp s).ltc = s.ltc := by
  simp [raiseOverflow]
@[simp] theorem raiseOverflow_free (detail : Half) (stamp : Nat) (s : State) : (raiseOverflow detail stamp s).free = s.free := by
  simp [raiseOverflow]
@[simp] theorem raiseOverflow_pending (detail : Half) (stamp : Nat) (s : State) : (raiseOverflow detail stamp s).pending = s.pending := by
  simp [raiseOverflow]
@[simp] theorem raiseOverflow_nest (detail : Half) (stamp : Nat) (s : State) (m : NestId) : (raiseOverflow detail stamp s).nest m = s.nest m := by
  simp [State.nest]
@[simp] theorem raiseOverflow_ctx (detail : Half) (stamp : Nat) (s : State) (m : NestId) : (raiseOverflow detail stamp s).ctx m = s.ctx m := by
  simp [State.ctx]
@[simp] theorem raiseOverflow_ana (detail : Half) (stamp : Nat) (s : State) (m : NestId) : (raiseOverflow detail stamp s).ana m = s.ana m := by
  simp [State.ana]
@[simp] theorem raiseOverflow_tally (detail : Half) (stamp : Nat) (s : State) (m : NestId) : (raiseOverflow detail stamp s).tally m = s.tally m := by
  simp [State.tally]
@[simp] theorem raiseOverflow_now (detail : Half) (stamp : Nat) (s : State) : (raiseOverflow detail stamp s).now = s.now := by
  simp [State.now, State.lastFrame]
@[simp] theorem raiseOverflow_lot (detail : Half) (stamp : Nat) (s : State) : (raiseOverflow detail stamp s).lot = s.lot := by
  simp [State.lot]

/-! ### offerNotice -/

@[simp] theorem offerNotice_tmb (type : Byte) (payload : List Byte) (detail : Half) (stamp : Nat) (s : State) : (offerNotice type payload detail stamp s).tmb = s.tmb := by
  simp only [offerNotice]; (repeat' split) <;> simp
@[simp] theorem offerNotice_swg (type : Byte) (payload : List Byte) (detail : Half) (stamp : Nat) (s : State) : (offerNotice type payload detail stamp s).swg = s.swg := by
  simp only [offerNotice]; (repeat' split) <;> simp
@[simp] theorem offerNotice_fli (type : Byte) (payload : List Byte) (detail : Half) (stamp : Nat) (s : State) : (offerNotice type payload detail stamp s).fli = s.fli := by
  simp only [offerNotice]; (repeat' split) <;> simp
@[simp] theorem offerNotice_bka (type : Byte) (payload : List Byte) (detail : Half) (stamp : Nat) (s : State) : (offerNotice type payload detail stamp s).bka = s.bka := by
  simp only [offerNotice]; (repeat' split) <;> simp
@[simp] theorem offerNotice_gdm (type : Byte) (payload : List Byte) (detail : Half) (stamp : Nat) (s : State) : (offerNotice type payload detail stamp s).gdm = s.gdm := by
  simp only [offerNotice]; (repeat' split) <;> simp
@[simp] theorem offerNotice_jdu (type : Byte) (payload : List Byte) (detail : Half) (stamp : Nat) (s : State) : (offerNotice type payload detail stamp s).jdu = s.jdu := by
  simp only [offerNotice]; (repeat' split) <;> simp
@[simp] theorem offerNotice_tkc (type : Byte) (payload : List Byte) (detail : Half) (stamp : Nat) (s : State) : (offerNotice type payload detail stamp s).tkc = s.tkc := by
  simp only [offerNotice]; (repeat' split) <;> simp
@[simp] theorem offerNotice_bmu (type : Byte) (payload : List Byte) (detail : Half) (stamp : Nat) (s : State) : (offerNotice type payload detail stamp s).bmu = s.bmu := by
  simp only [offerNotice]; (repeat' split) <;> simp
@[simp] theorem offerNotice_yct (type : Byte) (payload : List Byte) (detail : Half) (stamp : Nat) (s : State) : (offerNotice type payload detail stamp s).yct = s.yct := by
  simp only [offerNotice]; (repeat' split) <;> simp
@[simp] theorem offerNotice_ltc (type : Byte) (payload : List Byte) (detail : Half) (stamp : Nat) (s : State) : (offerNotice type payload detail stamp s).ltc = s.ltc := by
  simp only [offerNotice]; (repeat' split) <;> simp
@[simp] theorem offerNotice_free (type : Byte) (payload : List Byte) (detail : Half) (stamp : Nat) (s : State) : (offerNotice type payload detail stamp s).free = s.free := by
  simp only [offerNotice]; (repeat' split) <;> simp
@[simp] theorem offerNotice_pending (type : Byte) (payload : List Byte) (detail : Half) (stamp : Nat) (s : State) : (offerNotice type payload detail stamp s).pending = s.pending := by
  simp only [offerNotice]; (repeat' split) <;> simp
@[simp] theorem offerNotice_nest (type : Byte) (payload : List Byte) (detail : Half) (stamp : Nat) (s : State) (m : NestId) : (offerNotice type payload detail stamp s).nest m = s.nest m := by
  simp [State.nest]
@[simp] theorem offerNotice_ctx (type : Byte) (payload : List Byte) (detail : Half) (stamp : Nat) (s : State) (m : NestId) : (offerNotice type payload detail stamp s).ctx m = s.ctx m := by
  simp [State.ctx]
@[simp] theorem offerNotice_ana (type : Byte) (payload : List Byte) (detail : Half) (stamp : Nat) (s : State) (m : NestId) : (offerNotice type payload detail stamp s).ana m = s.ana m := by
  simp [State.ana]
@[simp] theorem offerNotice_tally (type : Byte) (payload : List Byte) (detail : Half) (stamp : Nat) (s : State) (m : NestId) : (offerNotice type payload detail stamp s).tally m = s.tally m := by
  simp [State.tally]
@[simp] theorem offerNotice_now (type : Byte) (payload : List Byte) (detail : Half) (stamp : Nat) (s : State) : (offerNotice type payload detail stamp s).now = s.now := by
  simp [State.now, State.lastFrame]
@[simp] theorem offerNotice_lot (type : Byte) (payload : List Byte) (detail : Half) (stamp : Nat) (s : State) : (offerNotice type payload detail stamp s).lot = s.lot := by
  simp [State.lot]

/-! ### raiseFault -/

@[simp] theorem raiseFault_tmb (r : FaultRecord) (s : State) : (raiseFault r s).tmb = s.tmb := by
  simp [raiseFault]
@[simp] theorem raiseFault_swg (r : FaultRecord) (s : State) : (raiseFault r s).swg = s.swg := by
  simp [raiseFault]
@[simp] theorem raiseFault_fli (r : FaultRecord) (s : State) : (raiseFault r s).fli = s.fli := by
  simp [raiseFault]
@[simp] theorem raiseFault_bka (r : FaultRecord) (s : State) : (raiseFault r s).bka = s.bka := by
  simp [raiseFault]
@[simp] theorem raiseFault_gdm (r : FaultRecord) (s : State) : (raiseFault r s).gdm = s.gdm := by
  simp [raiseFault]
@[simp] theorem raiseFault_jdu (r : FaultRecord) (s : State) : (raiseFault r s).jdu = s.jdu := by
  simp [raiseFault]
@[simp] theorem raiseFault_tkc (r : FaultRecord) (s : State) : (raiseFault r s).tkc = s.tkc := by
  simp [raiseFault]
@[simp] theorem raiseFault_bmu (r : FaultRecord) (s : State) : (raiseFault r s).bmu = s.bmu := by
  simp [raiseFault]
@[simp] theorem raiseFault_yct (r : FaultRecord) (s : State) : (raiseFault r s).yct = s.yct := by
  simp [raiseFault]
@[simp] theorem raiseFault_ltc (r : FaultRecord) (s : State) : (raiseFault r s).ltc = s.ltc := by
  simp [raiseFault]
@[simp] theorem raiseFault_free (r : FaultRecord) (s : State) : (raiseFault r s).free = s.free := by
  simp [raiseFault]
@[simp] theorem raiseFault_pending (r : FaultRecord) (s : State) : (raiseFault r s).pending = s.pending := by
  simp [raiseFault]
@[simp] theorem raiseFault_nest (r : FaultRecord) (s : State) (m : NestId) : (raiseFault r s).nest m = s.nest m := by
  simp [State.nest]
@[simp] theorem raiseFault_ctx (r : FaultRecord) (s : State) (m : NestId) : (raiseFault r s).ctx m = s.ctx m := by
  simp [State.ctx]
@[simp] theorem raiseFault_ana (r : FaultRecord) (s : State) (m : NestId) : (raiseFault r s).ana m = s.ana m := by
  simp [State.ana]
@[simp] theorem raiseFault_tally (r : FaultRecord) (s : State) (m : NestId) : (raiseFault r s).tally m = s.tally m := by
  simp [State.tally]
@[simp] theorem raiseFault_now (r : FaultRecord) (s : State) : (raiseFault r s).now = s.now := by
  simp [State.now, State.lastFrame]
@[simp] theorem raiseFault_lot (r : FaultRecord) (s : State) : (raiseFault r s).lot = s.lot := by
  simp [State.lot]

end Sys2Proof.Machine
end

