-- ==== Sys2Proof/Laws/Counters.lean ====
section
/-! SUPPORT. What the operations of the counters leave alone. -/

namespace Sys2Proof.Machine

open Sys2Proof

/-! ### countTicket -/

@[simp] theorem countTicket_tmb (s : State) : (countTicket s).tmb = s.tmb := by
  simp [countTicket]
@[simp] theorem countTicket_swg (s : State) : (countTicket s).swg = s.swg := by
  simp [countTicket]
@[simp] theorem countTicket_fli (s : State) : (countTicket s).fli = s.fli := by
  simp [countTicket]
@[simp] theorem countTicket_bka (s : State) : (countTicket s).bka = s.bka := by
  simp [countTicket]
@[simp] theorem countTicket_gdm (s : State) : (countTicket s).gdm = s.gdm := by
  simp [countTicket]
@[simp] theorem countTicket_jdu (s : State) : (countTicket s).jdu = s.jdu := by
  simp [countTicket]
@[simp] theorem countTicket_tkc (s : State) : (countTicket s).tkc = s.tkc := by
  simp [countTicket]
@[simp] theorem countTicket_bmu (s : State) : (countTicket s).bmu = s.bmu := by
  simp [countTicket]
@[simp] theorem countTicket_ltc (s : State) : (countTicket s).ltc = s.ltc := by
  simp [countTicket]
@[simp] theorem countTicket_flg (s : State) : (countTicket s).flg = s.flg := by
  simp [countTicket]
@[simp] theorem countTicket_svc (s : State) : (countTicket s).svc = s.svc := by
  simp [countTicket]
@[simp] theorem countTicket_free (s : State) : (countTicket s).free = s.free := by
  simp [countTicket]
@[simp] theorem countTicket_pending (s : State) : (countTicket s).pending = s.pending := by
  simp [countTicket]
@[simp] theorem countTicket_nest (s : State) (m : NestId) : (countTicket s).nest m = s.nest m := by
  simp [State.nest]
@[simp] theorem countTicket_ctx (s : State) (m : NestId) : (countTicket s).ctx m = s.ctx m := by
  simp [State.ctx]
@[simp] theorem countTicket_ana (s : State) (m : NestId) : (countTicket s).ana m = s.ana m := by
  simp [State.ana]
@[simp] theorem countTicket_tally (s : State) (m : NestId) : (countTicket s).tally m = s.tally m := by
  simp [State.tally]
@[simp] theorem countTicket_now (s : State) : (countTicket s).now = s.now := by
  simp [State.now, State.lastFrame]
@[simp] theorem countTicket_lot (s : State) : (countTicket s).lot = s.lot := by
  simp [State.lot]

/-! ### countRetest -/

@[simp] theorem countRetest_tmb (n : NestId) (s : State) : (countRetest n s).tmb = s.tmb := by
  simp [countRetest]
@[simp] theorem countRetest_swg (n : NestId) (s : State) : (countRetest n s).swg = s.swg := by
  simp [countRetest]
@[simp] theorem countRetest_fli (n : NestId) (s : State) : (countRetest n s).fli = s.fli := by
  simp [countRetest]
@[simp] theorem countRetest_bka (n : NestId) (s : State) : (countRetest n s).bka = s.bka := by
  simp [countRetest]
@[simp] theorem countRetest_gdm (n : NestId) (s : State) : (countRetest n s).gdm = s.gdm := by
  simp [countRetest]
@[simp] theorem countRetest_jdu (n : NestId) (s : State) : (countRetest n s).jdu = s.jdu := by
  simp [countRetest]
@[simp] theorem countRetest_tkc (n : NestId) (s : State) : (countRetest n s).tkc = s.tkc := by
  simp [countRetest]
@[simp] theorem countRetest_bmu (n : NestId) (s : State) : (countRetest n s).bmu = s.bmu := by
  simp [countRetest]
@[simp] theorem countRetest_ltc (n : NestId) (s : State) : (countRetest n s).ltc = s.ltc := by
  simp [countRetest]
@[simp] theorem countRetest_flg (n : NestId) (s : State) : (countRetest n s).flg = s.flg := by
  simp [countRetest]
@[simp] theorem countRetest_svc (n : NestId) (s : State) : (countRetest n s).svc = s.svc := by
  simp [countRetest]
@[simp] theorem countRetest_free (n : NestId) (s : State) : (countRetest n s).free = s.free := by
  simp [countRetest]
@[simp] theorem countRetest_pending (n : NestId) (s : State) : (countRetest n s).pending = s.pending := by
  simp [countRetest]
@[simp] theorem countRetest_nest (n : NestId) (s : State) (m : NestId) : (countRetest n s).nest m = s.nest m := by
  simp [State.nest]
@[simp] theorem countRetest_ctx (n : NestId) (s : State) (m : NestId) : (countRetest n s).ctx m = s.ctx m := by
  simp [State.ctx]
@[simp] theorem countRetest_ana (n : NestId) (s : State) (m : NestId) : (countRetest n s).ana m = s.ana m := by
  simp [State.ana]
@[simp] theorem countRetest_tally (n : NestId) (s : State) (m : NestId) : (countRetest n s).tally m = s.tally m := by
  simp [State.tally]
@[simp] theorem countRetest_now (n : NestId) (s : State) : (countRetest n s).now = s.now := by
  simp [State.now, State.lastFrame]
@[simp] theorem countRetest_lot (n : NestId) (s : State) : (countRetest n s).lot = s.lot := by
  simp [State.lot]

/-! ### countTrip -/

@[simp] theorem countTrip_tmb (s : State) : (countTrip s).tmb = s.tmb := by
  simp [countTrip]
@[simp] theorem countTrip_swg (s : State) : (countTrip s).swg = s.swg := by
  simp [countTrip]
@[simp] theorem countTrip_fli (s : State) : (countTrip s).fli = s.fli := by
  simp [countTrip]
@[simp] theorem countTrip_bka (s : State) : (countTrip s).bka = s.bka := by
  simp [countTrip]
@[simp] theorem countTrip_gdm (s : State) : (countTrip s).gdm = s.gdm := by
  simp [countTrip]
@[simp] theorem countTrip_jdu (s : State) : (countTrip s).jdu = s.jdu := by
  simp [countTrip]
@[simp] theorem countTrip_tkc (s : State) : (countTrip s).tkc = s.tkc := by
  simp [countTrip]
@[simp] theorem countTrip_bmu (s : State) : (countTrip s).bmu = s.bmu := by
  simp [countTrip]
@[simp] theorem countTrip_ltc (s : State) : (countTrip s).ltc = s.ltc := by
  simp [countTrip]
@[simp] theorem countTrip_flg (s : State) : (countTrip s).flg = s.flg := by
  simp [countTrip]
@[simp] theorem countTrip_svc (s : State) : (countTrip s).svc = s.svc := by
  simp [countTrip]
@[simp] theorem countTrip_free (s : State) : (countTrip s).free = s.free := by
  simp [countTrip]
@[simp] theorem countTrip_pending (s : State) : (countTrip s).pending = s.pending := by
  simp [countTrip]
@[simp] theorem countTrip_nest (s : State) (m : NestId) : (countTrip s).nest m = s.nest m := by
  simp [State.nest]
@[simp] theorem countTrip_ctx (s : State) (m : NestId) : (countTrip s).ctx m = s.ctx m := by
  simp [State.ctx]
@[simp] theorem countTrip_ana (s : State) (m : NestId) : (countTrip s).ana m = s.ana m := by
  simp [State.ana]
@[simp] theorem countTrip_tally (s : State) (m : NestId) : (countTrip s).tally m = s.tally m := by
  simp [State.tally]
@[simp] theorem countTrip_now (s : State) : (countTrip s).now = s.now := by
  simp [State.now, State.lastFrame]
@[simp] theorem countTrip_lot (s : State) : (countTrip s).lot = s.lot := by
  simp [State.lot]

/-! ### countVoid -/

@[simp] theorem countVoid_tmb (s : State) : (countVoid s).tmb = s.tmb := by
  simp [countVoid]
@[simp] theorem countVoid_swg (s : State) : (countVoid s).swg = s.swg := by
  simp [countVoid]
@[simp] theorem countVoid_fli (s : State) : (countVoid s).fli = s.fli := by
  simp [countVoid]
@[simp] theorem countVoid_bka (s : State) : (countVoid s).bka = s.bka := by
  simp [countVoid]
@[simp] theorem countVoid_gdm (s : State) : (countVoid s).gdm = s.gdm := by
  simp [countVoid]
@[simp] theorem countVoid_jdu (s : State) : (countVoid s).jdu = s.jdu := by
  simp [countVoid]
@[simp] theorem countVoid_tkc (s : State) : (countVoid s).tkc = s.tkc := by
  simp [countVoid]
@[simp] theorem countVoid_bmu (s : State) : (countVoid s).bmu = s.bmu := by
  simp [countVoid]
@[simp] theorem countVoid_ltc (s : State) : (countVoid s).ltc = s.ltc := by
  simp [countVoid]
@[simp] theorem countVoid_flg (s : State) : (countVoid s).flg = s.flg := by
  simp [countVoid]
@[simp] theorem countVoid_svc (s : State) : (countVoid s).svc = s.svc := by
  simp [countVoid]
@[simp] theorem countVoid_free (s : State) : (countVoid s).free = s.free := by
  simp [countVoid]
@[simp] theorem countVoid_pending (s : State) : (countVoid s).pending = s.pending := by
  simp [countVoid]
@[simp] theorem countVoid_nest (s : State) (m : NestId) : (countVoid s).nest m = s.nest m := by
  simp [State.nest]
@[simp] theorem countVoid_ctx (s : State) (m : NestId) : (countVoid s).ctx m = s.ctx m := by
  simp [State.ctx]
@[simp] theorem countVoid_ana (s : State) (m : NestId) : (countVoid s).ana m = s.ana m := by
  simp [State.ana]
@[simp] theorem countVoid_tally (s : State) (m : NestId) : (countVoid s).tally m = s.tally m := by
  simp [State.tally]
@[simp] theorem countVoid_now (s : State) : (countVoid s).now = s.now := by
  simp [State.now, State.lastFrame]
@[simp] theorem countVoid_lot (s : State) : (countVoid s).lot = s.lot := by
  simp [State.lot]

/-! ### countCellError -/

@[simp] theorem countCellError_tmb (s : State) : (countCellError s).tmb = s.tmb := by
  simp [countCellError]
@[simp] theorem countCellError_swg (s : State) : (countCellError s).swg = s.swg := by
  simp [countCellError]
@[simp] theorem countCellError_fli (s : State) : (countCellError s).fli = s.fli := by
  simp [countCellError]
@[simp] theorem countCellError_bka (s : State) : (countCellError s).bka = s.bka := by
  simp [countCellError]
@[simp] theorem countCellError_gdm (s : State) : (countCellError s).gdm = s.gdm := by
  simp [countCellError]
@[simp] theorem countCellError_jdu (s : State) : (countCellError s).jdu = s.jdu := by
  simp [countCellError]
@[simp] theorem countCellError_tkc (s : State) : (countCellError s).tkc = s.tkc := by
  simp [countCellError]
@[simp] theorem countCellError_bmu (s : State) : (countCellError s).bmu = s.bmu := by
  simp [countCellError]
@[simp] theorem countCellError_ltc (s : State) : (countCellError s).ltc = s.ltc := by
  simp [countCellError]
@[simp] theorem countCellError_flg (s : State) : (countCellError s).flg = s.flg := by
  simp [countCellError]
@[simp] theorem countCellError_svc (s : State) : (countCellError s).svc = s.svc := by
  simp [countCellError]
@[simp] theorem countCellError_free (s : State) : (countCellError s).free = s.free := by
  simp [countCellError]
@[simp] theorem countCellError_pending (s : State) : (countCellError s).pending = s.pending := by
  simp [countCellError]
@[simp] theorem countCellError_nest (s : State) (m : NestId) : (countCellError s).nest m = s.nest m := by
  simp [State.nest]
@[simp] theorem countCellError_ctx (s : State) (m : NestId) : (countCellError s).ctx m = s.ctx m := by
  simp [State.ctx]
@[simp] theorem countCellError_ana (s : State) (m : NestId) : (countCellError s).ana m = s.ana m := by
  simp [State.ana]
@[simp] theorem countCellError_tally (s : State) (m : NestId) : (countCellError s).tally m = s.tally m := by
  simp [State.tally]
@[simp] theorem countCellError_now (s : State) : (countCellError s).now = s.now := by
  simp [State.now, State.lastFrame]
@[simp] theorem countCellError_lot (s : State) : (countCellError s).lot = s.lot := by
  simp [State.lot]

end Sys2Proof.Machine
end

