-- ==== Sys2Proof/Laws/Tickets.lean ====
section
/-! SUPPORT. What the operations of sweeps and tickets leave alone. -/

namespace Sys2Proof.Machine

open Sys2Proof

/-! ### beginBlock -/

@[simp] theorem beginBlock_tmb (n : NestId) (c : SweepCtx) (s : State) : (beginBlock n c s).tmb = s.tmb := by
  simp [beginBlock]
@[simp] theorem beginBlock_fli (n : NestId) (c : SweepCtx) (s : State) : (beginBlock n c s).fli = s.fli := by
  simp [beginBlock]
@[simp] theorem beginBlock_gdm (n : NestId) (c : SweepCtx) (s : State) : (beginBlock n c s).gdm = s.gdm := by
  simp [beginBlock]
@[simp] theorem beginBlock_jdu (n : NestId) (c : SweepCtx) (s : State) : (beginBlock n c s).jdu = s.jdu := by
  simp [beginBlock]
@[simp] theorem beginBlock_tkc (n : NestId) (c : SweepCtx) (s : State) : (beginBlock n c s).tkc = s.tkc := by
  simp [beginBlock]
@[simp] theorem beginBlock_bmu (n : NestId) (c : SweepCtx) (s : State) : (beginBlock n c s).bmu = s.bmu := by
  simp [beginBlock]
@[simp] theorem beginBlock_yct (n : NestId) (c : SweepCtx) (s : State) : (beginBlock n c s).yct = s.yct := by
  simp [beginBlock]
@[simp] theorem beginBlock_ltc (n : NestId) (c : SweepCtx) (s : State) : (beginBlock n c s).ltc = s.ltc := by
  simp [beginBlock]
@[simp] theorem beginBlock_flg (n : NestId) (c : SweepCtx) (s : State) : (beginBlock n c s).flg = s.flg := by
  simp [beginBlock]
@[simp] theorem beginBlock_svc (n : NestId) (c : SweepCtx) (s : State) : (beginBlock n c s).svc = s.svc := by
  simp [beginBlock]
@[simp] theorem beginBlock_free (n : NestId) (c : SweepCtx) (s : State) : (beginBlock n c s).free = s.free := by
  simp [beginBlock]
@[simp] theorem beginBlock_pending (n : NestId) (c : SweepCtx) (s : State) : (beginBlock n c s).pending = s.pending := by
  simp [beginBlock]
@[simp] theorem beginBlock_nest (n : NestId) (c : SweepCtx) (s : State) (m : NestId) : (beginBlock n c s).nest m = s.nest m := by
  simp [State.nest]
@[simp] theorem beginBlock_ctx_other (n : NestId) (c : SweepCtx) (s : State) {m : NestId} (hm : m ≠ n) :
    (beginBlock n c s).ctx m = s.ctx m := by
  simp only [beginBlock]; (repeat' split) <;> simp [hm]
@[simp] theorem beginBlock_ana_other (n : NestId) (c : SweepCtx) (s : State) {m : NestId} (hm : m ≠ n) :
    (beginBlock n c s).ana m = s.ana m := by
  simp only [beginBlock]; (repeat' split) <;> simp [hm]
@[simp] theorem beginBlock_tally (n : NestId) (c : SweepCtx) (s : State) (m : NestId) : (beginBlock n c s).tally m = s.tally m := by
  simp [State.tally]
@[simp] theorem beginBlock_now (n : NestId) (c : SweepCtx) (s : State) : (beginBlock n c s).now = s.now := by
  simp [State.now, State.lastFrame]
@[simp] theorem beginBlock_lot (n : NestId) (c : SweepCtx) (s : State) : (beginBlock n c s).lot = s.lot := by
  simp [State.lot]

/-! ### startSweep -/

@[simp] theorem startSweep_tmb (n : NestId) (s : State) : (startSweep n s).tmb = s.tmb := by
  simp only [startSweep]; (repeat' split) <;> simp
@[simp] theorem startSweep_fli (n : NestId) (s : State) : (startSweep n s).fli = s.fli := by
  simp only [startSweep]; (repeat' split) <;> simp
@[simp] theorem startSweep_gdm (n : NestId) (s : State) : (startSweep n s).gdm = s.gdm := by
  simp only [startSweep]; (repeat' split) <;> simp
@[simp] theorem startSweep_jdu (n : NestId) (s : State) : (startSweep n s).jdu = s.jdu := by
  simp only [startSweep]; (repeat' split) <;> simp
@[simp] theorem startSweep_tkc (n : NestId) (s : State) : (startSweep n s).tkc = s.tkc := by
  simp only [startSweep]; (repeat' split) <;> simp
@[simp] theorem startSweep_bmu (n : NestId) (s : State) : (startSweep n s).bmu = s.bmu := by
  simp only [startSweep]; (repeat' split) <;> simp
@[simp] theorem startSweep_yct (n : NestId) (s : State) : (startSweep n s).yct = s.yct := by
  simp only [startSweep]; (repeat' split) <;> simp
@[simp] theorem startSweep_ltc (n : NestId) (s : State) : (startSweep n s).ltc = s.ltc := by
  simp only [startSweep]; (repeat' split) <;> simp
@[simp] theorem startSweep_flg (n : NestId) (s : State) : (startSweep n s).flg = s.flg := by
  simp only [startSweep]; (repeat' split) <;> simp
@[simp] theorem startSweep_svc (n : NestId) (s : State) : (startSweep n s).svc = s.svc := by
  simp only [startSweep]; (repeat' split) <;> simp
@[simp] theorem startSweep_free (n : NestId) (s : State) : (startSweep n s).free = s.free := by
  simp only [startSweep]; (repeat' split) <;> simp
@[simp] theorem startSweep_pending (n : NestId) (s : State) : (startSweep n s).pending = s.pending := by
  simp only [startSweep]; (repeat' split) <;> simp
@[simp] theorem startSweep_nest (n : NestId) (s : State) (m : NestId) : (startSweep n s).nest m = s.nest m := by
  simp [State.nest]
@[simp] theorem startSweep_ctx_other (n : NestId) (s : State) {m : NestId} (hm : m ≠ n) :
    (startSweep n s).ctx m = s.ctx m := by
  simp only [startSweep]; (repeat' split) <;> simp [hm]
@[simp] theorem startSweep_ana_other (n : NestId) (s : State) {m : NestId} (hm : m ≠ n) :
    (startSweep n s).ana m = s.ana m := by
  simp only [startSweep]; (repeat' split) <;> simp [hm]
@[simp] theorem startSweep_tally (n : NestId) (s : State) (m : NestId) : (startSweep n s).tally m = s.tally m := by
  simp [State.tally]
@[simp] theorem startSweep_now (n : NestId) (s : State) : (startSweep n s).now = s.now := by
  simp [State.now, State.lastFrame]
@[simp] theorem startSweep_lot (n : NestId) (s : State) : (startSweep n s).lot = s.lot := by
  simp [State.lot]

/-! ### drainCheck -/

@[simp] theorem drainCheck_tmb (s : State) : (drainCheck s).tmb = s.tmb := by
  simp only [drainCheck]; (repeat' split) <;> simp
@[simp] theorem drainCheck_swg (s : State) : (drainCheck s).swg = s.swg := by
  simp only [drainCheck]; (repeat' split) <;> simp
@[simp] theorem drainCheck_fli (s : State) : (drainCheck s).fli = s.fli := by
  simp only [drainCheck]; (repeat' split) <;> simp
@[simp] theorem drainCheck_bka (s : State) : (drainCheck s).bka = s.bka := by
  simp only [drainCheck]; (repeat' split) <;> simp
@[simp] theorem drainCheck_gdm (s : State) : (drainCheck s).gdm = s.gdm := by
  simp only [drainCheck]; (repeat' split) <;> simp
@[simp] theorem drainCheck_jdu (s : State) : (drainCheck s).jdu = s.jdu := by
  simp only [drainCheck]; (repeat' split) <;> simp
@[simp] theorem drainCheck_tkc (s : State) : (drainCheck s).tkc = s.tkc := by
  simp only [drainCheck]; (repeat' split) <;> simp
@[simp] theorem drainCheck_bmu (s : State) : (drainCheck s).bmu = s.bmu := by
  simp only [drainCheck]; (repeat' split) <;> simp
@[simp] theorem drainCheck_yct (s : State) : (drainCheck s).yct = s.yct := by
  simp only [drainCheck]; (repeat' split) <;> simp
@[simp] theorem drainCheck_free (s : State) : (drainCheck s).free = s.free := by
  simp only [drainCheck]; (repeat' split) <;> simp
@[simp] theorem drainCheck_pending (s : State) : (drainCheck s).pending = s.pending := by
  simp only [drainCheck]; (repeat' split) <;> simp
@[simp] theorem drainCheck_nest (s : State) (m : NestId) : (drainCheck s).nest m = s.nest m := by
  simp [State.nest]
@[simp] theorem drainCheck_ctx (s : State) (m : NestId) : (drainCheck s).ctx m = s.ctx m := by
  simp [State.ctx]
@[simp] theorem drainCheck_ana (s : State) (m : NestId) : (drainCheck s).ana m = s.ana m := by
  simp [State.ana]
@[simp] theorem drainCheck_tally (s : State) (m : NestId) : (drainCheck s).tally m = s.tally m := by
  simp [State.tally]
@[simp] theorem drainCheck_now (s : State) : (drainCheck s).now = s.now := by
  simp [State.now, State.lastFrame]

/-! ### startCheck -/

@[simp] theorem startCheck_tmb (n : NestId) (s : State) : (startCheck n s).tmb = s.tmb := by
  simp only [startCheck]; (repeat' split) <;> simp
@[simp] theorem startCheck_fli (n : NestId) (s : State) : (startCheck n s).fli = s.fli := by
  simp only [startCheck]; (repeat' split) <;> simp
@[simp] theorem startCheck_gdm (n : NestId) (s : State) : (startCheck n s).gdm = s.gdm := by
  simp only [startCheck]; (repeat' split) <;> simp
@[simp] theorem startCheck_jdu (n : NestId) (s : State) : (startCheck n s).jdu = s.jdu := by
  simp only [startCheck]; (repeat' split) <;> simp
@[simp] theorem startCheck_bmu (n : NestId) (s : State) : (startCheck n s).bmu = s.bmu := by
  simp only [startCheck]; (repeat' split) <;> simp
@[simp] theorem startCheck_yct (n : NestId) (s : State) : (startCheck n s).yct = s.yct := by
  simp only [startCheck]; (repeat' split) <;> simp
@[simp] theorem startCheck_ltc (n : NestId) (s : State) : (startCheck n s).ltc = s.ltc := by
  simp only [startCheck]; (repeat' split) <;> simp
@[simp] theorem startCheck_flg (n : NestId) (s : State) : (startCheck n s).flg = s.flg := by
  simp only [startCheck]; (repeat' split) <;> simp
@[simp] theorem startCheck_svc (n : NestId) (s : State) : (startCheck n s).svc = s.svc := by
  simp only [startCheck]; (repeat' split) <;> simp
@[simp] theorem startCheck_free (n : NestId) (s : State) : (startCheck n s).free = s.free := by
  simp only [startCheck]; (repeat' split) <;> simp
@[simp] theorem startCheck_pending (n : NestId) (s : State) : (startCheck n s).pending = s.pending := by
  simp only [startCheck]; (repeat' split) <;> simp
@[simp] theorem eachNest_startCheck_tmb (s : State) : (State.eachNest startCheck s).tmb = s.tmb :=
  eachNest_field (p := fun s => s.tmb) (fun n s => startCheck_tmb n s) s
@[simp] theorem eachNest_startCheck_fli (s : State) : (State.eachNest startCheck s).fli = s.fli :=
  eachNest_field (p := fun s => s.fli) (fun n s => startCheck_fli n s) s
@[simp] theorem eachNest_startCheck_gdm (s : State) : (State.eachNest startCheck s).gdm = s.gdm :=
  eachNest_field (p := fun s => s.gdm) (fun n s => startCheck_gdm n s) s
@[simp] theorem eachNest_startCheck_jdu (s : State) : (State.eachNest startCheck s).jdu = s.jdu :=
  eachNest_field (p := fun s => s.jdu) (fun n s => startCheck_jdu n s) s
@[simp] theorem eachNest_startCheck_bmu (s : State) : (State.eachNest startCheck s).bmu = s.bmu :=
  eachNest_field (p := fun s => s.bmu) (fun n s => startCheck_bmu n s) s
@[simp] theorem eachNest_startCheck_yct (s : State) : (State.eachNest startCheck s).yct = s.yct :=
  eachNest_field (p := fun s => s.yct) (fun n s => startCheck_yct n s) s
@[simp] theorem eachNest_startCheck_ltc (s : State) : (State.eachNest startCheck s).ltc = s.ltc :=
  eachNest_field (p := fun s => s.ltc) (fun n s => startCheck_ltc n s) s
@[simp] theorem eachNest_startCheck_flg (s : State) : (State.eachNest startCheck s).flg = s.flg :=
  eachNest_field (p := fun s => s.flg) (fun n s => startCheck_flg n s) s
@[simp] theorem eachNest_startCheck_svc (s : State) : (State.eachNest startCheck s).svc = s.svc :=
  eachNest_field (p := fun s => s.svc) (fun n s => startCheck_svc n s) s
@[simp] theorem eachNest_startCheck_free (s : State) : (State.eachNest startCheck s).free = s.free :=
  eachNest_field (p := fun s => s.free) (fun n s => startCheck_free n s) s
@[simp] theorem eachNest_startCheck_pending (s : State) : (State.eachNest startCheck s).pending = s.pending :=
  eachNest_field (p := fun s => s.pending) (fun n s => startCheck_pending n s) s
@[simp] theorem startCheck_nest_other (n : NestId) (s : State) {m : NestId} (hm : m ≠ n) :
    (startCheck n s).nest m = s.nest m := by
  simp only [startCheck]; (repeat' split) <;> simp [hm]
@[simp] theorem startCheck_ctx_other (n : NestId) (s : State) {m : NestId} (hm : m ≠ n) :
    (startCheck n s).ctx m = s.ctx m := by
  simp only [startCheck]; (repeat' split) <;> simp [hm]
@[simp] theorem startCheck_ana_other (n : NestId) (s : State) {m : NestId} (hm : m ≠ n) :
    (startCheck n s).ana m = s.ana m := by
  simp only [startCheck]; (repeat' split) <;> simp [hm]
@[simp] theorem startCheck_tally (n : NestId) (s : State) (m : NestId) : (startCheck n s).tally m = s.tally m := by
  simp [State.tally]
@[simp] theorem startCheck_now (n : NestId) (s : State) : (startCheck n s).now = s.now := by
  simp [State.now, State.lastFrame]
@[simp] theorem startCheck_lot (n : NestId) (s : State) : (startCheck n s).lot = s.lot := by
  simp [State.lot]

/-! ### driveEnded -/

@[simp] theorem driveEnded_tmb (n : NestId) (last : Option Nat) (s : State) : (driveEnded n last s).tmb = s.tmb := by
  simp only [driveEnded]; (repeat' split) <;> simp
@[simp] theorem driveEnded_fli (n : NestId) (last : Option Nat) (s : State) : (driveEnded n last s).fli = s.fli := by
  simp only [driveEnded]; (repeat' split) <;> simp
@[simp] theorem driveEnded_gdm (n : NestId) (last : Option Nat) (s : State) : (driveEnded n last s).gdm = s.gdm := by
  simp only [driveEnded]; (repeat' split) <;> simp
@[simp] theorem driveEnded_jdu (n : NestId) (last : Option Nat) (s : State) : (driveEnded n last s).jdu = s.jdu := by
  simp only [driveEnded]; (repeat' split) <;> simp
@[simp] theorem driveEnded_bmu (n : NestId) (last : Option Nat) (s : State) : (driveEnded n last s).bmu = s.bmu := by
  simp only [driveEnded]; (repeat' split) <;> simp
@[simp] theorem driveEnded_yct (n : NestId) (last : Option Nat) (s : State) : (driveEnded n last s).yct = s.yct := by
  simp only [driveEnded]; (repeat' split) <;> simp
@[simp] theorem driveEnded_ltc (n : NestId) (last : Option Nat) (s : State) : (driveEnded n last s).ltc = s.ltc := by
  simp only [driveEnded]; (repeat' split) <;> simp
@[simp] theorem driveEnded_flg (n : NestId) (last : Option Nat) (s : State) : (driveEnded n last s).flg = s.flg := by
  simp only [driveEnded]; (repeat' split) <;> simp
@[simp] theorem driveEnded_svc (n : NestId) (last : Option Nat) (s : State) : (driveEnded n last s).svc = s.svc := by
  simp only [driveEnded]; (repeat' split) <;> simp
@[simp] theorem driveEnded_free (n : NestId) (last : Option Nat) (s : State) : (driveEnded n last s).free = s.free := by
  simp only [driveEnded]; (repeat' split) <;> simp
@[simp] theorem driveEnded_pending (n : NestId) (last : Option Nat) (s : State) : (driveEnded n last s).pending = s.pending := by
  simp only [driveEnded]; (repeat' split) <;> simp
@[simp] theorem driveEnded_nest_other (n : NestId) (last : Option Nat) (s : State) {m : NestId} (hm : m ≠ n) :
    (driveEnded n last s).nest m = s.nest m := by
  simp only [driveEnded]; (repeat' split) <;> simp [hm]
@[simp] theorem driveEnded_ctx_other (n : NestId) (last : Option Nat) (s : State) {m : NestId} (hm : m ≠ n) :
    (driveEnded n last s).ctx m = s.ctx m := by
  simp only [driveEnded]; (repeat' split) <;> simp [hm]
@[simp] theorem driveEnded_ana_other (n : NestId) (last : Option Nat) (s : State) {m : NestId} (hm : m ≠ n) :
    (driveEnded n last s).ana m = s.ana m := by
  simp only [driveEnded]; (repeat' split) <;> simp [hm]
@[simp] theorem driveEnded_tally (n : NestId) (last : Option Nat) (s : State) (m : NestId) : (driveEnded n last s).tally m = s.tally m := by
  simp [State.tally]
@[simp] theorem driveEnded_now (n : NestId) (last : Option Nat) (s : State) : (driveEnded n last s).now = s.now := by
  simp [State.now, State.lastFrame]
@[simp] theorem driveEnded_lot (n : NestId) (last : Option Nat) (s : State) : (driveEnded n last s).lot = s.lot := by
  simp [State.lot]

/-! ### stopSweep -/

@[simp] theorem stopSweep_tmb (n : NestId) (s : State) : (stopSweep n s).tmb = s.tmb := by
  simp only [stopSweep]; (repeat' split) <;> simp
@[simp] theorem stopSweep_fli (n : NestId) (s : State) : (stopSweep n s).fli = s.fli := by
  simp only [stopSweep]; (repeat' split) <;> simp
@[simp] theorem stopSweep_gdm (n : NestId) (s : State) : (stopSweep n s).gdm = s.gdm := by
  simp only [stopSweep]; (repeat' split) <;> simp
@[simp] theorem stopSweep_jdu (n : NestId) (s : State) : (stopSweep n s).jdu = s.jdu := by
  simp only [stopSweep]; (repeat' split) <;> simp
@[simp] theorem stopSweep_bmu (n : NestId) (s : State) : (stopSweep n s).bmu = s.bmu := by
  simp only [stopSweep]; (repeat' split) <;> simp
@[simp] theorem stopSweep_yct (n : NestId) (s : State) : (stopSweep n s).yct = s.yct := by
  simp only [stopSweep]; (repeat' split) <;> simp
@[simp] theorem stopSweep_ltc (n : NestId) (s : State) : (stopSweep n s).ltc = s.ltc := by
  simp only [stopSweep]; (repeat' split) <;> simp
@[simp] theorem stopSweep_flg (n : NestId) (s : State) : (stopSweep n s).flg = s.flg := by
  simp only [stopSweep]; (repeat' split) <;> simp
@[simp] theorem stopSweep_svc (n : NestId) (s : State) : (stopSweep n s).svc = s.svc := by
  simp only [stopSweep]; (repeat' split) <;> simp
@[simp] theorem stopSweep_free (n : NestId) (s : State) : (stopSweep n s).free = s.free := by
  simp only [stopSweep]; (repeat' split) <;> simp
@[simp] theorem stopSweep_pending (n : NestId) (s : State) : (stopSweep n s).pending = s.pending := by
  simp only [stopSweep]; (repeat' split) <;> simp
@[simp] theorem stopSweep_nest_other (n : NestId) (s : State) {m : NestId} (hm : m ≠ n) :
    (stopSweep n s).nest m = s.nest m := by
  simp only [stopSweep]; (repeat' split) <;> simp [hm]
@[simp] theorem stopSweep_ctx_other (n : NestId) (s : State) {m : NestId} (hm : m ≠ n) :
    (stopSweep n s).ctx m = s.ctx m := by
  simp only [stopSweep]; (repeat' split) <;> simp [hm]
@[simp] theorem stopSweep_ana_other (n : NestId) (s : State) {m : NestId} (hm : m ≠ n) :
    (stopSweep n s).ana m = s.ana m := by
  simp only [stopSweep]; (repeat' split) <;> simp [hm]
@[simp] theorem stopSweep_tally (n : NestId) (s : State) (m : NestId) : (stopSweep n s).tally m = s.tally m := by
  simp [State.tally]
@[simp] theorem stopSweep_now (n : NestId) (s : State) : (stopSweep n s).now = s.now := by
  simp [State.now, State.lastFrame]
@[simp] theorem stopSweep_lot (n : NestId) (s : State) : (stopSweep n s).lot = s.lot := by
  simp [State.lot]

/-! ### propose -/

@[simp] theorem propose_tmb (n : NestId) (p : Proposal) (s : State) : (propose n p s).tmb = s.tmb := by
  simp only [propose]; (repeat' split) <;> simp
@[simp] theorem propose_fli (n : NestId) (p : Proposal) (s : State) : (propose n p s).fli = s.fli := by
  simp only [propose]; (repeat' split) <;> simp
@[simp] theorem propose_gdm (n : NestId) (p : Proposal) (s : State) : (propose n p s).gdm = s.gdm := by
  simp only [propose]; (repeat' split) <;> simp
@[simp] theorem propose_jdu (n : NestId) (p : Proposal) (s : State) : (propose n p s).jdu = s.jdu := by
  simp only [propose]; (repeat' split) <;> simp
@[simp] theorem propose_bmu (n : NestId) (p : Proposal) (s : State) : (propose n p s).bmu = s.bmu := by
  simp only [propose]; (repeat' split) <;> simp
@[simp] theorem propose_yct (n : NestId) (p : Proposal) (s : State) : (propose n p s).yct = s.yct := by
  simp only [propose]; (repeat' split) <;> simp
@[simp] theorem propose_ltc (n : NestId) (p : Proposal) (s : State) : (propose n p s).ltc = s.ltc := by
  simp only [propose]; (repeat' split) <;> simp
@[simp] theorem propose_flg (n : NestId) (p : Proposal) (s : State) : (propose n p s).flg = s.flg := by
  simp only [propose]; (repeat' split) <;> simp
@[simp] theorem propose_svc (n : NestId) (p : Proposal) (s : State) : (propose n p s).svc = s.svc := by
  simp only [propose]; (repeat' split) <;> simp
@[simp] theorem propose_free (n : NestId) (p : Proposal) (s : State) : (propose n p s).free = s.free := by
  simp only [propose]; (repeat' split) <;> simp
@[simp] theorem propose_pending (n : NestId) (p : Proposal) (s : State) : (propose n p s).pending = s.pending := by
  simp only [propose]; (repeat' split) <;> simp
@[simp] theorem propose_nest_other (n : NestId) (p : Proposal) (s : State) {m : NestId} (hm : m ≠ n) :
    (propose n p s).nest m = s.nest m := by
  simp only [propose]; (repeat' split) <;> simp [hm]
@[simp] theorem propose_ctx_other (n : NestId) (p : Proposal) (s : State) {m : NestId} (hm : m ≠ n) :
    (propose n p s).ctx m = s.ctx m := by
  simp only [propose]; (repeat' split) <;> simp [hm]
@[simp] theorem propose_ana_other (n : NestId) (p : Proposal) (s : State) {m : NestId} (hm : m ≠ n) :
    (propose n p s).ana m = s.ana m := by
  simp only [propose]; (repeat' split) <;> simp [hm]
@[simp] theorem propose_tally (n : NestId) (p : Proposal) (s : State) (m : NestId) : (propose n p s).tally m = s.tally m := by
  simp [State.tally]
@[simp] theorem propose_now (n : NestId) (p : Proposal) (s : State) : (propose n p s).now = s.now := by
  simp [State.now, State.lastFrame]
@[simp] theorem propose_lot (n : NestId) (p : Proposal) (s : State) : (propose n p s).lot = s.lot := by
  simp [State.lot]

/-! ### abortTicket -/

@[simp] theorem abortTicket_tmb (n : NestId) (s : State) : (abortTicket n s).tmb = s.tmb := by
  simp [abortTicket]
@[simp] theorem abortTicket_fli (n : NestId) (s : State) : (abortTicket n s).fli = s.fli := by
  simp [abortTicket]
@[simp] theorem abortTicket_gdm (n : NestId) (s : State) : (abortTicket n s).gdm = s.gdm := by
  simp [abortTicket]
@[simp] theorem abortTicket_jdu (n : NestId) (s : State) : (abortTicket n s).jdu = s.jdu := by
  simp [abortTicket]
@[simp] theorem abortTicket_bmu (n : NestId) (s : State) : (abortTicket n s).bmu = s.bmu := by
  simp [abortTicket]
@[simp] theorem abortTicket_yct (n : NestId) (s : State) : (abortTicket n s).yct = s.yct := by
  simp [abortTicket]
@[simp] theorem abortTicket_ltc (n : NestId) (s : State) : (abortTicket n s).ltc = s.ltc := by
  simp [abortTicket]
@[simp] theorem abortTicket_flg (n : NestId) (s : State) : (abortTicket n s).flg = s.flg := by
  simp [abortTicket]
@[simp] theorem abortTicket_svc (n : NestId) (s : State) : (abortTicket n s).svc = s.svc := by
  simp [abortTicket]
@[simp] theorem abortTicket_free (n : NestId) (s : State) : (abortTicket n s).free = s.free := by
  simp [abortTicket]
@[simp] theorem abortTicket_pending (n : NestId) (s : State) : (abortTicket n s).pending = s.pending := by
  simp [abortTicket]
@[simp] theorem abortTicket_nest_other (n : NestId) (s : State) {m : NestId} (hm : m ≠ n) :
    (abortTicket n s).nest m = s.nest m := by
  simp only [abortTicket]; (repeat' split) <;> simp [hm]
@[simp] theorem abortTicket_ctx_other (n : NestId) (s : State) {m : NestId} (hm : m ≠ n) :
    (abortTicket n s).ctx m = s.ctx m := by
  simp only [abortTicket]; (repeat' split) <;> simp [hm]
@[simp] theorem abortTicket_ana_other (n : NestId) (s : State) {m : NestId} (hm : m ≠ n) :
    (abortTicket n s).ana m = s.ana m := by
  simp only [abortTicket]; (repeat' split) <;> simp [hm]
@[simp] theorem abortTicket_tally (n : NestId) (s : State) (m : NestId) : (abortTicket n s).tally m = s.tally m := by
  simp [State.tally]
@[simp] theorem abortTicket_now (n : NestId) (s : State) : (abortTicket n s).now = s.now := by
  simp [State.now, State.lastFrame]
@[simp] theorem abortTicket_lot (n : NestId) (s : State) : (abortTicket n s).lot = s.lot := by
  simp [State.lot]

/-! ### openTicket -/

@[simp] theorem openTicket_tmb (n : NestId) (b : Binding) (s : State) : (openTicket n b s).tmb = s.tmb := by
  simp [openTicket]
@[simp] theorem openTicket_gdm (n : NestId) (b : Binding) (s : State) : (openTicket n b s).gdm = s.gdm := by
  simp [openTicket]
@[simp] theorem openTicket_bmu (n : NestId) (b : Binding) (s : State) : (openTicket n b s).bmu = s.bmu := by
  simp [openTicket]
@[simp] theorem openTicket_flg (n : NestId) (b : Binding) (s : State) : (openTicket n b s).flg = s.flg := by
  simp [openTicket]
@[simp] theorem openTicket_svc (n : NestId) (b : Binding) (s : State) : (openTicket n b s).svc = s.svc := by
  simp [openTicket]
@[simp] theorem openTicket_free (n : NestId) (b : Binding) (s : State) : (openTicket n b s).free = s.free := by
  simp [openTicket]
@[simp] theorem openTicket_pending (n : NestId) (b : Binding) (s : State) : (openTicket n b s).pending = s.pending := by
  simp [openTicket]
@[simp] theorem openTicket_nest_other (n : NestId) (b : Binding) (s : State) {m : NestId} (hm : m ≠ n) :
    (openTicket n b s).nest m = s.nest m := by
  simp only [openTicket]; (repeat' split) <;> simp [hm]
@[simp] theorem openTicket_ctx_other (n : NestId) (b : Binding) (s : State) {m : NestId} (hm : m ≠ n) :
    (openTicket n b s).ctx m = s.ctx m := by
  simp only [openTicket]; (repeat' split) <;> simp [hm]
@[simp] theorem openTicket_ana_other (n : NestId) (b : Binding) (s : State) {m : NestId} (hm : m ≠ n) :
    (openTicket n b s).ana m = s.ana m := by
  simp only [openTicket]; (repeat' split) <;> simp [hm]
@[simp] theorem openTicket_tally_other (n : NestId) (b : Binding) (s : State) {m : NestId} (hm : m ≠ n) :
    (openTicket n b s).tally m = s.tally m := by
  simp only [openTicket]; (repeat' split) <;> simp [hm]
@[simp] theorem openTicket_now (n : NestId) (b : Binding) (s : State) : (openTicket n b s).now = s.now := by
  simp [State.now, State.lastFrame]

/-! ### retireTicket -/

@[simp] theorem retireTicket_tmb (n : NestId) (s : State) : (retireTicket n s).tmb = s.tmb := by
  simp [retireTicket]
@[simp] theorem retireTicket_swg (n : NestId) (s : State) : (retireTicket n s).swg = s.swg := by
  simp [retireTicket]
@[simp] theorem retireTicket_fli (n : NestId) (s : State) : (retireTicket n s).fli = s.fli := by
  simp [retireTicket]
@[simp] theorem retireTicket_bka (n : NestId) (s : State) : (retireTicket n s).bka = s.bka := by
  simp [retireTicket]
@[simp] theorem retireTicket_gdm (n : NestId) (s : State) : (retireTicket n s).gdm = s.gdm := by
  simp [retireTicket]
@[simp] theorem retireTicket_jdu (n : NestId) (s : State) : (retireTicket n s).jdu = s.jdu := by
  simp [retireTicket]
@[simp] theorem retireTicket_bmu (n : NestId) (s : State) : (retireTicket n s).bmu = s.bmu := by
  simp [retireTicket]
@[simp] theorem retireTicket_yct (n : NestId) (s : State) : (retireTicket n s).yct = s.yct := by
  simp [retireTicket]
@[simp] theorem retireTicket_free (n : NestId) (s : State) : (retireTicket n s).free = s.free := by
  simp [retireTicket]
@[simp] theorem retireTicket_pending (n : NestId) (s : State) : (retireTicket n s).pending = s.pending := by
  simp [retireTicket]
@[simp] theorem retireTicket_nest_other (n : NestId) (s : State) {m : NestId} (hm : m ≠ n) :
    (retireTicket n s).nest m = s.nest m := by
  simp only [retireTicket]; (repeat' split) <;> simp [hm]
@[simp] theorem retireTicket_ctx (n : NestId) (s : State) (m : NestId) : (retireTicket n s).ctx m = s.ctx m := by
  simp [State.ctx]
@[simp] theorem retireTicket_ana (n : NestId) (s : State) (m : NestId) : (retireTicket n s).ana m = s.ana m := by
  simp [State.ana]
@[simp] theorem retireTicket_tally (n : NestId) (s : State) (m : NestId) : (retireTicket n s).tally m = s.tally m := by
  simp [State.tally]
@[simp] theorem retireTicket_now (n : NestId) (s : State) : (retireTicket n s).now = s.now := by
  simp [State.now, State.lastFrame]

/-! ### enterUnload -/

@[simp] theorem enterUnload_tmb (n : NestId) (s : State) : (enterUnload n s).tmb = s.tmb := by
  simp only [enterUnload]; (repeat' split) <;> simp
@[simp] theorem enterUnload_swg (n : NestId) (s : State) : (enterUnload n s).swg = s.swg := by
  simp only [enterUnload]; (repeat' split) <;> simp
@[simp] theorem enterUnload_fli (n : NestId) (s : State) : (enterUnload n s).fli = s.fli := by
  simp only [enterUnload]; (repeat' split) <;> simp
@[simp] theorem enterUnload_bka (n : NestId) (s : State) : (enterUnload n s).bka = s.bka := by
  simp only [enterUnload]; (repeat' split) <;> simp
@[simp] theorem enterUnload_gdm (n : NestId) (s : State) : (enterUnload n s).gdm = s.gdm := by
  simp only [enterUnload]; (repeat' split) <;> simp
@[simp] theorem enterUnload_jdu (n : NestId) (s : State) : (enterUnload n s).jdu = s.jdu := by
  simp only [enterUnload]; (repeat' split) <;> simp
@[simp] theorem enterUnload_bmu (n : NestId) (s : State) : (enterUnload n s).bmu = s.bmu := by
  simp only [enterUnload]; (repeat' split) <;> simp
@[simp] theorem enterUnload_yct (n : NestId) (s : State) : (enterUnload n s).yct = s.yct := by
  simp only [enterUnload]; (repeat' split) <;> simp
@[simp] theorem enterUnload_free (n : NestId) (s : State) : (enterUnload n s).free = s.free := by
  simp only [enterUnload]; (repeat' split) <;> simp
@[simp] theorem enterUnload_pending (n : NestId) (s : State) : (enterUnload n s).pending = s.pending := by
  simp only [enterUnload]; (repeat' split) <;> simp
@[simp] theorem enterUnload_nest_other (n : NestId) (s : State) {m : NestId} (hm : m ≠ n) :
    (enterUnload n s).nest m = s.nest m := by
  simp only [enterUnload]; (repeat' split) <;> simp [hm]
@[simp] theorem enterUnload_ctx (n : NestId) (s : State) (m : NestId) : (enterUnload n s).ctx m = s.ctx m := by
  simp [State.ctx]
@[simp] theorem enterUnload_ana (n : NestId) (s : State) (m : NestId) : (enterUnload n s).ana m = s.ana m := by
  simp [State.ana]
@[simp] theorem enterUnload_tally (n : NestId) (s : State) (m : NestId) : (enterUnload n s).tally m = s.tally m := by
  simp [State.tally]
@[simp] theorem enterUnload_now (n : NestId) (s : State) : (enterUnload n s).now = s.now := by
  simp [State.now, State.lastFrame]

/-! ### review -/

@[simp] theorem review_tmb (n : NestId) (b : Binding) (s : State) : (review n b s).tmb = s.tmb := by
  simp only [review]; (repeat' split) <;> simp
@[simp] theorem review_fli (n : NestId) (b : Binding) (s : State) : (review n b s).fli = s.fli := by
  simp only [review]; (repeat' split) <;> simp
@[simp] theorem review_gdm (n : NestId) (b : Binding) (s : State) : (review n b s).gdm = s.gdm := by
  simp only [review]; (repeat' split) <;> simp
@[simp] theorem review_jdu (n : NestId) (b : Binding) (s : State) : (review n b s).jdu = s.jdu := by
  simp only [review]; (repeat' split) <;> simp
@[simp] theorem review_bmu (n : NestId) (b : Binding) (s : State) : (review n b s).bmu = s.bmu := by
  simp only [review]; (repeat' split) <;> simp
@[simp] theorem review_yct (n : NestId) (b : Binding) (s : State) : (review n b s).yct = s.yct := by
  simp only [review]; (repeat' split) <;> simp
@[simp] theorem review_ltc (n : NestId) (b : Binding) (s : State) : (review n b s).ltc = s.ltc := by
  simp only [review]; (repeat' split) <;> simp
@[simp] theorem review_flg (n : NestId) (b : Binding) (s : State) : (review n b s).flg = s.flg := by
  simp only [review]; (repeat' split) <;> simp
@[simp] theorem review_svc (n : NestId) (b : Binding) (s : State) : (review n b s).svc = s.svc := by
  simp only [review]; (repeat' split) <;> simp
@[simp] theorem review_free (n : NestId) (b : Binding) (s : State) : (review n b s).free = s.free := by
  simp only [review]; (repeat' split) <;> simp
@[simp] theorem review_pending (n : NestId) (b : Binding) (s : State) : (review n b s).pending = s.pending := by
  simp only [review]; (repeat' split) <;> simp
@[simp] theorem review_nest_other (n : NestId) (b : Binding) (s : State) {m : NestId} (hm : m ≠ n) :
    (review n b s).nest m = s.nest m := by
  simp only [review]; (repeat' split) <;> simp [hm]
@[simp] theorem review_ctx_other (n : NestId) (b : Binding) (s : State) {m : NestId} (hm : m ≠ n) :
    (review n b s).ctx m = s.ctx m := by
  simp only [review]; (repeat' split) <;> simp [hm]
@[simp] theorem review_ana_other (n : NestId) (b : Binding) (s : State) {m : NestId} (hm : m ≠ n) :
    (review n b s).ana m = s.ana m := by
  simp only [review]; (repeat' split) <;> simp [hm]
@[simp] theorem review_tally (n : NestId) (b : Binding) (s : State) (m : NestId) : (review n b s).tally m = s.tally m := by
  simp [State.tally]
@[simp] theorem review_now (n : NestId) (b : Binding) (s : State) : (review n b s).now = s.now := by
  simp [State.now, State.lastFrame]
@[simp] theorem review_lot (n : NestId) (b : Binding) (s : State) : (review n b s).lot = s.lot := by
  simp [State.lot]

/-! ### enterReport -/

@[simp] theorem enterReport_tmb (n : NestId) (b : Binding) (t : Ticket) (f : Final) (s : State) : (enterReport n b t f s).tmb = s.tmb := by
  simp [enterReport]
@[simp] theorem enterReport_swg (n : NestId) (b : Binding) (t : Ticket) (f : Final) (s : State) : (enterReport n b t f s).swg = s.swg := by
  simp [enterReport]
@[simp] theorem enterReport_fli (n : NestId) (b : Binding) (t : Ticket) (f : Final) (s : State) : (enterReport n b t f s).fli = s.fli := by
  simp [enterReport]
@[simp] theorem enterReport_bka (n : NestId) (b : Binding) (t : Ticket) (f : Final) (s : State) : (enterReport n b t f s).bka = s.bka := by
  simp [enterReport]
@[simp] theorem enterReport_gdm (n : NestId) (b : Binding) (t : Ticket) (f : Final) (s : State) : (enterReport n b t f s).gdm = s.gdm := by
  simp [enterReport]
@[simp] theorem enterReport_jdu (n : NestId) (b : Binding) (t : Ticket) (f : Final) (s : State) : (enterReport n b t f s).jdu = s.jdu := by
  simp [enterReport]
@[simp] theorem enterReport_bmu (n : NestId) (b : Binding) (t : Ticket) (f : Final) (s : State) : (enterReport n b t f s).bmu = s.bmu := by
  simp [enterReport]
@[simp] theorem enterReport_yct (n : NestId) (b : Binding) (t : Ticket) (f : Final) (s : State) : (enterReport n b t f s).yct = s.yct := by
  simp [enterReport]
@[simp] theorem enterReport_ltc (n : NestId) (b : Binding) (t : Ticket) (f : Final) (s : State) : (enterReport n b t f s).ltc = s.ltc := by
  simp [enterReport]
@[simp] theorem enterReport_flg (n : NestId) (b : Binding) (t : Ticket) (f : Final) (s : State) : (enterReport n b t f s).flg = s.flg := by
  simp [enterReport]
@[simp] theorem enterReport_svc (n : NestId) (b : Binding) (t : Ticket) (f : Final) (s : State) : (enterReport n b t f s).svc = s.svc := by
  simp [enterReport]
@[simp] theorem enterReport_free (n : NestId) (b : Binding) (t : Ticket) (f : Final) (s : State) : (enterReport n b t f s).free = s.free := by
  simp [enterReport]
@[simp] theorem enterReport_pending (n : NestId) (b : Binding) (t : Ticket) (f : Final) (s : State) : (enterReport n b t f s).pending = s.pending := by
  simp [enterReport]
@[simp] theorem enterReport_nest_other (n : NestId) (b : Binding) (t : Ticket) (f : Final) (s : State) {m : NestId} (hm : m ≠ n) :
    (enterReport n b t f s).nest m = s.nest m := by
  simp only [enterReport]; (repeat' split) <;> simp [hm]
@[simp] theorem enterReport_ctx (n : NestId) (b : Binding) (t : Ticket) (f : Final) (s : State) (m : NestId) : (enterReport n b t f s).ctx m = s.ctx m := by
  simp [State.ctx]
@[simp] theorem enterReport_ana (n : NestId) (b : Binding) (t : Ticket) (f : Final) (s : State) (m : NestId) : (enterReport n b t f s).ana m = s.ana m := by
  simp [State.ana]
@[simp] theorem enterReport_tally (n : NestId) (b : Binding) (t : Ticket) (f : Final) (s : State) (m : NestId) : (enterReport n b t f s).tally m = s.tally m := by
  simp [State.tally]
@[simp] theorem enterReport_now (n : NestId) (b : Binding) (t : Ticket) (f : Final) (s : State) : (enterReport n b t f s).now = s.now := by
  simp [State.now, State.lastFrame]
@[simp] theorem enterReport_lot (n : NestId) (b : Binding) (t : Ticket) (f : Final) (s : State) : (enterReport n b t f s).lot = s.lot := by
  simp [State.lot]

/-! ### startRetest -/

@[simp] theorem startRetest_tmb (n : NestId) (b : Binding) (t : Ticket) (s : State) : (startRetest n b t s).tmb = s.tmb := by
  simp [startRetest]
@[simp] theorem startRetest_fli (n : NestId) (b : Binding) (t : Ticket) (s : State) : (startRetest n b t s).fli = s.fli := by
  simp [startRetest]
@[simp] theorem startRetest_gdm (n : NestId) (b : Binding) (t : Ticket) (s : State) : (startRetest n b t s).gdm = s.gdm := by
  simp [startRetest]
@[simp] theorem startRetest_bmu (n : NestId) (b : Binding) (t : Ticket) (s : State) : (startRetest n b t s).bmu = s.bmu := by
  simp [startRetest]
@[simp] theorem startRetest_ltc (n : NestId) (b : Binding) (t : Ticket) (s : State) : (startRetest n b t s).ltc = s.ltc := by
  simp [startRetest]
@[simp] theorem startRetest_flg (n : NestId) (b : Binding) (t : Ticket) (s : State) : (startRetest n b t s).flg = s.flg := by
  simp [startRetest]
@[simp] theorem startRetest_svc (n : NestId) (b : Binding) (t : Ticket) (s : State) : (startRetest n b t s).svc = s.svc := by
  simp [startRetest]
@[simp] theorem startRetest_free (n : NestId) (b : Binding) (t : Ticket) (s : State) : (startRetest n b t s).free = s.free := by
  simp [startRetest]
@[simp] theorem startRetest_pending (n : NestId) (b : Binding) (t : Ticket) (s : State) : (startRetest n b t s).pending = s.pending := by
  simp [startRetest]
@[simp] theorem startRetest_nest_other (n : NestId) (b : Binding) (t : Ticket) (s : State) {m : NestId} (hm : m ≠ n) :
    (startRetest n b t s).nest m = s.nest m := by
  simp only [startRetest]; (repeat' split) <;> simp [hm]
@[simp] theorem startRetest_ctx_other (n : NestId) (b : Binding) (t : Ticket) (s : State) {m : NestId} (hm : m ≠ n) :
    (startRetest n b t s).ctx m = s.ctx m := by
  simp only [startRetest]; (repeat' split) <;> simp [hm]
@[simp] theorem startRetest_ana_other (n : NestId) (b : Binding) (t : Ticket) (s : State) {m : NestId} (hm : m ≠ n) :
    (startRetest n b t s).ana m = s.ana m := by
  simp only [startRetest]; (repeat' split) <;> simp [hm]
@[simp] theorem startRetest_tally_other (n : NestId) (b : Binding) (t : Ticket) (s : State) {m : NestId} (hm : m ≠ n) :
    (startRetest n b t s).tally m = s.tally m := by
  simp only [startRetest]; (repeat' split) <;> simp [hm]
@[simp] theorem startRetest_now (n : NestId) (b : Binding) (t : Ticket) (s : State) : (startRetest n b t s).now = s.now := by
  simp [State.now, State.lastFrame]
@[simp] theorem startRetest_lot (n : NestId) (b : Binding) (t : Ticket) (s : State) : (startRetest n b t s).lot = s.lot := by
  simp [State.lot]

/-! ### closeAttempt -/

@[simp] theorem closeAttempt_tmb (n : NestId) (b : Binding) (s : State) : (closeAttempt n b s).tmb = s.tmb := by
  simp only [closeAttempt]; (repeat' split) <;> simp
@[simp] theorem closeAttempt_fli (n : NestId) (b : Binding) (s : State) : (closeAttempt n b s).fli = s.fli := by
  simp only [closeAttempt]; (repeat' split) <;> simp
@[simp] theorem closeAttempt_gdm (n : NestId) (b : Binding) (s : State) : (closeAttempt n b s).gdm = s.gdm := by
  simp only [closeAttempt]; (repeat' split) <;> simp
@[simp] theorem closeAttempt_bmu (n : NestId) (b : Binding) (s : State) : (closeAttempt n b s).bmu = s.bmu := by
  simp only [closeAttempt]; (repeat' split) <;> simp
@[simp] theorem closeAttempt_ltc (n : NestId) (b : Binding) (s : State) : (closeAttempt n b s).ltc = s.ltc := by
  simp only [closeAttempt]; (repeat' split) <;> simp
@[simp] theorem closeAttempt_flg (n : NestId) (b : Binding) (s : State) : (closeAttempt n b s).flg = s.flg := by
  simp only [closeAttempt]; (repeat' split) <;> simp
@[simp] theorem closeAttempt_svc (n : NestId) (b : Binding) (s : State) : (closeAttempt n b s).svc = s.svc := by
  simp only [closeAttempt]; (repeat' split) <;> simp
@[simp] theorem closeAttempt_free (n : NestId) (b : Binding) (s : State) : (closeAttempt n b s).free = s.free := by
  simp only [closeAttempt]; (repeat' split) <;> simp
@[simp] theorem closeAttempt_pending (n : NestId) (b : Binding) (s : State) : (closeAttempt n b s).pending = s.pending := by
  simp only [closeAttempt]; (repeat' split) <;> simp
@[simp] theorem closeAttempt_nest_other (n : NestId) (b : Binding) (s : State) {m : NestId} (hm : m ≠ n) :
    (closeAttempt n b s).nest m = s.nest m := by
  simp only [closeAttempt]; (repeat' split) <;> simp [hm]
@[simp] theorem closeAttempt_ctx_other (n : NestId) (b : Binding) (s : State) {m : NestId} (hm : m ≠ n) :
    (closeAttempt n b s).ctx m = s.ctx m := by
  simp only [closeAttempt]; (repeat' split) <;> simp [hm]
@[simp] theorem closeAttempt_ana_other (n : NestId) (b : Binding) (s : State) {m : NestId} (hm : m ≠ n) :
    (closeAttempt n b s).ana m = s.ana m := by
  simp only [closeAttempt]; (repeat' split) <;> simp [hm]
@[simp] theorem closeAttempt_tally_other (n : NestId) (b : Binding) (s : State) {m : NestId} (hm : m ≠ n) :
    (closeAttempt n b s).tally m = s.tally m := by
  simp only [closeAttempt]; (repeat' split) <;> simp [hm]
@[simp] theorem closeAttempt_now (n : NestId) (b : Binding) (s : State) : (closeAttempt n b s).now = s.now := by
  simp [State.now, State.lastFrame]
@[simp] theorem closeAttempt_lot (n : NestId) (b : Binding) (s : State) : (closeAttempt n b s).lot = s.lot := by
  simp [State.lot]

/-! ### queueReport -/

@[simp] theorem queueReport_tmb (payload : List Byte) (s : State) : (queueReport payload s).tmb = s.tmb := by
  simp [queueReport]
@[simp] theorem queueReport_swg (payload : List Byte) (s : State) : (queueReport payload s).swg = s.swg := by
  simp [queueReport]
@[simp] theorem queueReport_fli (payload : List Byte) (s : State) : (queueReport payload s).fli = s.fli := by
  simp [queueReport]
@[simp] theorem queueReport_bka (payload : List Byte) (s : State) : (queueReport payload s).bka = s.bka := by
  simp [queueReport]
@[simp] theorem queueReport_gdm (payload : List Byte) (s : State) : (queueReport payload s).gdm = s.gdm := by
  simp [queueReport]
@[simp] theorem queueReport_jdu (payload : List Byte) (s : State) : (queueReport payload s).jdu = s.jdu := by
  simp [queueReport]
@[simp] theorem queueReport_tkc (payload : List Byte) (s : State) : (queueReport payload s).tkc = s.tkc := by
  simp [queueReport]
@[simp] theorem queueReport_bmu (payload : List Byte) (s : State) : (queueReport payload s).bmu = s.bmu := by
  simp [queueReport]
@[simp] theorem queueReport_yct (payload : List Byte) (s : State) : (queueReport payload s).yct = s.yct := by
  simp [queueReport]
@[simp] theorem queueReport_ltc (payload : List Byte) (s : State) : (queueReport payload s).ltc = s.ltc := by
  simp [queueReport]
@[simp] theorem queueReport_flg (payload : List Byte) (s : State) : (queueReport payload s).flg = s.flg := by
  simp [queueReport]
@[simp] theorem queueReport_free (payload : List Byte) (s : State) : (queueReport payload s).free = s.free := by
  simp [queueReport]
@[simp] theorem queueReport_pending (payload : List Byte) (s : State) : (queueReport payload s).pending = s.pending := by
  simp [queueReport]
@[simp] theorem queueReport_nest (payload : List Byte) (s : State) (m : NestId) : (queueReport payload s).nest m = s.nest m := by
  simp [State.nest]
@[simp] theorem queueReport_ctx (payload : List Byte) (s : State) (m : NestId) : (queueReport payload s).ctx m = s.ctx m := by
  simp [State.ctx]
@[simp] theorem queueReport_ana (payload : List Byte) (s : State) (m : NestId) : (queueReport payload s).ana m = s.ana m := by
  simp [State.ana]
@[simp] theorem queueReport_tally (payload : List Byte) (s : State) (m : NestId) : (queueReport payload s).tally m = s.tally m := by
  simp [State.tally]
@[simp] theorem queueReport_now (payload : List Byte) (s : State) : (queueReport payload s).now = s.now := by
  simp [State.now, State.lastFrame]
@[simp] theorem queueReport_lot (payload : List Byte) (s : State) : (queueReport payload s).lot = s.lot := by
  simp [State.lot]

/-! ### queueJob -/

@[simp] theorem queueJob_tmb (n : NestId) (serial : Nat) (e : BinEntry) (s : State) : (queueJob n serial e s).tmb = s.tmb := by
  simp only [queueJob]; (repeat' split) <;> simp
@[simp] theorem queueJob_swg (n : NestId) (serial : Nat) (e : BinEntry) (s : State) : (queueJob n serial e s).swg = s.swg := by
  simp only [queueJob]; (repeat' split) <;> simp
@[simp] theorem queueJob_fli (n : NestId) (serial : Nat) (e : BinEntry) (s : State) : (queueJob n serial e s).fli = s.fli := by
  simp only [queueJob]; (repeat' split) <;> simp
@[simp] theorem queueJob_bka (n : NestId) (serial : Nat) (e : BinEntry) (s : State) : (queueJob n serial e s).bka = s.bka := by
  simp only [queueJob]; (repeat' split) <;> simp
@[simp] theorem queueJob_gdm (n : NestId) (serial : Nat) (e : BinEntry) (s : State) : (queueJob n serial e s).gdm = s.gdm := by
  simp only [queueJob]; (repeat' split) <;> simp
@[simp] theorem queueJob_jdu (n : NestId) (serial : Nat) (e : BinEntry) (s : State) : (queueJob n serial e s).jdu = s.jdu := by
  simp only [queueJob]; (repeat' split) <;> simp
@[simp] theorem queueJob_tkc (n : NestId) (serial : Nat) (e : BinEntry) (s : State) : (queueJob n serial e s).tkc = s.tkc := by
  simp only [queueJob]; (repeat' split) <;> simp
@[simp] theorem queueJob_yct (n : NestId) (serial : Nat) (e : BinEntry) (s : State) : (queueJob n serial e s).yct = s.yct := by
  simp only [queueJob]; (repeat' split) <;> simp
@[simp] theorem queueJob_ltc (n : NestId) (serial : Nat) (e : BinEntry) (s : State) : (queueJob n serial e s).ltc = s.ltc := by
  simp only [queueJob]; (repeat' split) <;> simp
@[simp] theorem queueJob_flg (n : NestId) (serial : Nat) (e : BinEntry) (s : State) : (queueJob n serial e s).flg = s.flg := by
  simp only [queueJob]; (repeat' split) <;> simp
@[simp] theorem queueJob_svc (n : NestId) (serial : Nat) (e : BinEntry) (s : State) : (queueJob n serial e s).svc = s.svc := by
  simp only [queueJob]; (repeat' split) <;> simp
@[simp] theorem queueJob_free (n : NestId) (serial : Nat) (e : BinEntry) (s : State) : (queueJob n serial e s).free = s.free := by
  simp only [queueJob]; (repeat' split) <;> simp
@[simp] theorem queueJob_pending (n : NestId) (serial : Nat) (e : BinEntry) (s : State) : (queueJob n serial e s).pending = s.pending := by
  simp only [queueJob]; (repeat' split) <;> simp
@[simp] theorem queueJob_nest (n : NestId) (serial : Nat) (e : BinEntry) (s : State) (m : NestId) : (queueJob n serial e s).nest m = s.nest m := by
  simp [State.nest]
@[simp] theorem queueJob_ctx (n : NestId) (serial : Nat) (e : BinEntry) (s : State) (m : NestId) : (queueJob n serial e s).ctx m = s.ctx m := by
  simp [State.ctx]
@[simp] theorem queueJob_ana (n : NestId) (serial : Nat) (e : BinEntry) (s : State) (m : NestId) : (queueJob n serial e s).ana m = s.ana m := by
  simp [State.ana]
@[simp] theorem queueJob_tally (n : NestId) (serial : Nat) (e : BinEntry) (s : State) (m : NestId) : (queueJob n serial e s).tally m = s.tally m := by
  simp [State.tally]
@[simp] theorem queueJob_now (n : NestId) (serial : Nat) (e : BinEntry) (s : State) : (queueJob n serial e s).now = s.now := by
  simp [State.now, State.lastFrame]
@[simp] theorem queueJob_lot (n : NestId) (serial : Nat) (e : BinEntry) (s : State) : (queueJob n serial e s).lot = s.lot := by
  simp [State.lot]

/-! ### tallyVerdict -/

@[simp] theorem tallyVerdict_tmb (n : NestId) (t : Ticket) (f : Final) (e : BinEntry) (tallied : Bool) (s : State) : (tallyVerdict n t f e tallied s).tmb = s.tmb := by
  simp [tallyVerdict]
@[simp] theorem tallyVerdict_swg (n : NestId) (t : Ticket) (f : Final) (e : BinEntry) (tallied : Bool) (s : State) : (tallyVerdict n t f e tallied s).swg = s.swg := by
  simp [tallyVerdict]
@[simp] theorem tallyVerdict_fli (n : NestId) (t : Ticket) (f : Final) (e : BinEntry) (tallied : Bool) (s : State) : (tallyVerdict n t f e tallied s).fli = s.fli := by
  simp [tallyVerdict]
@[simp] theorem tallyVerdict_bka (n : NestId) (t : Ticket) (f : Final) (e : BinEntry) (tallied : Bool) (s : State) : (tallyVerdict n t f e tallied s).bka = s.bka := by
  simp [tallyVerdict]
@[simp] theorem tallyVerdict_gdm (n : NestId) (t : Ticket) (f : Final) (e : BinEntry) (tallied : Bool) (s : State) : (tallyVerdict n t f e tallied s).gdm = s.gdm := by
  simp [tallyVerdict]
@[simp] theorem tallyVerdict_jdu (n : NestId) (t : Ticket) (f : Final) (e : BinEntry) (tallied : Bool) (s : State) : (tallyVerdict n t f e tallied s).jdu = s.jdu := by
  simp [tallyVerdict]
@[simp] theorem tallyVerdict_tkc (n : NestId) (t : Ticket) (f : Final) (e : BinEntry) (tallied : Bool) (s : State) : (tallyVerdict n t f e tallied s).tkc = s.tkc := by
  simp [tallyVerdict]
@[simp] theorem tallyVerdict_bmu (n : NestId) (t : Ticket) (f : Final) (e : BinEntry) (tallied : Bool) (s : State) : (tallyVerdict n t f e tallied s).bmu = s.bmu := by
  simp [tallyVerdict]
@[simp] theorem tallyVerdict_ltc (n : NestId) (t : Ticket) (f : Final) (e : BinEntry) (tallied : Bool) (s : State) : (tallyVerdict n t f e tallied s).ltc = s.ltc := by
  simp [tallyVerdict]
@[simp] theorem tallyVerdict_flg (n : NestId) (t : Ticket) (f : Final) (e : BinEntry) (tallied : Bool) (s : State) : (tallyVerdict n t f e tallied s).flg = s.flg := by
  simp [tallyVerdict]
@[simp] theorem tallyVerdict_svc (n : NestId) (t : Ticket) (f : Final) (e : BinEntry) (tallied : Bool) (s : State) : (tallyVerdict n t f e tallied s).svc = s.svc := by
  simp [tallyVerdict]
@[simp] theorem tallyVerdict_free (n : NestId) (t : Ticket) (f : Final) (e : BinEntry) (tallied : Bool) (s : State) : (tallyVerdict n t f e tallied s).free = s.free := by
  simp [tallyVerdict]
@[simp] theorem tallyVerdict_pending (n : NestId) (t : Ticket) (f : Final) (e : BinEntry) (tallied : Bool) (s : State) : (tallyVerdict n t f e tallied s).pending = s.pending := by
  simp [tallyVerdict]
@[simp] theorem tallyVerdict_nest (n : NestId) (t : Ticket) (f : Final) (e : BinEntry) (tallied : Bool) (s : State) (m : NestId) : (tallyVerdict n t f e tallied s).nest m = s.nest m := by
  simp [State.nest]
@[simp] theorem tallyVerdict_ctx (n : NestId) (t : Ticket) (f : Final) (e : BinEntry) (tallied : Bool) (s : State) (m : NestId) : (tallyVerdict n t f e tallied s).ctx m = s.ctx m := by
  simp [State.ctx]
@[simp] theorem tallyVerdict_ana (n : NestId) (t : Ticket) (f : Final) (e : BinEntry) (tallied : Bool) (s : State) (m : NestId) : (tallyVerdict n t f e tallied s).ana m = s.ana m := by
  simp [State.ana]
@[simp] theorem tallyVerdict_tally (n : NestId) (t : Ticket) (f : Final) (e : BinEntry) (tallied : Bool) (s : State) (m : NestId) : (tallyVerdict n t f e tallied s).tally m = s.tally m := by
  simp [State.tally]
@[simp] theorem tallyVerdict_now (n : NestId) (t : Ticket) (f : Final) (e : BinEntry) (tallied : Bool) (s : State) : (tallyVerdict n t f e tallied s).now = s.now := by
  simp [State.now, State.lastFrame]
@[simp] theorem tallyVerdict_lot (n : NestId) (t : Ticket) (f : Final) (e : BinEntry) (tallied : Bool) (s : State) : (tallyVerdict n t f e tallied s).lot = s.lot := by
  simp [State.lot]

/-! ### updateRun -/

@[simp] theorem updateRun_tmb (n : NestId) (b : Binding) (t : Ticket) (disp : FinalDisp) (tallied : Bool) (s : State) : (updateRun n b t disp tallied s).tmb = s.tmb := by
  simp only [updateRun]; (repeat' split) <;> simp
@[simp] theorem updateRun_swg (n : NestId) (b : Binding) (t : Ticket) (disp : FinalDisp) (tallied : Bool) (s : State) : (updateRun n b t disp tallied s).swg = s.swg := by
  simp only [updateRun]; (repeat' split) <;> simp
@[simp] theorem updateRun_fli (n : NestId) (b : Binding) (t : Ticket) (disp : FinalDisp) (tallied : Bool) (s : State) : (updateRun n b t disp tallied s).fli = s.fli := by
  simp only [updateRun]; (repeat' split) <;> simp
@[simp] theorem updateRun_bka (n : NestId) (b : Binding) (t : Ticket) (disp : FinalDisp) (tallied : Bool) (s : State) : (updateRun n b t disp tallied s).bka = s.bka := by
  simp only [updateRun]; (repeat' split) <;> simp
@[simp] theorem updateRun_gdm (n : NestId) (b : Binding) (t : Ticket) (disp : FinalDisp) (tallied : Bool) (s : State) : (updateRun n b t disp tallied s).gdm = s.gdm := by
  simp only [updateRun]; (repeat' split) <;> simp
@[simp] theorem updateRun_jdu (n : NestId) (b : Binding) (t : Ticket) (disp : FinalDisp) (tallied : Bool) (s : State) : (updateRun n b t disp tallied s).jdu = s.jdu := by
  simp only [updateRun]; (repeat' split) <;> simp
@[simp] theorem updateRun_bmu (n : NestId) (b : Binding) (t : Ticket) (disp : FinalDisp) (tallied : Bool) (s : State) : (updateRun n b t disp tallied s).bmu = s.bmu := by
  simp only [updateRun]; (repeat' split) <;> simp
@[simp] theorem updateRun_yct (n : NestId) (b : Binding) (t : Ticket) (disp : FinalDisp) (tallied : Bool) (s : State) : (updateRun n b t disp tallied s).yct = s.yct := by
  simp only [updateRun]; (repeat' split) <;> simp
@[simp] theorem updateRun_ltc (n : NestId) (b : Binding) (t : Ticket) (disp : FinalDisp) (tallied : Bool) (s : State) : (updateRun n b t disp tallied s).ltc = s.ltc := by
  simp only [updateRun]; (repeat' split) <;> simp
@[simp] theorem updateRun_free (n : NestId) (b : Binding) (t : Ticket) (disp : FinalDisp) (tallied : Bool) (s : State) : (updateRun n b t disp tallied s).free = s.free := by
  simp only [updateRun]; (repeat' split) <;> simp
@[simp] theorem updateRun_pending (n : NestId) (b : Binding) (t : Ticket) (disp : FinalDisp) (tallied : Bool) (s : State) : (updateRun n b t disp tallied s).pending = s.pending := by
  simp only [updateRun]; (repeat' split) <;> simp
@[simp] theorem updateRun_nest_other (n : NestId) (b : Binding) (t : Ticket) (disp : FinalDisp) (tallied : Bool) (s : State) {m : NestId} (hm : m ≠ n) :
    (updateRun n b t disp tallied s).nest m = s.nest m := by
  simp only [updateRun]; (repeat' split) <;> simp [hm]
@[simp] theorem updateRun_ctx (n : NestId) (b : Binding) (t : Ticket) (disp : FinalDisp) (tallied : Bool) (s : State) (m : NestId) : (updateRun n b t disp tallied s).ctx m = s.ctx m := by
  simp [State.ctx]
@[simp] theorem updateRun_ana (n : NestId) (b : Binding) (t : Ticket) (disp : FinalDisp) (tallied : Bool) (s : State) (m : NestId) : (updateRun n b t disp tallied s).ana m = s.ana m := by
  simp [State.ana]
@[simp] theorem updateRun_tally (n : NestId) (b : Binding) (t : Ticket) (disp : FinalDisp) (tallied : Bool) (s : State) (m : NestId) : (updateRun n b t disp tallied s).tally m = s.tally m := by
  simp [State.tally]
@[simp] theorem updateRun_now (n : NestId) (b : Binding) (t : Ticket) (disp : FinalDisp) (tallied : Bool) (s : State) : (updateRun n b t disp tallied s).now = s.now := by
  simp [State.now, State.lastFrame]
@[simp] theorem updateRun_lot (n : NestId) (b : Binding) (t : Ticket) (disp : FinalDisp) (tallied : Bool) (s : State) : (updateRun n b t disp tallied s).lot = s.lot := by
  simp [State.lot]

/-! ### takeReport -/

@[simp] theorem takeReport_tmb (n : NestId) (b : Binding) (t : Ticket) (f : Final) (e : BinEntry) (s : State) : (takeReport n b t f e s).tmb = s.tmb := by
  simp only [takeReport]; (repeat' split) <;> simp
@[simp] theorem takeReport_swg (n : NestId) (b : Binding) (t : Ticket) (f : Final) (e : BinEntry) (s : State) : (takeReport n b t f e s).swg = s.swg := by
  simp only [takeReport]; (repeat' split) <;> simp
@[simp] theorem takeReport_fli (n : NestId) (b : Binding) (t : Ticket) (f : Final) (e : BinEntry) (s : State) : (takeReport n b t f e s).fli = s.fli := by
  simp only [takeReport]; (repeat' split) <;> simp
@[simp] theorem takeReport_bka (n : NestId) (b : Binding) (t : Ticket) (f : Final) (e : BinEntry) (s : State) : (takeReport n b t f e s).bka = s.bka := by
  simp only [takeReport]; (repeat' split) <;> simp
@[simp] theorem takeReport_gdm (n : NestId) (b : Binding) (t : Ticket) (f : Final) (e : BinEntry) (s : State) : (takeReport n b t f e s).gdm = s.gdm := by
  simp only [takeReport]; (repeat' split) <;> simp
@[simp] theorem takeReport_jdu (n : NestId) (b : Binding) (t : Ticket) (f : Final) (e : BinEntry) (s : State) : (takeReport n b t f e s).jdu = s.jdu := by
  simp only [takeReport]; (repeat' split) <;> simp
@[simp] theorem takeReport_free (n : NestId) (b : Binding) (t : Ticket) (f : Final) (e : BinEntry) (s : State) : (takeReport n b t f e s).free = s.free := by
  simp only [takeReport]; (repeat' split) <;> simp
@[simp] theorem takeReport_pending (n : NestId) (b : Binding) (t : Ticket) (f : Final) (e : BinEntry) (s : State) : (takeReport n b t f e s).pending = s.pending := by
  simp only [takeReport]; (repeat' split) <;> simp
@[simp] theorem takeReport_nest_other (n : NestId) (b : Binding) (t : Ticket) (f : Final) (e : BinEntry) (s : State) {m : NestId} (hm : m ≠ n) :
    (takeReport n b t f e s).nest m = s.nest m := by
  simp only [takeReport]; (repeat' split) <;> simp [hm]
@[simp] theorem takeReport_ctx (n : NestId) (b : Binding) (t : Ticket) (f : Final) (e : BinEntry) (s : State) (m : NestId) : (takeReport n b t f e s).ctx m = s.ctx m := by
  simp [State.ctx]
@[simp] theorem takeReport_ana (n : NestId) (b : Binding) (t : Ticket) (f : Final) (e : BinEntry) (s : State) (m : NestId) : (takeReport n b t f e s).ana m = s.ana m := by
  simp [State.ana]
@[simp] theorem takeReport_tally (n : NestId) (b : Binding) (t : Ticket) (f : Final) (e : BinEntry) (s : State) (m : NestId) : (takeReport n b t f e s).tally m = s.tally m := by
  simp [State.tally]
@[simp] theorem takeReport_now (n : NestId) (b : Binding) (t : Ticket) (f : Final) (e : BinEntry) (s : State) : (takeReport n b t f e s).now = s.now := by
  simp [State.now, State.lastFrame]

/-! ### raiseStuck -/

@[simp] theorem raiseStuck_tmb (n : NestId) (g serial : Nat) (s : State) : (raiseStuck n g serial s).tmb = s.tmb := by
  simp [raiseStuck]
@[simp] theorem raiseStuck_swg (n : NestId) (g serial : Nat) (s : State) : (raiseStuck n g serial s).swg = s.swg := by
  simp [raiseStuck]
@[simp] theorem raiseStuck_fli (n : NestId) (g serial : Nat) (s : State) : (raiseStuck n g serial s).fli = s.fli := by
  simp [raiseStuck]
@[simp] theorem raiseStuck_bka (n : NestId) (g serial : Nat) (s : State) : (raiseStuck n g serial s).bka = s.bka := by
  simp [raiseStuck]
@[simp] theorem raiseStuck_gdm (n : NestId) (g serial : Nat) (s : State) : (raiseStuck n g serial s).gdm = s.gdm := by
  simp [raiseStuck]
@[simp] theorem raiseStuck_jdu (n : NestId) (g serial : Nat) (s : State) : (raiseStuck n g serial s).jdu = s.jdu := by
  simp [raiseStuck]
@[simp] theorem raiseStuck_bmu (n : NestId) (g serial : Nat) (s : State) : (raiseStuck n g serial s).bmu = s.bmu := by
  simp [raiseStuck]
@[simp] theorem raiseStuck_yct (n : NestId) (g serial : Nat) (s : State) : (raiseStuck n g serial s).yct = s.yct := by
  simp [raiseStuck]
@[simp] theorem raiseStuck_ltc (n : NestId) (g serial : Nat) (s : State) : (raiseStuck n g serial s).ltc = s.ltc := by
  simp [raiseStuck]
@[simp] theorem raiseStuck_free (n : NestId) (g serial : Nat) (s : State) : (raiseStuck n g serial s).free = s.free := by
  simp [raiseStuck]
@[simp] theorem raiseStuck_pending (n : NestId) (g serial : Nat) (s : State) : (raiseStuck n g serial s).pending = s.pending := by
  simp [raiseStuck]
@[simp] theorem raiseStuck_nest_other (n : NestId) (g serial : Nat) (s : State) {m : NestId} (hm : m ≠ n) :
    (raiseStuck n g serial s).nest m = s.nest m := by
  simp only [raiseStuck]; (repeat' split) <;> simp [hm]
@[simp] theorem raiseStuck_ctx (n : NestId) (g serial : Nat) (s : State) (m : NestId) : (raiseStuck n g serial s).ctx m = s.ctx m := by
  simp [State.ctx]
@[simp] theorem raiseStuck_ana (n : NestId) (g serial : Nat) (s : State) (m : NestId) : (raiseStuck n g serial s).ana m = s.ana m := by
  simp [State.ana]
@[simp] theorem raiseStuck_tally (n : NestId) (g serial : Nat) (s : State) (m : NestId) : (raiseStuck n g serial s).tally m = s.tally m := by
  simp [State.tally]
@[simp] theorem raiseStuck_now (n : NestId) (g serial : Nat) (s : State) : (raiseStuck n g serial s).now = s.now := by
  simp [State.now, State.lastFrame]
@[simp] theorem raiseStuck_lot (n : NestId) (g serial : Nat) (s : State) : (raiseStuck n g serial s).lot = s.lot := by
  simp [State.lot]

/-! ### pullUnit -/

@[simp] theorem pullUnit_tmb (n : NestId) (b : Binding) (t : Ticket) (stage : Stage) (s : State) : (pullUnit n b t stage s).tmb = s.tmb := by
  simp only [pullUnit]; (repeat' split) <;> simp
@[simp] theorem pullUnit_fli (n : NestId) (b : Binding) (t : Ticket) (stage : Stage) (s : State) : (pullUnit n b t stage s).fli = s.fli := by
  simp only [pullUnit]; (repeat' split) <;> simp
@[simp] theorem pullUnit_gdm (n : NestId) (b : Binding) (t : Ticket) (stage : Stage) (s : State) : (pullUnit n b t stage s).gdm = s.gdm := by
  simp only [pullUnit]; (repeat' split) <;> simp
@[simp] theorem pullUnit_jdu (n : NestId) (b : Binding) (t : Ticket) (stage : Stage) (s : State) : (pullUnit n b t stage s).jdu = s.jdu := by
  simp only [pullUnit]; (repeat' split) <;> simp
@[simp] theorem pullUnit_bmu (n : NestId) (b : Binding) (t : Ticket) (stage : Stage) (s : State) : (pullUnit n b t stage s).bmu = s.bmu := by
  simp only [pullUnit]; (repeat' split) <;> simp
@[simp] theorem pullUnit_yct (n : NestId) (b : Binding) (t : Ticket) (stage : Stage) (s : State) : (pullUnit n b t stage s).yct = s.yct := by
  simp only [pullUnit]; (repeat' split) <;> simp
@[simp] theorem pullUnit_ltc (n : NestId) (b : Binding) (t : Ticket) (stage : Stage) (s : State) : (pullUnit n b t stage s).ltc = s.ltc := by
  simp only [pullUnit]; (repeat' split) <;> simp
@[simp] theorem pullUnit_free (n : NestId) (b : Binding) (t : Ticket) (stage : Stage) (s : State) : (pullUnit n b t stage s).free = s.free := by
  simp only [pullUnit]; (repeat' split) <;> simp
@[simp] theorem pullUnit_pending (n : NestId) (b : Binding) (t : Ticket) (stage : Stage) (s : State) : (pullUnit n b t stage s).pending = s.pending := by
  simp only [pullUnit]; (repeat' split) <;> simp
@[simp] theorem pullUnit_nest_other (n : NestId) (b : Binding) (t : Ticket) (stage : Stage) (s : State) {m : NestId} (hm : m ≠ n) :
    (pullUnit n b t stage s).nest m = s.nest m := by
  simp only [pullUnit]; (repeat' split) <;> simp [hm]
@[simp] theorem pullUnit_ctx_other (n : NestId) (b : Binding) (t : Ticket) (stage : Stage) (s : State) {m : NestId} (hm : m ≠ n) :
    (pullUnit n b t stage s).ctx m = s.ctx m := by
  simp only [pullUnit]; (repeat' split) <;> simp [hm]
@[simp] theorem pullUnit_ana_other (n : NestId) (b : Binding) (t : Ticket) (stage : Stage) (s : State) {m : NestId} (hm : m ≠ n) :
    (pullUnit n b t stage s).ana m = s.ana m := by
  simp only [pullUnit]; (repeat' split) <;> simp [hm]
@[simp] theorem pullUnit_tally (n : NestId) (b : Binding) (t : Ticket) (stage : Stage) (s : State) (m : NestId) : (pullUnit n b t stage s).tally m = s.tally m := by
  simp [State.tally]
@[simp] theorem pullUnit_now (n : NestId) (b : Binding) (t : Ticket) (stage : Stage) (s : State) : (pullUnit n b t stage s).now = s.now := by
  simp [State.now, State.lastFrame]
@[simp] theorem pullUnit_lot (n : NestId) (b : Binding) (t : Ticket) (stage : Stage) (s : State) : (pullUnit n b t stage s).lot = s.lot := by
  simp [State.lot]

/-! ### openEffect -/

@[simp] theorem openEffect_tmb (n : NestId) (s : State) : (openEffect n s).tmb = s.tmb := by
  simp only [openEffect]; (repeat' split) <;> simp
@[simp] theorem openEffect_fli (n : NestId) (s : State) : (openEffect n s).fli = s.fli := by
  simp only [openEffect]; (repeat' split) <;> simp
@[simp] theorem openEffect_gdm (n : NestId) (s : State) : (openEffect n s).gdm = s.gdm := by
  simp only [openEffect]; (repeat' split) <;> simp
@[simp] theorem openEffect_jdu (n : NestId) (s : State) : (openEffect n s).jdu = s.jdu := by
  simp only [openEffect]; (repeat' split) <;> simp
@[simp] theorem openEffect_bmu (n : NestId) (s : State) : (openEffect n s).bmu = s.bmu := by
  simp only [openEffect]; (repeat' split) <;> simp
@[simp] theorem openEffect_yct (n : NestId) (s : State) : (openEffect n s).yct = s.yct := by
  simp only [openEffect]; (repeat' split) <;> simp
@[simp] theorem openEffect_free (n : NestId) (s : State) : (openEffect n s).free = s.free := by
  simp only [openEffect]; (repeat' split) <;> simp
@[simp] theorem openEffect_pending (n : NestId) (s : State) : (openEffect n s).pending = s.pending := by
  simp only [openEffect]; (repeat' split) <;> simp
@[simp] theorem openEffect_nest_other (n : NestId) (s : State) {m : NestId} (hm : m ≠ n) :
    (openEffect n s).nest m = s.nest m := by
  simp only [openEffect]; (repeat' split) <;> simp [hm]
@[simp] theorem openEffect_ctx_other (n : NestId) (s : State) {m : NestId} (hm : m ≠ n) :
    (openEffect n s).ctx m = s.ctx m := by
  simp only [openEffect]; (repeat' split) <;> simp [hm]
@[simp] theorem openEffect_ana_other (n : NestId) (s : State) {m : NestId} (hm : m ≠ n) :
    (openEffect n s).ana m = s.ana m := by
  simp only [openEffect]; (repeat' split) <;> simp [hm]
@[simp] theorem openEffect_tally (n : NestId) (s : State) (m : NestId) : (openEffect n s).tally m = s.tally m := by
  simp [State.tally]
@[simp] theorem openEffect_now (n : NestId) (s : State) : (openEffect n s).now = s.now := by
  simp [State.now, State.lastFrame]

/-! ### sweepStarted -/

@[simp] theorem sweepStarted_tmb (n : NestId) (s : State) : (sweepStarted n s).tmb = s.tmb := by
  simp only [sweepStarted]; (repeat' split) <;> simp
@[simp] theorem sweepStarted_swg (n : NestId) (s : State) : (sweepStarted n s).swg = s.swg := by
  simp only [sweepStarted]; (repeat' split) <;> simp
@[simp] theorem sweepStarted_fli (n : NestId) (s : State) : (sweepStarted n s).fli = s.fli := by
  simp only [sweepStarted]; (repeat' split) <;> simp
@[simp] theorem sweepStarted_bka (n : NestId) (s : State) : (sweepStarted n s).bka = s.bka := by
  simp only [sweepStarted]; (repeat' split) <;> simp
@[simp] theorem sweepStarted_gdm (n : NestId) (s : State) : (sweepStarted n s).gdm = s.gdm := by
  simp only [sweepStarted]; (repeat' split) <;> simp
@[simp] theorem sweepStarted_jdu (n : NestId) (s : State) : (sweepStarted n s).jdu = s.jdu := by
  simp only [sweepStarted]; (repeat' split) <;> simp
@[simp] theorem sweepStarted_bmu (n : NestId) (s : State) : (sweepStarted n s).bmu = s.bmu := by
  simp only [sweepStarted]; (repeat' split) <;> simp
@[simp] theorem sweepStarted_yct (n : NestId) (s : State) : (sweepStarted n s).yct = s.yct := by
  simp only [sweepStarted]; (repeat' split) <;> simp
@[simp] theorem sweepStarted_ltc (n : NestId) (s : State) : (sweepStarted n s).ltc = s.ltc := by
  simp only [sweepStarted]; (repeat' split) <;> simp
@[simp] theorem sweepStarted_flg (n : NestId) (s : State) : (sweepStarted n s).flg = s.flg := by
  simp only [sweepStarted]; (repeat' split) <;> simp
@[simp] theorem sweepStarted_svc (n : NestId) (s : State) : (sweepStarted n s).svc = s.svc := by
  simp only [sweepStarted]; (repeat' split) <;> simp
@[simp] theorem sweepStarted_free (n : NestId) (s : State) : (sweepStarted n s).free = s.free := by
  simp only [sweepStarted]; (repeat' split) <;> simp
@[simp] theorem sweepStarted_pending (n : NestId) (s : State) : (sweepStarted n s).pending = s.pending := by
  simp only [sweepStarted]; (repeat' split) <;> simp
@[simp] theorem sweepStarted_nest_other (n : NestId) (s : State) {m : NestId} (hm : m ≠ n) :
    (sweepStarted n s).nest m = s.nest m := by
  simp only [sweepStarted]; (repeat' split) <;> simp [hm]
@[simp] theorem sweepStarted_ctx (n : NestId) (s : State) (m : NestId) : (sweepStarted n s).ctx m = s.ctx m := by
  simp [State.ctx]
@[simp] theorem sweepStarted_ana (n : NestId) (s : State) (m : NestId) : (sweepStarted n s).ana m = s.ana m := by
  simp [State.ana]
@[simp] theorem sweepStarted_tally (n : NestId) (s : State) (m : NestId) : (sweepStarted n s).tally m = s.tally m := by
  simp [State.tally]
@[simp] theorem sweepStarted_now (n : NestId) (s : State) : (sweepStarted n s).now = s.now := by
  simp [State.now, State.lastFrame]
@[simp] theorem sweepStarted_lot (n : NestId) (s : State) : (sweepStarted n s).lot = s.lot := by
  simp [State.lot]

/-! ### endSweep -/

@[simp] theorem endSweep_tmb (n : NestId) (c : SweepCtx) (s : State) : (endSweep n c s).tmb = s.tmb := by
  simp [endSweep]
@[simp] theorem endSweep_fli (n : NestId) (c : SweepCtx) (s : State) : (endSweep n c s).fli = s.fli := by
  simp [endSweep]
@[simp] theorem endSweep_gdm (n : NestId) (c : SweepCtx) (s : State) : (endSweep n c s).gdm = s.gdm := by
  simp [endSweep]
@[simp] theorem endSweep_jdu (n : NestId) (c : SweepCtx) (s : State) : (endSweep n c s).jdu = s.jdu := by
  simp [endSweep]
@[simp] theorem endSweep_bmu (n : NestId) (c : SweepCtx) (s : State) : (endSweep n c s).bmu = s.bmu := by
  simp [endSweep]
@[simp] theorem endSweep_yct (n : NestId) (c : SweepCtx) (s : State) : (endSweep n c s).yct = s.yct := by
  simp [endSweep]
@[simp] theorem endSweep_ltc (n : NestId) (c : SweepCtx) (s : State) : (endSweep n c s).ltc = s.ltc := by
  simp [endSweep]
@[simp] theorem endSweep_flg (n : NestId) (c : SweepCtx) (s : State) : (endSweep n c s).flg = s.flg := by
  simp [endSweep]
@[simp] theorem endSweep_svc (n : NestId) (c : SweepCtx) (s : State) : (endSweep n c s).svc = s.svc := by
  simp [endSweep]
@[simp] theorem endSweep_free (n : NestId) (c : SweepCtx) (s : State) : (endSweep n c s).free = s.free := by
  simp [endSweep]
@[simp] theorem endSweep_pending (n : NestId) (c : SweepCtx) (s : State) : (endSweep n c s).pending = s.pending := by
  simp [endSweep]
@[simp] theorem endSweep_nest_other (n : NestId) (c : SweepCtx) (s : State) {m : NestId} (hm : m ≠ n) :
    (endSweep n c s).nest m = s.nest m := by
  simp only [endSweep]; (repeat' split) <;> simp [hm]
@[simp] theorem endSweep_ctx_other (n : NestId) (c : SweepCtx) (s : State) {m : NestId} (hm : m ≠ n) :
    (endSweep n c s).ctx m = s.ctx m := by
  simp only [endSweep]; (repeat' split) <;> simp [hm]
@[simp] theorem endSweep_ana_other (n : NestId) (c : SweepCtx) (s : State) {m : NestId} (hm : m ≠ n) :
    (endSweep n c s).ana m = s.ana m := by
  simp only [endSweep]; (repeat' split) <;> simp [hm]
@[simp] theorem endSweep_tally (n : NestId) (c : SweepCtx) (s : State) (m : NestId) : (endSweep n c s).tally m = s.tally m := by
  simp [State.tally]
@[simp] theorem endSweep_now (n : NestId) (c : SweepCtx) (s : State) : (endSweep n c s).now = s.now := by
  simp [State.now, State.lastFrame]
@[simp] theorem endSweep_lot (n : NestId) (c : SweepCtx) (s : State) : (endSweep n c s).lot = s.lot := by
  simp [State.lot]

/-! ### endBlock -/

@[simp] theorem endBlock_tmb (n : NestId) (s : State) : (endBlock n s).tmb = s.tmb := by
  simp only [endBlock]; (repeat' split) <;> simp
@[simp] theorem endBlock_fli (n : NestId) (s : State) : (endBlock n s).fli = s.fli := by
  simp only [endBlock]; (repeat' split) <;> simp
@[simp] theorem endBlock_gdm (n : NestId) (s : State) : (endBlock n s).gdm = s.gdm := by
  simp only [endBlock]; (repeat' split) <;> simp
@[simp] theorem endBlock_jdu (n : NestId) (s : State) : (endBlock n s).jdu = s.jdu := by
  simp only [endBlock]; (repeat' split) <;> simp
@[simp] theorem endBlock_bmu (n : NestId) (s : State) : (endBlock n s).bmu = s.bmu := by
  simp only [endBlock]; (repeat' split) <;> simp
@[simp] theorem endBlock_yct (n : NestId) (s : State) : (endBlock n s).yct = s.yct := by
  simp only [endBlock]; (repeat' split) <;> simp
@[simp] theorem endBlock_ltc (n : NestId) (s : State) : (endBlock n s).ltc = s.ltc := by
  simp only [endBlock]; (repeat' split) <;> simp
@[simp] theorem endBlock_flg (n : NestId) (s : State) : (endBlock n s).flg = s.flg := by
  simp only [endBlock]; (repeat' split) <;> simp
@[simp] theorem endBlock_svc (n : NestId) (s : State) : (endBlock n s).svc = s.svc := by
  simp only [endBlock]; (repeat' split) <;> simp
@[simp] theorem endBlock_free (n : NestId) (s : State) : (endBlock n s).free = s.free := by
  simp only [endBlock]; (repeat' split) <;> simp
@[simp] theorem endBlock_pending (n : NestId) (s : State) : (endBlock n s).pending = s.pending := by
  simp only [endBlock]; (repeat' split) <;> simp
@[simp] theorem endBlock_nest_other (n : NestId) (s : State) {m : NestId} (hm : m ≠ n) :
    (endBlock n s).nest m = s.nest m := by
  simp only [endBlock]; (repeat' split) <;> simp [hm]
@[simp] theorem endBlock_ctx_other (n : NestId) (s : State) {m : NestId} (hm : m ≠ n) :
    (endBlock n s).ctx m = s.ctx m := by
  simp only [endBlock]; (repeat' split) <;> simp [hm]
@[simp] theorem endBlock_ana_other (n : NestId) (s : State) {m : NestId} (hm : m ≠ n) :
    (endBlock n s).ana m = s.ana m := by
  simp only [endBlock]; (repeat' split) <;> simp [hm]
@[simp] theorem endBlock_tally (n : NestId) (s : State) (m : NestId) : (endBlock n s).tally m = s.tally m := by
  simp [State.tally]
@[simp] theorem endBlock_now (n : NestId) (s : State) : (endBlock n s).now = s.now := by
  simp [State.now, State.lastFrame]
@[simp] theorem endBlock_lot (n : NestId) (s : State) : (endBlock n s).lot = s.lot := by
  simp [State.lot]

end Sys2Proof.Machine
end

