-- ==== Sys2Proof/Laws/Judgement.lean ====
section
/-! SUPPORT. What the operations of guard and judgement leave alone. -/

namespace Sys2Proof.Machine

open Sys2Proof

/-! ### closeGuardBlock -/

@[simp] theorem closeGuardBlock_tmb (s : State) : (closeGuardBlock s).tmb = s.tmb := by
  simp only [closeGuardBlock]; (repeat' split) <;> simp
@[simp] theorem closeGuardBlock_swg (s : State) : (closeGuardBlock s).swg = s.swg := by
  simp only [closeGuardBlock]; (repeat' split) <;> simp
@[simp] theorem closeGuardBlock_fli (s : State) : (closeGuardBlock s).fli = s.fli := by
  simp only [closeGuardBlock]; (repeat' split) <;> simp
@[simp] theorem closeGuardBlock_bka (s : State) : (closeGuardBlock s).bka = s.bka := by
  simp only [closeGuardBlock]; (repeat' split) <;> simp
@[simp] theorem closeGuardBlock_jdu (s : State) : (closeGuardBlock s).jdu = s.jdu := by
  simp only [closeGuardBlock]; (repeat' split) <;> simp
@[simp] theorem closeGuardBlock_tkc (s : State) : (closeGuardBlock s).tkc = s.tkc := by
  simp only [closeGuardBlock]; (repeat' split) <;> simp
@[simp] theorem closeGuardBlock_bmu (s : State) : (closeGuardBlock s).bmu = s.bmu := by
  simp only [closeGuardBlock]; (repeat' split) <;> simp
@[simp] theorem closeGuardBlock_ltc (s : State) : (closeGuardBlock s).ltc = s.ltc := by
  simp only [closeGuardBlock]; (repeat' split) <;> simp
@[simp] theorem closeGuardBlock_free (s : State) : (closeGuardBlock s).free = s.free := by
  simp only [closeGuardBlock]; (repeat' split) <;> simp
@[simp] theorem closeGuardBlock_pending (s : State) : (closeGuardBlock s).pending = s.pending := by
  simp only [closeGuardBlock]; (repeat' split) <;> simp
@[simp] theorem closeGuardBlock_nest (s : State) (m : NestId) : (closeGuardBlock s).nest m = s.nest m := by
  simp [State.nest]
@[simp] theorem closeGuardBlock_ctx (s : State) (m : NestId) : (closeGuardBlock s).ctx m = s.ctx m := by
  simp [State.ctx]
@[simp] theorem closeGuardBlock_ana (s : State) (m : NestId) : (closeGuardBlock s).ana m = s.ana m := by
  simp [State.ana]
@[simp] theorem closeGuardBlock_tally (s : State) (m : NestId) : (closeGuardBlock s).tally m = s.tally m := by
  simp [State.tally]
@[simp] theorem closeGuardBlock_now (s : State) : (closeGuardBlock s).now = s.now := by
  simp [State.now, State.lastFrame]
@[simp] theorem closeGuardBlock_lot (s : State) : (closeGuardBlock s).lot = s.lot := by
  simp [State.lot]

@[simp] theorem State.setBand_eq (s : State) (n : NestId) (k : Fin 32) (t : BandTally) :
    s.setBand n k t = s.setTally n { s.tally n with bands := (s.tally n).bands.set k t } := rfl

/-! ### countRecord -/

@[simp] theorem countRecord_tmb (n : NestId) (mark : Mark) (s : State) : (countRecord n mark s).tmb = s.tmb := by
  simp only [countRecord]; (repeat' split) <;> simp
@[simp] theorem countRecord_swg (n : NestId) (mark : Mark) (s : State) : (countRecord n mark s).swg = s.swg := by
  simp only [countRecord]; (repeat' split) <;> simp
@[simp] theorem countRecord_fli (n : NestId) (mark : Mark) (s : State) : (countRecord n mark s).fli = s.fli := by
  simp only [countRecord]; (repeat' split) <;> simp
@[simp] theorem countRecord_bka (n : NestId) (mark : Mark) (s : State) : (countRecord n mark s).bka = s.bka := by
  simp only [countRecord]; (repeat' split) <;> simp
@[simp] theorem countRecord_gdm (n : NestId) (mark : Mark) (s : State) : (countRecord n mark s).gdm = s.gdm := by
  simp only [countRecord]; (repeat' split) <;> simp
@[simp] theorem countRecord_tkc (n : NestId) (mark : Mark) (s : State) : (countRecord n mark s).tkc = s.tkc := by
  simp only [countRecord]; (repeat' split) <;> simp
@[simp] theorem countRecord_bmu (n : NestId) (mark : Mark) (s : State) : (countRecord n mark s).bmu = s.bmu := by
  simp only [countRecord]; (repeat' split) <;> simp
@[simp] theorem countRecord_ltc (n : NestId) (mark : Mark) (s : State) : (countRecord n mark s).ltc = s.ltc := by
  simp only [countRecord]; (repeat' split) <;> simp
@[simp] theorem countRecord_flg (n : NestId) (mark : Mark) (s : State) : (countRecord n mark s).flg = s.flg := by
  simp only [countRecord]; (repeat' split) <;> simp
@[simp] theorem countRecord_svc (n : NestId) (mark : Mark) (s : State) : (countRecord n mark s).svc = s.svc := by
  simp only [countRecord]; (repeat' split) <;> simp
@[simp] theorem countRecord_free (n : NestId) (mark : Mark) (s : State) : (countRecord n mark s).free = s.free := by
  simp only [countRecord]; (repeat' split) <;> simp
@[simp] theorem countRecord_pending (n : NestId) (mark : Mark) (s : State) : (countRecord n mark s).pending = s.pending := by
  simp only [countRecord]; (repeat' split) <;> simp
@[simp] theorem countRecord_nest (n : NestId) (mark : Mark) (s : State) (m : NestId) : (countRecord n mark s).nest m = s.nest m := by
  simp [State.nest]
@[simp] theorem countRecord_ctx (n : NestId) (mark : Mark) (s : State) (m : NestId) : (countRecord n mark s).ctx m = s.ctx m := by
  simp [State.ctx]
@[simp] theorem countRecord_ana (n : NestId) (mark : Mark) (s : State) (m : NestId) : (countRecord n mark s).ana m = s.ana m := by
  simp [State.ana]
@[simp] theorem countRecord_tally_other (n : NestId) (mark : Mark) (s : State) {m : NestId} (hm : m ≠ n) :
    (countRecord n mark s).tally m = s.tally m := by
  simp only [countRecord]; (repeat' split) <;> simp [hm]
@[simp] theorem countRecord_now (n : NestId) (mark : Mark) (s : State) : (countRecord n mark s).now = s.now := by
  simp [State.now, State.lastFrame]
@[simp] theorem countRecord_lot (n : NestId) (mark : Mark) (s : State) : (countRecord n mark s).lot = s.lot := by
  simp [State.lot]

/-! ### judgePresence -/

@[simp] theorem judgePresence_tmb (n : NestId) (h : LimitHeader) (r : BlockRecord) (mark : Mark) (s : State) : (judgePresence n h r mark s).tmb = s.tmb := by
  simp only [judgePresence]; (repeat' split) <;> simp
@[simp] theorem judgePresence_fli (n : NestId) (h : LimitHeader) (r : BlockRecord) (mark : Mark) (s : State) : (judgePresence n h r mark s).fli = s.fli := by
  simp only [judgePresence]; (repeat' split) <;> simp
@[simp] theorem judgePresence_gdm (n : NestId) (h : LimitHeader) (r : BlockRecord) (mark : Mark) (s : State) : (judgePresence n h r mark s).gdm = s.gdm := by
  simp only [judgePresence]; (repeat' split) <;> simp
@[simp] theorem judgePresence_bmu (n : NestId) (h : LimitHeader) (r : BlockRecord) (mark : Mark) (s : State) : (judgePresence n h r mark s).bmu = s.bmu := by
  simp only [judgePresence]; (repeat' split) <;> simp
@[simp] theorem judgePresence_yct (n : NestId) (h : LimitHeader) (r : BlockRecord) (mark : Mark) (s : State) : (judgePresence n h r mark s).yct = s.yct := by
  simp only [judgePresence]; (repeat' split) <;> simp
@[simp] theorem judgePresence_ltc (n : NestId) (h : LimitHeader) (r : BlockRecord) (mark : Mark) (s : State) : (judgePresence n h r mark s).ltc = s.ltc := by
  simp only [judgePresence]; (repeat' split) <;> simp
@[simp] theorem judgePresence_flg (n : NestId) (h : LimitHeader) (r : BlockRecord) (mark : Mark) (s : State) : (judgePresence n h r mark s).flg = s.flg := by
  simp only [judgePresence]; (repeat' split) <;> simp
@[simp] theorem judgePresence_svc (n : NestId) (h : LimitHeader) (r : BlockRecord) (mark : Mark) (s : State) : (judgePresence n h r mark s).svc = s.svc := by
  simp only [judgePresence]; (repeat' split) <;> simp
@[simp] theorem judgePresence_free (n : NestId) (h : LimitHeader) (r : BlockRecord) (mark : Mark) (s : State) : (judgePresence n h r mark s).free = s.free := by
  simp only [judgePresence]; (repeat' split) <;> simp
@[simp] theorem judgePresence_pending (n : NestId) (h : LimitHeader) (r : BlockRecord) (mark : Mark) (s : State) : (judgePresence n h r mark s).pending = s.pending := by
  simp only [judgePresence]; (repeat' split) <;> simp
@[simp] theorem judgePresence_nest_other (n : NestId) (h : LimitHeader) (r : BlockRecord) (mark : Mark) (s : State) {m : NestId} (hm : m ≠ n) :
    (judgePresence n h r mark s).nest m = s.nest m := by
  simp only [judgePresence]; (repeat' split) <;> simp [hm]
@[simp] theorem judgePresence_ctx_other (n : NestId) (h : LimitHeader) (r : BlockRecord) (mark : Mark) (s : State) {m : NestId} (hm : m ≠ n) :
    (judgePresence n h r mark s).ctx m = s.ctx m := by
  simp only [judgePresence]; (repeat' split) <;> simp [hm]
@[simp] theorem judgePresence_ana_other (n : NestId) (h : LimitHeader) (r : BlockRecord) (mark : Mark) (s : State) {m : NestId} (hm : m ≠ n) :
    (judgePresence n h r mark s).ana m = s.ana m := by
  simp only [judgePresence]; (repeat' split) <;> simp [hm]
@[simp] theorem judgePresence_tally_other (n : NestId) (h : LimitHeader) (r : BlockRecord) (mark : Mark) (s : State) {m : NestId} (hm : m ≠ n) :
    (judgePresence n h r mark s).tally m = s.tally m := by
  simp only [judgePresence]; (repeat' split) <;> simp [hm]
@[simp] theorem judgePresence_now (n : NestId) (h : LimitHeader) (r : BlockRecord) (mark : Mark) (s : State) : (judgePresence n h r mark s).now = s.now := by
  simp [State.now, State.lastFrame]
@[simp] theorem judgePresence_lot (n : NestId) (h : LimitHeader) (r : BlockRecord) (mark : Mark) (s : State) : (judgePresence n h r mark s).lot = s.lot := by
  simp [State.lot]

/-! ### judgePolarity -/

@[simp] theorem judgePolarity_tmb (n : NestId) (h : LimitHeader) (r : BlockRecord) (mark : Mark) (s : State) : (judgePolarity n h r mark s).tmb = s.tmb := by
  simp only [judgePolarity]; (repeat' split) <;> simp
@[simp] theorem judgePolarity_fli (n : NestId) (h : LimitHeader) (r : BlockRecord) (mark : Mark) (s : State) : (judgePolarity n h r mark s).fli = s.fli := by
  simp only [judgePolarity]; (repeat' split) <;> simp
@[simp] theorem judgePolarity_gdm (n : NestId) (h : LimitHeader) (r : BlockRecord) (mark : Mark) (s : State) : (judgePolarity n h r mark s).gdm = s.gdm := by
  simp only [judgePolarity]; (repeat' split) <;> simp
@[simp] theorem judgePolarity_bmu (n : NestId) (h : LimitHeader) (r : BlockRecord) (mark : Mark) (s : State) : (judgePolarity n h r mark s).bmu = s.bmu := by
  simp only [judgePolarity]; (repeat' split) <;> simp
@[simp] theorem judgePolarity_yct (n : NestId) (h : LimitHeader) (r : BlockRecord) (mark : Mark) (s : State) : (judgePolarity n h r mark s).yct = s.yct := by
  simp only [judgePolarity]; (repeat' split) <;> simp
@[simp] theorem judgePolarity_ltc (n : NestId) (h : LimitHeader) (r : BlockRecord) (mark : Mark) (s : State) : (judgePolarity n h r mark s).ltc = s.ltc := by
  simp only [judgePolarity]; (repeat' split) <;> simp
@[simp] theorem judgePolarity_flg (n : NestId) (h : LimitHeader) (r : BlockRecord) (mark : Mark) (s : State) : (judgePolarity n h r mark s).flg = s.flg := by
  simp only [judgePolarity]; (repeat' split) <;> simp
@[simp] theorem judgePolarity_svc (n : NestId) (h : LimitHeader) (r : BlockRecord) (mark : Mark) (s : State) : (judgePolarity n h r mark s).svc = s.svc := by
  simp only [judgePolarity]; (repeat' split) <;> simp
@[simp] theorem judgePolarity_free (n : NestId) (h : LimitHeader) (r : BlockRecord) (mark : Mark) (s : State) : (judgePolarity n h r mark s).free = s.free := by
  simp only [judgePolarity]; (repeat' split) <;> simp
@[simp] theorem judgePolarity_pending (n : NestId) (h : LimitHeader) (r : BlockRecord) (mark : Mark) (s : State) : (judgePolarity n h r mark s).pending = s.pending := by
  simp only [judgePolarity]; (repeat' split) <;> simp
@[simp] theorem judgePolarity_nest_other (n : NestId) (h : LimitHeader) (r : BlockRecord) (mark : Mark) (s : State) {m : NestId} (hm : m ≠ n) :
    (judgePolarity n h r mark s).nest m = s.nest m := by
  simp only [judgePolarity]; (repeat' split) <;> simp [hm]
@[simp] theorem judgePolarity_ctx_other (n : NestId) (h : LimitHeader) (r : BlockRecord) (mark : Mark) (s : State) {m : NestId} (hm : m ≠ n) :
    (judgePolarity n h r mark s).ctx m = s.ctx m := by
  simp only [judgePolarity]; (repeat' split) <;> simp [hm]
@[simp] theorem judgePolarity_ana_other (n : NestId) (h : LimitHeader) (r : BlockRecord) (mark : Mark) (s : State) {m : NestId} (hm : m ≠ n) :
    (judgePolarity n h r mark s).ana m = s.ana m := by
  simp only [judgePolarity]; (repeat' split) <;> simp [hm]
@[simp] theorem judgePolarity_tally_other (n : NestId) (h : LimitHeader) (r : BlockRecord) (mark : Mark) (s : State) {m : NestId} (hm : m ≠ n) :
    (judgePolarity n h r mark s).tally m = s.tally m := by
  simp only [judgePolarity]; (repeat' split) <;> simp [hm]
@[simp] theorem judgePolarity_now (n : NestId) (h : LimitHeader) (r : BlockRecord) (mark : Mark) (s : State) : (judgePolarity n h r mark s).now = s.now := by
  simp [State.now, State.lastFrame]
@[simp] theorem judgePolarity_lot (n : NestId) (h : LimitHeader) (r : BlockRecord) (mark : Mark) (s : State) : (judgePolarity n h r mark s).lot = s.lot := by
  simp [State.lot]

/-! ### rejectCheck -/

@[simp] theorem rejectCheck_tmb (n : NestId) (k : Fin 32) (b : Band) (r : BlockRecord) (c : Check) (s : State) : (rejectCheck n k b r s c).tmb = s.tmb := by
  simp only [rejectCheck]; (repeat' split) <;> simp
@[simp] theorem rejectCheck_fli (n : NestId) (k : Fin 32) (b : Band) (r : BlockRecord) (c : Check) (s : State) : (rejectCheck n k b r s c).fli = s.fli := by
  simp only [rejectCheck]; (repeat' split) <;> simp
@[simp] theorem rejectCheck_gdm (n : NestId) (k : Fin 32) (b : Band) (r : BlockRecord) (c : Check) (s : State) : (rejectCheck n k b r s c).gdm = s.gdm := by
  simp only [rejectCheck]; (repeat' split) <;> simp
@[simp] theorem rejectCheck_bmu (n : NestId) (k : Fin 32) (b : Band) (r : BlockRecord) (c : Check) (s : State) : (rejectCheck n k b r s c).bmu = s.bmu := by
  simp only [rejectCheck]; (repeat' split) <;> simp
@[simp] theorem rejectCheck_yct (n : NestId) (k : Fin 32) (b : Band) (r : BlockRecord) (c : Check) (s : State) : (rejectCheck n k b r s c).yct = s.yct := by
  simp only [rejectCheck]; (repeat' split) <;> simp
@[simp] theorem rejectCheck_ltc (n : NestId) (k : Fin 32) (b : Band) (r : BlockRecord) (c : Check) (s : State) : (rejectCheck n k b r s c).ltc = s.ltc := by
  simp only [rejectCheck]; (repeat' split) <;> simp
@[simp] theorem rejectCheck_flg (n : NestId) (k : Fin 32) (b : Band) (r : BlockRecord) (c : Check) (s : State) : (rejectCheck n k b r s c).flg = s.flg := by
  simp only [rejectCheck]; (repeat' split) <;> simp
@[simp] theorem rejectCheck_svc (n : NestId) (k : Fin 32) (b : Band) (r : BlockRecord) (c : Check) (s : State) : (rejectCheck n k b r s c).svc = s.svc := by
  simp only [rejectCheck]; (repeat' split) <;> simp
@[simp] theorem rejectCheck_free (n : NestId) (k : Fin 32) (b : Band) (r : BlockRecord) (c : Check) (s : State) : (rejectCheck n k b r s c).free = s.free := by
  simp only [rejectCheck]; (repeat' split) <;> simp
@[simp] theorem rejectCheck_pending (n : NestId) (k : Fin 32) (b : Band) (r : BlockRecord) (c : Check) (s : State) : (rejectCheck n k b r s c).pending = s.pending := by
  simp only [rejectCheck]; (repeat' split) <;> simp
@[simp] theorem rejectCheck_nest_other (n : NestId) (k : Fin 32) (b : Band) (r : BlockRecord) (c : Check) (s : State) {m : NestId} (hm : m ≠ n) :
    (rejectCheck n k b r s c).nest m = s.nest m := by
  simp only [rejectCheck]; (repeat' split) <;> simp [hm]
@[simp] theorem rejectCheck_ctx_other (n : NestId) (k : Fin 32) (b : Band) (r : BlockRecord) (c : Check) (s : State) {m : NestId} (hm : m ≠ n) :
    (rejectCheck n k b r s c).ctx m = s.ctx m := by
  simp only [rejectCheck]; (repeat' split) <;> simp [hm]
@[simp] theorem rejectCheck_ana_other (n : NestId) (k : Fin 32) (b : Band) (r : BlockRecord) (c : Check) (s : State) {m : NestId} (hm : m ≠ n) :
    (rejectCheck n k b r s c).ana m = s.ana m := by
  simp only [rejectCheck]; (repeat' split) <;> simp [hm]
@[simp] theorem rejectCheck_tally_other (n : NestId) (k : Fin 32) (b : Band) (r : BlockRecord) (c : Check) (s : State) {m : NestId} (hm : m ≠ n) :
    (rejectCheck n k b r s c).tally m = s.tally m := by
  simp only [rejectCheck]; (repeat' split) <;> simp [hm]
@[simp] theorem rejectCheck_now (n : NestId) (k : Fin 32) (b : Band) (r : BlockRecord) (c : Check) (s : State) : (rejectCheck n k b r s c).now = s.now := by
  simp [State.now, State.lastFrame]
@[simp] theorem rejectCheck_lot (n : NestId) (k : Fin 32) (b : Band) (r : BlockRecord) (c : Check) (s : State) : (rejectCheck n k b r s c).lot = s.lot := by
  simp [State.lot]

/-! ### judgeBand -/

@[simp] theorem judgeBand_tmb (n : NestId) (k : Fin 32) (b : Band) (r : BlockRecord) (s : State) : (judgeBand n k b r s).tmb = s.tmb := by
  simp only [judgeBand, List.foldl]; (repeat' split) <;> simp
@[simp] theorem judgeBand_fli (n : NestId) (k : Fin 32) (b : Band) (r : BlockRecord) (s : State) : (judgeBand n k b r s).fli = s.fli := by
  simp only [judgeBand, List.foldl]; (repeat' split) <;> simp
@[simp] theorem judgeBand_gdm (n : NestId) (k : Fin 32) (b : Band) (r : BlockRecord) (s : State) : (judgeBand n k b r s).gdm = s.gdm := by
  simp only [judgeBand, List.foldl]; (repeat' split) <;> simp
@[simp] theorem judgeBand_bmu (n : NestId) (k : Fin 32) (b : Band) (r : BlockRecord) (s : State) : (judgeBand n k b r s).bmu = s.bmu := by
  simp only [judgeBand, List.foldl]; (repeat' split) <;> simp
@[simp] theorem judgeBand_yct (n : NestId) (k : Fin 32) (b : Band) (r : BlockRecord) (s : State) : (judgeBand n k b r s).yct = s.yct := by
  simp only [judgeBand, List.foldl]; (repeat' split) <;> simp
@[simp] theorem judgeBand_ltc (n : NestId) (k : Fin 32) (b : Band) (r : BlockRecord) (s : State) : (judgeBand n k b r s).ltc = s.ltc := by
  simp only [judgeBand, List.foldl]; (repeat' split) <;> simp
@[simp] theorem judgeBand_flg (n : NestId) (k : Fin 32) (b : Band) (r : BlockRecord) (s : State) : (judgeBand n k b r s).flg = s.flg := by
  simp only [judgeBand, List.foldl]; (repeat' split) <;> simp
@[simp] theorem judgeBand_svc (n : NestId) (k : Fin 32) (b : Band) (r : BlockRecord) (s : State) : (judgeBand n k b r s).svc = s.svc := by
  simp only [judgeBand, List.foldl]; (repeat' split) <;> simp
@[simp] theorem judgeBand_free (n : NestId) (k : Fin 32) (b : Band) (r : BlockRecord) (s : State) : (judgeBand n k b r s).free = s.free := by
  simp only [judgeBand, List.foldl]; (repeat' split) <;> simp
@[simp] theorem judgeBand_pending (n : NestId) (k : Fin 32) (b : Band) (r : BlockRecord) (s : State) : (judgeBand n k b r s).pending = s.pending := by
  simp only [judgeBand, List.foldl]; (repeat' split) <;> simp
@[simp] theorem judgeBand_nest_other (n : NestId) (k : Fin 32) (b : Band) (r : BlockRecord) (s : State) {m : NestId} (hm : m ≠ n) :
    (judgeBand n k b r s).nest m = s.nest m := by
  simp only [judgeBand, List.foldl]; split <;> simp [hm]
@[simp] theorem judgeBand_ctx_other (n : NestId) (k : Fin 32) (b : Band) (r : BlockRecord) (s : State) {m : NestId} (hm : m ≠ n) :
    (judgeBand n k b r s).ctx m = s.ctx m := by
  simp only [judgeBand, List.foldl]; split <;> simp [hm]
@[simp] theorem judgeBand_ana_other (n : NestId) (k : Fin 32) (b : Band) (r : BlockRecord) (s : State) {m : NestId} (hm : m ≠ n) :
    (judgeBand n k b r s).ana m = s.ana m := by
  simp only [judgeBand, List.foldl]; split <;> simp [hm]
@[simp] theorem judgeBand_tally_other (n : NestId) (k : Fin 32) (b : Band) (r : BlockRecord) (s : State) {m : NestId} (hm : m ≠ n) :
    (judgeBand n k b r s).tally m = s.tally m := by
  simp only [judgeBand, List.foldl]; split <;> simp [hm]
@[simp] theorem judgeBand_now (n : NestId) (k : Fin 32) (b : Band) (r : BlockRecord) (s : State) : (judgeBand n k b r s).now = s.now := by
  simp [State.now, State.lastFrame]
@[simp] theorem judgeBand_lot (n : NestId) (k : Fin 32) (b : Band) (r : BlockRecord) (s : State) : (judgeBand n k b r s).lot = s.lot := by
  simp [State.lot]

/-! ### judgeMeasure -/

@[simp] theorem judgeMeasure_tmb (n : NestId) (l : LimitSet) (r : BlockRecord) (mark : Mark) (s : State) : (judgeMeasure n l r mark s).tmb = s.tmb := by
  simp only [judgeMeasure]; (repeat' split) <;> simp
@[simp] theorem judgeMeasure_fli (n : NestId) (l : LimitSet) (r : BlockRecord) (mark : Mark) (s : State) : (judgeMeasure n l r mark s).fli = s.fli := by
  simp only [judgeMeasure]; (repeat' split) <;> simp
@[simp] theorem judgeMeasure_gdm (n : NestId) (l : LimitSet) (r : BlockRecord) (mark : Mark) (s : State) : (judgeMeasure n l r mark s).gdm = s.gdm := by
  simp only [judgeMeasure]; (repeat' split) <;> simp
@[simp] theorem judgeMeasure_bmu (n : NestId) (l : LimitSet) (r : BlockRecord) (mark : Mark) (s : State) : (judgeMeasure n l r mark s).bmu = s.bmu := by
  simp only [judgeMeasure]; (repeat' split) <;> simp
@[simp] theorem judgeMeasure_yct (n : NestId) (l : LimitSet) (r : BlockRecord) (mark : Mark) (s : State) : (judgeMeasure n l r mark s).yct = s.yct := by
  simp only [judgeMeasure]; (repeat' split) <;> simp
@[simp] theorem judgeMeasure_ltc (n : NestId) (l : LimitSet) (r : BlockRecord) (mark : Mark) (s : State) : (judgeMeasure n l r mark s).ltc = s.ltc := by
  simp only [judgeMeasure]; (repeat' split) <;> simp
@[simp] theorem judgeMeasure_flg (n : NestId) (l : LimitSet) (r : BlockRecord) (mark : Mark) (s : State) : (judgeMeasure n l r mark s).flg = s.flg := by
  simp only [judgeMeasure]; (repeat' split) <;> simp
@[simp] theorem judgeMeasure_svc (n : NestId) (l : LimitSet) (r : BlockRecord) (mark : Mark) (s : State) : (judgeMeasure n l r mark s).svc = s.svc := by
  simp only [judgeMeasure]; (repeat' split) <;> simp
@[simp] theorem judgeMeasure_free (n : NestId) (l : LimitSet) (r : BlockRecord) (mark : Mark) (s : State) : (judgeMeasure n l r mark s).free = s.free := by
  simp only [judgeMeasure]; (repeat' split) <;> simp
@[simp] theorem judgeMeasure_pending (n : NestId) (l : LimitSet) (r : BlockRecord) (mark : Mark) (s : State) : (judgeMeasure n l r mark s).pending = s.pending := by
  simp only [judgeMeasure]; (repeat' split) <;> simp
@[simp] theorem judgeMeasure_nest_other (n : NestId) (l : LimitSet) (r : BlockRecord) (mark : Mark) (s : State) {m : NestId} (hm : m ≠ n) :
    (judgeMeasure n l r mark s).nest m = s.nest m := by
  simp only [judgeMeasure]; (repeat' split) <;> simp [hm]
@[simp] theorem judgeMeasure_ctx_other (n : NestId) (l : LimitSet) (r : BlockRecord) (mark : Mark) (s : State) {m : NestId} (hm : m ≠ n) :
    (judgeMeasure n l r mark s).ctx m = s.ctx m := by
  simp only [judgeMeasure]; (repeat' split) <;> simp [hm]
@[simp] theorem judgeMeasure_ana_other (n : NestId) (l : LimitSet) (r : BlockRecord) (mark : Mark) (s : State) {m : NestId} (hm : m ≠ n) :
    (judgeMeasure n l r mark s).ana m = s.ana m := by
  simp only [judgeMeasure]; (repeat' split) <;> simp [hm]
@[simp] theorem judgeMeasure_tally_other (n : NestId) (l : LimitSet) (r : BlockRecord) (mark : Mark) (s : State) {m : NestId} (hm : m ≠ n) :
    (judgeMeasure n l r mark s).tally m = s.tally m := by
  simp only [judgeMeasure]; (repeat' split) <;> simp [hm]
@[simp] theorem judgeMeasure_now (n : NestId) (l : LimitSet) (r : BlockRecord) (mark : Mark) (s : State) : (judgeMeasure n l r mark s).now = s.now := by
  simp [State.now, State.lastFrame]
@[simp] theorem judgeMeasure_lot (n : NestId) (l : LimitSet) (r : BlockRecord) (mark : Mark) (s : State) : (judgeMeasure n l r mark s).lot = s.lot := by
  simp [State.lot]

/-! ### judgeByType -/

@[simp] theorem judgeByType_tmb (n : NestId) (l : LimitSet) (r : BlockRecord) (mark : Mark) (s : State) : (judgeByType n l r mark s).tmb = s.tmb := by
  simp only [judgeByType]; (repeat' split) <;> simp
@[simp] theorem judgeByType_fli (n : NestId) (l : LimitSet) (r : BlockRecord) (mark : Mark) (s : State) : (judgeByType n l r mark s).fli = s.fli := by
  simp only [judgeByType]; (repeat' split) <;> simp
@[simp] theorem judgeByType_gdm (n : NestId) (l : LimitSet) (r : BlockRecord) (mark : Mark) (s : State) : (judgeByType n l r mark s).gdm = s.gdm := by
  simp only [judgeByType]; (repeat' split) <;> simp
@[simp] theorem judgeByType_bmu (n : NestId) (l : LimitSet) (r : BlockRecord) (mark : Mark) (s : State) : (judgeByType n l r mark s).bmu = s.bmu := by
  simp only [judgeByType]; (repeat' split) <;> simp
@[simp] theorem judgeByType_ltc (n : NestId) (l : LimitSet) (r : BlockRecord) (mark : Mark) (s : State) : (judgeByType n l r mark s).ltc = s.ltc := by
  simp only [judgeByType]; (repeat' split) <;> simp
@[simp] theorem judgeByType_flg (n : NestId) (l : LimitSet) (r : BlockRecord) (mark : Mark) (s : State) : (judgeByType n l r mark s).flg = s.flg := by
  simp only [judgeByType]; (repeat' split) <;> simp
@[simp] theorem judgeByType_svc (n : NestId) (l : LimitSet) (r : BlockRecord) (mark : Mark) (s : State) : (judgeByType n l r mark s).svc = s.svc := by
  simp only [judgeByType]; (repeat' split) <;> simp
@[simp] theorem judgeByType_free (n : NestId) (l : LimitSet) (r : BlockRecord) (mark : Mark) (s : State) : (judgeByType n l r mark s).free = s.free := by
  simp only [judgeByType]; (repeat' split) <;> simp
@[simp] theorem judgeByType_pending (n : NestId) (l : LimitSet) (r : BlockRecord) (mark : Mark) (s : State) : (judgeByType n l r mark s).pending = s.pending := by
  simp only [judgeByType]; (repeat' split) <;> simp
@[simp] theorem judgeByType_nest_other (n : NestId) (l : LimitSet) (r : BlockRecord) (mark : Mark) (s : State) {m : NestId} (hm : m ≠ n) :
    (judgeByType n l r mark s).nest m = s.nest m := by
  simp only [judgeByType]; (repeat' split) <;> simp [hm]
@[simp] theorem judgeByType_ctx_other (n : NestId) (l : LimitSet) (r : BlockRecord) (mark : Mark) (s : State) {m : NestId} (hm : m ≠ n) :
    (judgeByType n l r mark s).ctx m = s.ctx m := by
  simp only [judgeByType]; (repeat' split) <;> simp [hm]
@[simp] theorem judgeByType_ana_other (n : NestId) (l : LimitSet) (r : BlockRecord) (mark : Mark) (s : State) {m : NestId} (hm : m ≠ n) :
    (judgeByType n l r mark s).ana m = s.ana m := by
  simp only [judgeByType]; (repeat' split) <;> simp [hm]
@[simp] theorem judgeByType_tally_other (n : NestId) (l : LimitSet) (r : BlockRecord) (mark : Mark) (s : State) {m : NestId} (hm : m ≠ n) :
    (judgeByType n l r mark s).tally m = s.tally m := by
  simp only [judgeByType]; (repeat' split) <;> simp [hm]
@[simp] theorem judgeByType_now (n : NestId) (l : LimitSet) (r : BlockRecord) (mark : Mark) (s : State) : (judgeByType n l r mark s).now = s.now := by
  simp [State.now, State.lastFrame]
@[simp] theorem judgeByType_lot (n : NestId) (l : LimitSet) (r : BlockRecord) (mark : Mark) (s : State) : (judgeByType n l r mark s).lot = s.lot := by
  simp [State.lot]

/-! ### blockJudged -/

@[simp] theorem blockJudged_tmb (n : NestId) (index : Nat) (s : State) : (blockJudged n index s).tmb = s.tmb := by
  simp only [blockJudged]; (repeat' split) <;> simp
@[simp] theorem blockJudged_swg (n : NestId) (index : Nat) (s : State) : (blockJudged n index s).swg = s.swg := by
  simp only [blockJudged]; (repeat' split) <;> simp
@[simp] theorem blockJudged_fli (n : NestId) (index : Nat) (s : State) : (blockJudged n index s).fli = s.fli := by
  simp only [blockJudged]; (repeat' split) <;> simp
@[simp] theorem blockJudged_bka (n : NestId) (index : Nat) (s : State) : (blockJudged n index s).bka = s.bka := by
  simp only [blockJudged]; (repeat' split) <;> simp
@[simp] theorem blockJudged_gdm (n : NestId) (index : Nat) (s : State) : (blockJudged n index s).gdm = s.gdm := by
  simp only [blockJudged]; (repeat' split) <;> simp
@[simp] theorem blockJudged_jdu (n : NestId) (index : Nat) (s : State) : (blockJudged n index s).jdu = s.jdu := by
  simp only [blockJudged]; (repeat' split) <;> simp
@[simp] theorem blockJudged_bmu (n : NestId) (index : Nat) (s : State) : (blockJudged n index s).bmu = s.bmu := by
  simp only [blockJudged]; (repeat' split) <;> simp
@[simp] theorem blockJudged_yct (n : NestId) (index : Nat) (s : State) : (blockJudged n index s).yct = s.yct := by
  simp only [blockJudged]; (repeat' split) <;> simp
@[simp] theorem blockJudged_ltc (n : NestId) (index : Nat) (s : State) : (blockJudged n index s).ltc = s.ltc := by
  simp only [blockJudged]; (repeat' split) <;> simp
@[simp] theorem blockJudged_flg (n : NestId) (index : Nat) (s : State) : (blockJudged n index s).flg = s.flg := by
  simp only [blockJudged]; (repeat' split) <;> simp
@[simp] theorem blockJudged_svc (n : NestId) (index : Nat) (s : State) : (blockJudged n index s).svc = s.svc := by
  simp only [blockJudged]; (repeat' split) <;> simp
@[simp] theorem blockJudged_free (n : NestId) (index : Nat) (s : State) : (blockJudged n index s).free = s.free := by
  simp only [blockJudged]; (repeat' split) <;> simp
@[simp] theorem blockJudged_pending (n : NestId) (index : Nat) (s : State) : (blockJudged n index s).pending = s.pending := by
  simp only [blockJudged]; (repeat' split) <;> simp
@[simp] theorem blockJudged_nest_other (n : NestId) (index : Nat) (s : State) {m : NestId} (hm : m ≠ n) :
    (blockJudged n index s).nest m = s.nest m := by
  simp only [blockJudged]; (repeat' split) <;> simp [hm]
@[simp] theorem blockJudged_ctx (n : NestId) (index : Nat) (s : State) (m : NestId) : (blockJudged n index s).ctx m = s.ctx m := by
  simp [State.ctx]
@[simp] theorem blockJudged_ana (n : NestId) (index : Nat) (s : State) (m : NestId) : (blockJudged n index s).ana m = s.ana m := by
  simp [State.ana]
@[simp] theorem blockJudged_tally (n : NestId) (index : Nat) (s : State) (m : NestId) : (blockJudged n index s).tally m = s.tally m := by
  simp [State.tally]
@[simp] theorem blockJudged_now (n : NestId) (index : Nat) (s : State) : (blockJudged n index s).now = s.now := by
  simp [State.now, State.lastFrame]
@[simp] theorem blockJudged_lot (n : NestId) (index : Nat) (s : State) : (blockJudged n index s).lot = s.lot := by
  simp [State.lot]

/-! ### judgeRecord -/

@[simp] theorem judgeRecord_tmb (n : NestId) (r : BlockRecord) (s : State) : (judgeRecord n r s).tmb = s.tmb := by
  simp only [judgeRecord]; (repeat' split) <;> simp
@[simp] theorem judgeRecord_fli (n : NestId) (r : BlockRecord) (s : State) : (judgeRecord n r s).fli = s.fli := by
  simp only [judgeRecord]; (repeat' split) <;> simp
@[simp] theorem judgeRecord_gdm (n : NestId) (r : BlockRecord) (s : State) : (judgeRecord n r s).gdm = s.gdm := by
  simp only [judgeRecord]; (repeat' split) <;> simp
@[simp] theorem judgeRecord_bmu (n : NestId) (r : BlockRecord) (s : State) : (judgeRecord n r s).bmu = s.bmu := by
  simp only [judgeRecord]; (repeat' split) <;> simp
@[simp] theorem judgeRecord_ltc (n : NestId) (r : BlockRecord) (s : State) : (judgeRecord n r s).ltc = s.ltc := by
  simp only [judgeRecord]; (repeat' split) <;> simp
@[simp] theorem judgeRecord_flg (n : NestId) (r : BlockRecord) (s : State) : (judgeRecord n r s).flg = s.flg := by
  simp only [judgeRecord]; (repeat' split) <;> simp
@[simp] theorem judgeRecord_svc (n : NestId) (r : BlockRecord) (s : State) : (judgeRecord n r s).svc = s.svc := by
  simp only [judgeRecord]; (repeat' split) <;> simp
@[simp] theorem judgeRecord_free (n : NestId) (r : BlockRecord) (s : State) : (judgeRecord n r s).free = s.free := by
  simp only [judgeRecord]; (repeat' split) <;> simp
@[simp] theorem judgeRecord_pending (n : NestId) (r : BlockRecord) (s : State) : (judgeRecord n r s).pending = s.pending := by
  simp only [judgeRecord]; (repeat' split) <;> simp
@[simp] theorem judgeRecord_nest_other (n : NestId) (r : BlockRecord) (s : State) {m : NestId} (hm : m ≠ n) :
    (judgeRecord n r s).nest m = s.nest m := by
  simp only [judgeRecord]; (repeat' split) <;> simp [hm]
@[simp] theorem judgeRecord_ctx_other (n : NestId) (r : BlockRecord) (s : State) {m : NestId} (hm : m ≠ n) :
    (judgeRecord n r s).ctx m = s.ctx m := by
  simp only [judgeRecord]; (repeat' split) <;> simp [hm]
@[simp] theorem judgeRecord_ana_other (n : NestId) (r : BlockRecord) (s : State) {m : NestId} (hm : m ≠ n) :
    (judgeRecord n r s).ana m = s.ana m := by
  simp only [judgeRecord]; (repeat' split) <;> simp [hm]
@[simp] theorem judgeRecord_tally_other (n : NestId) (r : BlockRecord) (s : State) {m : NestId} (hm : m ≠ n) :
    (judgeRecord n r s).tally m = s.tally m := by
  simp only [judgeRecord]; (repeat' split) <;> simp [hm]
@[simp] theorem judgeRecord_now (n : NestId) (r : BlockRecord) (s : State) : (judgeRecord n r s).now = s.now := by
  simp [State.now, State.lastFrame]
@[simp] theorem judgeRecord_lot (n : NestId) (r : BlockRecord) (s : State) : (judgeRecord n r s).lot = s.lot := by
  simp [State.lot]

/-! ### departBlocks -/

@[simp] theorem departBlocks_tmb (n : NestId) (s : State) : (departBlocks n s).tmb = s.tmb := by
  simp only [departBlocks]; exact foldl_field (fun u r => by simp) _ _
@[simp] theorem departBlocks_fli (n : NestId) (s : State) : (departBlocks n s).fli = s.fli := by
  simp only [departBlocks]; exact foldl_field (fun u r => by simp) _ _
@[simp] theorem departBlocks_bmu (n : NestId) (s : State) : (departBlocks n s).bmu = s.bmu := by
  simp only [departBlocks]; exact foldl_field (fun u r => by simp) _ _
@[simp] theorem departBlocks_ltc (n : NestId) (s : State) : (departBlocks n s).ltc = s.ltc := by
  simp only [departBlocks]; exact foldl_field (fun u r => by simp) _ _
@[simp] theorem departBlocks_flg (n : NestId) (s : State) : (departBlocks n s).flg = s.flg := by
  simp only [departBlocks]; exact foldl_field (fun u r => by simp) _ _
@[simp] theorem departBlocks_svc (n : NestId) (s : State) : (departBlocks n s).svc = s.svc := by
  simp only [departBlocks]; exact foldl_field (fun u r => by simp) _ _
@[simp] theorem departBlocks_free (n : NestId) (s : State) : (departBlocks n s).free = s.free := by
  simp only [departBlocks]; exact foldl_field (fun u r => by simp) _ _
@[simp] theorem departBlocks_pending (n : NestId) (s : State) : (departBlocks n s).pending = s.pending := by
  simp only [departBlocks]; exact foldl_field (fun u r => by simp) _ _
@[simp] theorem departBlocks_nest_other (n : NestId) (s : State) {m : NestId} (hm : m ≠ n) :
    (departBlocks n s).nest m = s.nest m := by
  simp only [departBlocks]
  exact (foldl_field (p := fun s => s.nest m) (fun u r => by simp [hm]) _ _).trans (by simp [hm])
@[simp] theorem departBlocks_ctx_other (n : NestId) (s : State) {m : NestId} (hm : m ≠ n) :
    (departBlocks n s).ctx m = s.ctx m := by
  simp only [departBlocks]
  exact (foldl_field (p := fun s => s.ctx m) (fun u r => by simp [hm]) _ _).trans (by simp [hm])
@[simp] theorem departBlocks_ana_other (n : NestId) (s : State) {m : NestId} (hm : m ≠ n) :
    (departBlocks n s).ana m = s.ana m := by
  simp only [departBlocks]
  exact (foldl_field (p := fun s => s.ana m) (fun u r => by simp [hm]) _ _).trans (by simp [hm])
@[simp] theorem departBlocks_tally_other (n : NestId) (s : State) {m : NestId} (hm : m ≠ n) :
    (departBlocks n s).tally m = s.tally m := by
  simp only [departBlocks]
  exact (foldl_field (p := fun s => s.tally m) (fun u r => by simp [hm]) _ _).trans (by simp [hm])
@[simp] theorem departBlocks_now (n : NestId) (s : State) : (departBlocks n s).now = s.now := by
  simp [State.now, State.lastFrame]
@[simp] theorem departBlocks_lot (n : NestId) (s : State) : (departBlocks n s).lot = s.lot := by
  simp [State.lot]

end Sys2Proof.Machine
end

