-- ==== Sys2Proof/Laws/Service.lean ====
section
/-! SUPPORT. What the operations of the front link, lots and the service controller leave alone. -/

namespace Sys2Proof.Machine

open Sys2Proof

/-! ### takeLink -/

@[simp] theorem takeLink_tmb (l : LinkState) (s : State) : (takeLink l s).tmb = s.tmb := by
  unfold takeLink; cases l <;> cases s.fli.link <;> first | exact eachNest_startCheck_tmb _ | rfl
@[simp] theorem takeLink_fli (l : LinkState) (s : State) : (takeLink l s).fli = s.fli := by
  unfold takeLink; cases l <;> cases s.fli.link <;> first | exact eachNest_startCheck_fli _ | rfl
@[simp] theorem takeLink_gdm (l : LinkState) (s : State) : (takeLink l s).gdm = s.gdm := by
  unfold takeLink; cases l <;> cases s.fli.link <;> first | exact eachNest_startCheck_gdm _ | rfl
@[simp] theorem takeLink_jdu (l : LinkState) (s : State) : (takeLink l s).jdu = s.jdu := by
  unfold takeLink; cases l <;> cases s.fli.link <;> first | exact eachNest_startCheck_jdu _ | rfl
@[simp] theorem takeLink_bmu (l : LinkState) (s : State) : (takeLink l s).bmu = s.bmu := by
  unfold takeLink; cases l <;> cases s.fli.link <;> first | exact eachNest_startCheck_bmu _ | rfl
@[simp] theorem takeLink_yct (l : LinkState) (s : State) : (takeLink l s).yct = s.yct := by
  unfold takeLink; cases l <;> cases s.fli.link <;> first | exact eachNest_startCheck_yct _ | rfl
@[simp] theorem takeLink_ltc (l : LinkState) (s : State) : (takeLink l s).ltc = s.ltc := by
  unfold takeLink; cases l <;> cases s.fli.link <;> first | exact eachNest_startCheck_ltc _ | rfl
@[simp] theorem takeLink_flg (l : LinkState) (s : State) : (takeLink l s).flg = s.flg := by
  unfold takeLink; cases l <;> cases s.fli.link <;> first | exact eachNest_startCheck_flg _ | rfl
@[simp] theorem takeLink_svc (l : LinkState) (s : State) : (takeLink l s).svc = s.svc := by
  unfold takeLink; cases l <;> cases s.fli.link <;> first | exact eachNest_startCheck_svc _ | rfl
@[simp] theorem takeLink_free (l : LinkState) (s : State) : (takeLink l s).free = s.free := by
  unfold takeLink; cases l <;> cases s.fli.link <;> first | exact eachNest_startCheck_free _ | rfl
@[simp] theorem takeLink_pending (l : LinkState) (s : State) : (takeLink l s).pending = s.pending := by
  unfold takeLink; cases l <;> cases s.fli.link <;> first | exact eachNest_startCheck_pending _ | rfl
@[simp] theorem takeLink_tally (l : LinkState) (s : State) (m : NestId) : (takeLink l s).tally m = s.tally m := by
  simp [State.tally]
@[simp] theorem takeLink_now (l : LinkState) (s : State) : (takeLink l s).now = s.now := by
  simp [State.now, State.lastFrame]
@[simp] theorem takeLink_lot (l : LinkState) (s : State) : (takeLink l s).lot = s.lot := by
  simp [State.lot]

/-! ### frontLostAbort -/

@[simp] theorem frontLostAbort_tmb (n : NestId) (s : State) : (frontLostAbort n s).tmb = s.tmb := by
  simp only [frontLostAbort]; (repeat' split) <;> simp
@[simp] theorem frontLostAbort_fli (n : NestId) (s : State) : (frontLostAbort n s).fli = s.fli := by
  simp only [frontLostAbort]; (repeat' split) <;> simp
@[simp] theorem frontLostAbort_gdm (n : NestId) (s : State) : (frontLostAbort n s).gdm = s.gdm := by
  simp only [frontLostAbort]; (repeat' split) <;> simp
@[simp] theorem frontLostAbort_jdu (n : NestId) (s : State) : (frontLostAbort n s).jdu = s.jdu := by
  simp only [frontLostAbort]; (repeat' split) <;> simp
@[simp] theorem frontLostAbort_bmu (n : NestId) (s : State) : (frontLostAbort n s).bmu = s.bmu := by
  simp only [frontLostAbort]; (repeat' split) <;> simp
@[simp] theorem frontLostAbort_yct (n : NestId) (s : State) : (frontLostAbort n s).yct = s.yct := by
  simp only [frontLostAbort]; (repeat' split) <;> simp
@[simp] theorem frontLostAbort_ltc (n : NestId) (s : State) : (frontLostAbort n s).ltc = s.ltc := by
  simp only [frontLostAbort]; (repeat' split) <;> simp
@[simp] theorem frontLostAbort_flg (n : NestId) (s : State) : (frontLostAbort n s).flg = s.flg := by
  simp only [frontLostAbort]; (repeat' split) <;> simp
@[simp] theorem frontLostAbort_svc (n : NestId) (s : State) : (frontLostAbort n s).svc = s.svc := by
  simp only [frontLostAbort]; (repeat' split) <;> simp
@[simp] theorem frontLostAbort_free (n : NestId) (s : State) : (frontLostAbort n s).free = s.free := by
  simp only [frontLostAbort]; (repeat' split) <;> simp
@[simp] theorem frontLostAbort_pending (n : NestId) (s : State) : (frontLostAbort n s).pending = s.pending := by
  simp only [frontLostAbort]; (repeat' split) <;> simp
@[simp] theorem eachNest_frontLostAbort_tmb (s : State) : (State.eachNest frontLostAbort s).tmb = s.tmb :=
  eachNest_field (p := fun s => s.tmb) (fun n s => frontLostAbort_tmb n s) s
@[simp] theorem eachNest_frontLostAbort_fli (s : State) : (State.eachNest frontLostAbort s).fli = s.fli :=
  eachNest_field (p := fun s => s.fli) (fun n s => frontLostAbort_fli n s) s
@[simp] theorem eachNest_frontLostAbort_gdm (s : State) : (State.eachNest frontLostAbort s).gdm = s.gdm :=
  eachNest_field (p := fun s => s.gdm) (fun n s => frontLostAbort_gdm n s) s
@[simp] theorem eachNest_frontLostAbort_jdu (s : State) : (State.eachNest frontLostAbort s).jdu = s.jdu :=
  eachNest_field (p := fun s => s.jdu) (fun n s => frontLostAbort_jdu n s) s
@[simp] theorem eachNest_frontLostAbort_bmu (s : State) : (State.eachNest frontLostAbort s).bmu = s.bmu :=
  eachNest_field (p := fun s => s.bmu) (fun n s => frontLostAbort_bmu n s) s
@[simp] theorem eachNest_frontLostAbort_yct (s : State) : (State.eachNest frontLostAbort s).yct = s.yct :=
  eachNest_field (p := fun s => s.yct) (fun n s => frontLostAbort_yct n s) s
@[simp] theorem eachNest_frontLostAbort_ltc (s : State) : (State.eachNest frontLostAbort s).ltc = s.ltc :=
  eachNest_field (p := fun s => s.ltc) (fun n s => frontLostAbort_ltc n s) s
@[simp] theorem eachNest_frontLostAbort_flg (s : State) : (State.eachNest frontLostAbort s).flg = s.flg :=
  eachNest_field (p := fun s => s.flg) (fun n s => frontLostAbort_flg n s) s
@[simp] theorem eachNest_frontLostAbort_svc (s : State) : (State.eachNest frontLostAbort s).svc = s.svc :=
  eachNest_field (p := fun s => s.svc) (fun n s => frontLostAbort_svc n s) s
@[simp] theorem eachNest_frontLostAbort_free (s : State) : (State.eachNest frontLostAbort s).free = s.free :=
  eachNest_field (p := fun s => s.free) (fun n s => frontLostAbort_free n s) s
@[simp] theorem eachNest_frontLostAbort_pending (s : State) : (State.eachNest frontLostAbort s).pending = s.pending :=
  eachNest_field (p := fun s => s.pending) (fun n s => frontLostAbort_pending n s) s
@[simp] theorem frontLostAbort_nest_other (n : NestId) (s : State) {m : NestId} (hm : m ≠ n) :
    (frontLostAbort n s).nest m = s.nest m := by
  simp only [frontLostAbort]; (repeat' split) <;> simp [hm]
@[simp] theorem frontLostAbort_ctx_other (n : NestId) (s : State) {m : NestId} (hm : m ≠ n) :
    (frontLostAbort n s).ctx m = s.ctx m := by
  simp only [frontLostAbort]; (repeat' split) <;> simp [hm]
@[simp] theorem frontLostAbort_ana_other (n : NestId) (s : State) {m : NestId} (hm : m ≠ n) :
    (frontLostAbort n s).ana m = s.ana m := by
  simp only [frontLostAbort]; (repeat' split) <;> simp [hm]
@[simp] theorem frontLostAbort_tally (n : NestId) (s : State) (m : NestId) : (frontLostAbort n s).tally m = s.tally m := by
  simp [State.tally]
@[simp] theorem frontLostAbort_now (n : NestId) (s : State) : (frontLostAbort n s).now = s.now := by
  simp [State.now, State.lastFrame]
@[simp] theorem frontLostAbort_lot (n : NestId) (s : State) : (frontLostAbort n s).lot = s.lot := by
  simp [State.lot]

/-! ### loseFront -/

@[simp] theorem loseFront_tmb (s : State) : (loseFront s).tmb = s.tmb := by
  simp only [loseFront]; split <;> simp
@[simp] theorem loseFront_gdm (s : State) : (loseFront s).gdm = s.gdm := by
  simp only [loseFront]; split <;> simp
@[simp] theorem loseFront_jdu (s : State) : (loseFront s).jdu = s.jdu := by
  simp only [loseFront]; split <;> simp
@[simp] theorem loseFront_bmu (s : State) : (loseFront s).bmu = s.bmu := by
  simp only [loseFront]; split <;> simp
@[simp] theorem loseFront_yct (s : State) : (loseFront s).yct = s.yct := by
  simp only [loseFront]; split <;> simp
@[simp] theorem loseFront_ltc (s : State) : (loseFront s).ltc = s.ltc := by
  simp only [loseFront]; split <;> simp
@[simp] theorem loseFront_free (s : State) : (loseFront s).free = s.free := by
  simp only [loseFront]; split <;> simp
@[simp] theorem loseFront_pending (s : State) : (loseFront s).pending = s.pending := by
  simp only [loseFront]; split <;> simp
@[simp] theorem loseFront_tally (s : State) (m : NestId) : (loseFront s).tally m = s.tally m := by
  simp [State.tally]
@[simp] theorem loseFront_now (s : State) : (loseFront s).now = s.now := by
  simp [State.now, State.lastFrame]
@[simp] theorem loseFront_lot (s : State) : (loseFront s).lot = s.lot := by
  simp [State.lot]

/-! ### acceptLot -/

@[simp] theorem acceptLot_tmb (b : Binding) (s : State) : (acceptLot b s).tmb = s.tmb := by
  simp [acceptLot]
@[simp] theorem acceptLot_swg (b : Binding) (s : State) : (acceptLot b s).swg = s.swg := by
  simp [acceptLot]
@[simp] theorem acceptLot_fli (b : Binding) (s : State) : (acceptLot b s).fli = s.fli := by
  simp [acceptLot]
@[simp] theorem acceptLot_bka (b : Binding) (s : State) : (acceptLot b s).bka = s.bka := by
  simp [acceptLot]
@[simp] theorem acceptLot_gdm (b : Binding) (s : State) : (acceptLot b s).gdm = s.gdm := by
  simp [acceptLot]
@[simp] theorem acceptLot_jdu (b : Binding) (s : State) : (acceptLot b s).jdu = s.jdu := by
  simp [acceptLot]
@[simp] theorem acceptLot_bmu (b : Binding) (s : State) : (acceptLot b s).bmu = s.bmu := by
  simp [acceptLot]
@[simp] theorem acceptLot_flg (b : Binding) (s : State) : (acceptLot b s).flg = s.flg := by
  simp [acceptLot]
@[simp] theorem acceptLot_svc (b : Binding) (s : State) : (acceptLot b s).svc = s.svc := by
  simp [acceptLot]
@[simp] theorem acceptLot_free (b : Binding) (s : State) : (acceptLot b s).free = s.free := by
  simp [acceptLot]
@[simp] theorem acceptLot_pending (b : Binding) (s : State) : (acceptLot b s).pending = s.pending := by
  simp [acceptLot]
@[simp] theorem acceptLot_ctx (b : Binding) (s : State) (m : NestId) : (acceptLot b s).ctx m = s.ctx m := by
  simp [State.ctx]
@[simp] theorem acceptLot_ana (b : Binding) (s : State) (m : NestId) : (acceptLot b s).ana m = s.ana m := by
  simp [State.ana]
@[simp] theorem acceptLot_tally (b : Binding) (s : State) (m : NestId) : (acceptLot b s).tally m = s.tally m := by
  simp [State.tally]
@[simp] theorem acceptLot_now (b : Binding) (s : State) : (acceptLot b s).now = s.now := by
  simp [State.now, State.lastFrame]

/-! ### lotAbortNest -/

@[simp] theorem lotAbortNest_tmb (n : NestId) (s : State) : (lotAbortNest n s).tmb = s.tmb := by
  simp only [lotAbortNest]; (repeat' split) <;> simp
@[simp] theorem lotAbortNest_fli (n : NestId) (s : State) : (lotAbortNest n s).fli = s.fli := by
  simp only [lotAbortNest]; (repeat' split) <;> simp
@[simp] theorem lotAbortNest_gdm (n : NestId) (s : State) : (lotAbortNest n s).gdm = s.gdm := by
  simp only [lotAbortNest]; (repeat' split) <;> simp
@[simp] theorem lotAbortNest_jdu (n : NestId) (s : State) : (lotAbortNest n s).jdu = s.jdu := by
  simp only [lotAbortNest]; (repeat' split) <;> simp
@[simp] theorem lotAbortNest_bmu (n : NestId) (s : State) : (lotAbortNest n s).bmu = s.bmu := by
  simp only [lotAbortNest]; (repeat' split) <;> simp
@[simp] theorem lotAbortNest_yct (n : NestId) (s : State) : (lotAbortNest n s).yct = s.yct := by
  simp only [lotAbortNest]; (repeat' split) <;> simp
@[simp] theorem lotAbortNest_ltc (n : NestId) (s : State) : (lotAbortNest n s).ltc = s.ltc := by
  simp only [lotAbortNest]; (repeat' split) <;> simp
@[simp] theorem lotAbortNest_flg (n : NestId) (s : State) : (lotAbortNest n s).flg = s.flg := by
  simp only [lotAbortNest]; (repeat' split) <;> simp
@[simp] theorem lotAbortNest_svc (n : NestId) (s : State) : (lotAbortNest n s).svc = s.svc := by
  simp only [lotAbortNest]; (repeat' split) <;> simp
@[simp] theorem lotAbortNest_free (n : NestId) (s : State) : (lotAbortNest n s).free = s.free := by
  simp only [lotAbortNest]; (repeat' split) <;> simp
@[simp] theorem lotAbortNest_pending (n : NestId) (s : State) : (lotAbortNest n s).pending = s.pending := by
  simp only [lotAbortNest]; (repeat' split) <;> simp
@[simp] theorem eachNest_lotAbortNest_tmb (s : State) : (State.eachNest lotAbortNest s).tmb = s.tmb :=
  eachNest_field (p := fun s => s.tmb) (fun n s => lotAbortNest_tmb n s) s
@[simp] theorem eachNest_lotAbortNest_fli (s : State) : (State.eachNest lotAbortNest s).fli = s.fli :=
  eachNest_field (p := fun s => s.fli) (fun n s => lotAbortNest_fli n s) s
@[simp] theorem eachNest_lotAbortNest_gdm (s : State) : (State.eachNest lotAbortNest s).gdm = s.gdm :=
  eachNest_field (p := fun s => s.gdm) (fun n s => lotAbortNest_gdm n s) s
@[simp] theorem eachNest_lotAbortNest_jdu (s : State) : (State.eachNest lotAbortNest s).jdu = s.jdu :=
  eachNest_field (p := fun s => s.jdu) (fun n s => lotAbortNest_jdu n s) s
@[simp] theorem eachNest_lotAbortNest_bmu (s : State) : (State.eachNest lotAbortNest s).bmu = s.bmu :=
  eachNest_field (p := fun s => s.bmu) (fun n s => lotAbortNest_bmu n s) s
@[simp] theorem eachNest_lotAbortNest_yct (s : State) : (State.eachNest lotAbortNest s).yct = s.yct :=
  eachNest_field (p := fun s => s.yct) (fun n s => lotAbortNest_yct n s) s
@[simp] theorem eachNest_lotAbortNest_ltc (s : State) : (State.eachNest lotAbortNest s).ltc = s.ltc :=
  eachNest_field (p := fun s => s.ltc) (fun n s => lotAbortNest_ltc n s) s
@[simp] theorem eachNest_lotAbortNest_flg (s : State) : (State.eachNest lotAbortNest s).flg = s.flg :=
  eachNest_field (p := fun s => s.flg) (fun n s => lotAbortNest_flg n s) s
@[simp] theorem eachNest_lotAbortNest_svc (s : State) : (State.eachNest lotAbortNest s).svc = s.svc :=
  eachNest_field (p := fun s => s.svc) (fun n s => lotAbortNest_svc n s) s
@[simp] theorem eachNest_lotAbortNest_free (s : State) : (State.eachNest lotAbortNest s).free = s.free :=
  eachNest_field (p := fun s => s.free) (fun n s => lotAbortNest_free n s) s
@[simp] theorem eachNest_lotAbortNest_pending (s : State) : (State.eachNest lotAbortNest s).pending = s.pending :=
  eachNest_field (p := fun s => s.pending) (fun n s => lotAbortNest_pending n s) s
@[simp] theorem lotAbortNest_nest_other (n : NestId) (s : State) {m : NestId} (hm : m ≠ n) :
    (lotAbortNest n s).nest m = s.nest m := by
  simp only [lotAbortNest]; (repeat' split) <;> simp [hm]
@[simp] theorem lotAbortNest_ctx_other (n : NestId) (s : State) {m : NestId} (hm : m ≠ n) :
    (lotAbortNest n s).ctx m = s.ctx m := by
  simp only [lotAbortNest]; (repeat' split) <;> simp [hm]
@[simp] theorem lotAbortNest_ana_other (n : NestId) (s : State) {m : NestId} (hm : m ≠ n) :
    (lotAbortNest n s).ana m = s.ana m := by
  simp only [lotAbortNest]; (repeat' split) <;> simp [hm]
@[simp] theorem lotAbortNest_tally (n : NestId) (s : State) (m : NestId) : (lotAbortNest n s).tally m = s.tally m := by
  simp [State.tally]
@[simp] theorem lotAbortNest_now (n : NestId) (s : State) : (lotAbortNest n s).now = s.now := by
  simp [State.now, State.lastFrame]
@[simp] theorem lotAbortNest_lot (n : NestId) (s : State) : (lotAbortNest n s).lot = s.lot := by
  simp [State.lot]

/-! ### abortLot -/

@[simp] theorem abortLot_tmb (s : State) : (abortLot s).tmb = s.tmb := by
  simp [abortLot]
@[simp] theorem abortLot_fli (s : State) : (abortLot s).fli = s.fli := by
  simp [abortLot]
@[simp] theorem abortLot_gdm (s : State) : (abortLot s).gdm = s.gdm := by
  simp [abortLot]
@[simp] theorem abortLot_jdu (s : State) : (abortLot s).jdu = s.jdu := by
  simp [abortLot]
@[simp] theorem abortLot_bmu (s : State) : (abortLot s).bmu = s.bmu := by
  simp [abortLot]
@[simp] theorem abortLot_yct (s : State) : (abortLot s).yct = s.yct := by
  simp [abortLot]
@[simp] theorem abortLot_free (s : State) : (abortLot s).free = s.free := by
  simp [abortLot]
@[simp] theorem abortLot_pending (s : State) : (abortLot s).pending = s.pending := by
  simp [abortLot]
@[simp] theorem abortLot_tally (s : State) (m : NestId) : (abortLot s).tally m = s.tally m := by
  simp [State.tally]
@[simp] theorem abortLot_now (s : State) : (abortLot s).now = s.now := by
  simp [State.now, State.lastFrame]

/-! ### releaseNest -/

@[simp] theorem releaseNest_tmb (n : NestId) (s : State) : (releaseNest n s).tmb = s.tmb := by
  simp only [releaseNest]; (repeat' split) <;> simp
@[simp] theorem releaseNest_swg (n : NestId) (s : State) : (releaseNest n s).swg = s.swg := by
  simp only [releaseNest]; (repeat' split) <;> simp
@[simp] theorem releaseNest_fli (n : NestId) (s : State) : (releaseNest n s).fli = s.fli := by
  simp only [releaseNest]; (repeat' split) <;> simp
@[simp] theorem releaseNest_bka (n : NestId) (s : State) : (releaseNest n s).bka = s.bka := by
  simp only [releaseNest]; (repeat' split) <;> simp
@[simp] theorem releaseNest_gdm (n : NestId) (s : State) : (releaseNest n s).gdm = s.gdm := by
  simp only [releaseNest]; (repeat' split) <;> simp
@[simp] theorem releaseNest_jdu (n : NestId) (s : State) : (releaseNest n s).jdu = s.jdu := by
  simp only [releaseNest]; (repeat' split) <;> simp
@[simp] theorem releaseNest_bmu (n : NestId) (s : State) : (releaseNest n s).bmu = s.bmu := by
  simp only [releaseNest]; (repeat' split) <;> simp
@[simp] theorem releaseNest_yct (n : NestId) (s : State) : (releaseNest n s).yct = s.yct := by
  simp only [releaseNest]; (repeat' split) <;> simp
@[simp] theorem releaseNest_free (n : NestId) (s : State) : (releaseNest n s).free = s.free := by
  simp only [releaseNest]; (repeat' split) <;> simp
@[simp] theorem releaseNest_pending (n : NestId) (s : State) : (releaseNest n s).pending = s.pending := by
  simp only [releaseNest]; (repeat' split) <;> simp
@[simp] theorem releaseNest_nest_other (n : NestId) (s : State) {m : NestId} (hm : m ≠ n) :
    (releaseNest n s).nest m = s.nest m := by
  simp only [releaseNest]; (repeat' split) <;> simp [hm]
@[simp] theorem releaseNest_ctx (n : NestId) (s : State) (m : NestId) : (releaseNest n s).ctx m = s.ctx m := by
  simp [State.ctx]
@[simp] theorem releaseNest_ana (n : NestId) (s : State) (m : NestId) : (releaseNest n s).ana m = s.ana m := by
  simp [State.ana]
@[simp] theorem releaseNest_tally (n : NestId) (s : State) (m : NestId) : (releaseNest n s).tally m = s.tally m := by
  simp [State.tally]
@[simp] theorem releaseNest_now (n : NestId) (s : State) : (releaseNest n s).now = s.now := by
  simp [State.now, State.lastFrame]

/-! ### overrun -/

@[simp] theorem overrun_tmb (c : Cell) (s : State) : (overrun c s).tmb = s.tmb := by
  simp [overrun]
@[simp] theorem overrun_swg (c : Cell) (s : State) : (overrun c s).swg = s.swg := by
  simp [overrun]
@[simp] theorem overrun_fli (c : Cell) (s : State) : (overrun c s).fli = s.fli := by
  simp [overrun]
@[simp] theorem overrun_bka (c : Cell) (s : State) : (overrun c s).bka = s.bka := by
  simp [overrun]
@[simp] theorem overrun_gdm (c : Cell) (s : State) : (overrun c s).gdm = s.gdm := by
  simp [overrun]
@[simp] theorem overrun_jdu (c : Cell) (s : State) : (overrun c s).jdu = s.jdu := by
  simp [overrun]
@[simp] theorem overrun_tkc (c : Cell) (s : State) : (overrun c s).tkc = s.tkc := by
  simp [overrun]
@[simp] theorem overrun_bmu (c : Cell) (s : State) : (overrun c s).bmu = s.bmu := by
  simp [overrun]
@[simp] theorem overrun_yct (c : Cell) (s : State) : (overrun c s).yct = s.yct := by
  simp [overrun]
@[simp] theorem overrun_ltc (c : Cell) (s : State) : (overrun c s).ltc = s.ltc := by
  simp [overrun]
@[simp] theorem overrun_free (c : Cell) (s : State) : (overrun c s).free = s.free := by
  simp [overrun]
@[simp] theorem overrun_pending (c : Cell) (s : State) : (overrun c s).pending = s.pending := by
  simp [overrun]
@[simp] theorem overrun_nest (c : Cell) (s : State) (m : NestId) : (overrun c s).nest m = s.nest m := by
  simp [State.nest]
@[simp] theorem overrun_ctx (c : Cell) (s : State) (m : NestId) : (overrun c s).ctx m = s.ctx m := by
  simp [State.ctx]
@[simp] theorem overrun_ana (c : Cell) (s : State) (m : NestId) : (overrun c s).ana m = s.ana m := by
  simp [State.ana]
@[simp] theorem overrun_tally (c : Cell) (s : State) (m : NestId) : (overrun c s).tally m = s.tally m := by
  simp [State.tally]
@[simp] theorem overrun_now (c : Cell) (s : State) : (overrun c s).now = s.now := by
  simp [State.now, State.lastFrame]
@[simp] theorem overrun_lot (c : Cell) (s : State) : (overrun c s).lot = s.lot := by
  simp [State.lot]

/-! ### cellError -/

@[simp] theorem cellError_tmb (cause : Nat) (s : State) : (cellError cause s).tmb = s.tmb := by
  simp [cellError]
@[simp] theorem cellError_swg (cause : Nat) (s : State) : (cellError cause s).swg = s.swg := by
  simp [cellError]
@[simp] theorem cellError_fli (cause : Nat) (s : State) : (cellError cause s).fli = s.fli := by
  simp [cellError]
@[simp] theorem cellError_bka (cause : Nat) (s : State) : (cellError cause s).bka = s.bka := by
  simp [cellError]
@[simp] theorem cellError_gdm (cause : Nat) (s : State) : (cellError cause s).gdm = s.gdm := by
  simp [cellError]
@[simp] theorem cellError_jdu (cause : Nat) (s : State) : (cellError cause s).jdu = s.jdu := by
  simp [cellError]
@[simp] theorem cellError_tkc (cause : Nat) (s : State) : (cellError cause s).tkc = s.tkc := by
  simp [cellError]
@[simp] theorem cellError_bmu (cause : Nat) (s : State) : (cellError cause s).bmu = s.bmu := by
  simp [cellError]
@[simp] theorem cellError_ltc (cause : Nat) (s : State) : (cellError cause s).ltc = s.ltc := by
  simp [cellError]
@[simp] theorem cellError_free (cause : Nat) (s : State) : (cellError cause s).free = s.free := by
  simp [cellError]
@[simp] theorem cellError_pending (cause : Nat) (s : State) : (cellError cause s).pending = s.pending := by
  simp [cellError]
@[simp] theorem cellError_nest (cause : Nat) (s : State) (m : NestId) : (cellError cause s).nest m = s.nest m := by
  simp [State.nest]
@[simp] theorem cellError_ctx (cause : Nat) (s : State) (m : NestId) : (cellError cause s).ctx m = s.ctx m := by
  simp [State.ctx]
@[simp] theorem cellError_ana (cause : Nat) (s : State) (m : NestId) : (cellError cause s).ana m = s.ana m := by
  simp [State.ana]
@[simp] theorem cellError_tally (cause : Nat) (s : State) (m : NestId) : (cellError cause s).tally m = s.tally m := by
  simp [State.tally]
@[simp] theorem cellError_now (cause : Nat) (s : State) : (cellError cause s).now = s.now := by
  simp [State.now, State.lastFrame]
@[simp] theorem cellError_lot (cause : Nat) (s : State) : (cellError cause s).lot = s.lot := by
  simp [State.lot]

end Sys2Proof.Machine
end

