-- ==== Sys2Proof/Laws/Requests.lean ====
section
/-! SUPPORT. What each request leaves alone. -/

namespace Sys2Proof.Machine

open Sys2Proof

/-! ### actStatus -/

@[simp] theorem actStatus_tmb (s : State) : (actStatus s).2.tmb = s.tmb := by
  rfl
@[simp] theorem actStatus_swg (s : State) : (actStatus s).2.swg = s.swg := by
  rfl
@[simp] theorem actStatus_fli (s : State) : (actStatus s).2.fli = s.fli := by
  rfl
@[simp] theorem actStatus_bka (s : State) : (actStatus s).2.bka = s.bka := by
  rfl
@[simp] theorem actStatus_gdm (s : State) : (actStatus s).2.gdm = s.gdm := by
  rfl
@[simp] theorem actStatus_jdu (s : State) : (actStatus s).2.jdu = s.jdu := by
  rfl
@[simp] theorem actStatus_tkc (s : State) : (actStatus s).2.tkc = s.tkc := by
  rfl
@[simp] theorem actStatus_bmu (s : State) : (actStatus s).2.bmu = s.bmu := by
  rfl
@[simp] theorem actStatus_yct (s : State) : (actStatus s).2.yct = s.yct := by
  rfl
@[simp] theorem actStatus_ltc (s : State) : (actStatus s).2.ltc = s.ltc := by
  rfl
@[simp] theorem actStatus_flg (s : State) : (actStatus s).2.flg = s.flg := by
  rfl
@[simp] theorem actStatus_svc (s : State) : (actStatus s).2.svc = s.svc := by
  rfl
@[simp] theorem actStatus_free (s : State) : (actStatus s).2.free = s.free := by
  rfl
@[simp] theorem actStatus_pending (s : State) : (actStatus s).2.pending = s.pending := by
  rfl

/-! ### actWriteSegment -/

@[simp] theorem actWriteSegment_tmb (index : Byte) (f : SegmentFields) (s : State) : (actWriteSegment index f s).2.tmb = s.tmb := by
  simp only [actWriteSegment]; (repeat' split) <;> simp
@[simp] theorem actWriteSegment_fli (index : Byte) (f : SegmentFields) (s : State) : (actWriteSegment index f s).2.fli = s.fli := by
  simp only [actWriteSegment]; (repeat' split) <;> simp
@[simp] theorem actWriteSegment_bka (index : Byte) (f : SegmentFields) (s : State) : (actWriteSegment index f s).2.bka = s.bka := by
  simp only [actWriteSegment]; (repeat' split) <;> simp
@[simp] theorem actWriteSegment_gdm (index : Byte) (f : SegmentFields) (s : State) : (actWriteSegment index f s).2.gdm = s.gdm := by
  simp only [actWriteSegment]; (repeat' split) <;> simp
@[simp] theorem actWriteSegment_jdu (index : Byte) (f : SegmentFields) (s : State) : (actWriteSegment index f s).2.jdu = s.jdu := by
  simp only [actWriteSegment]; (repeat' split) <;> simp
@[simp] theorem actWriteSegment_tkc (index : Byte) (f : SegmentFields) (s : State) : (actWriteSegment index f s).2.tkc = s.tkc := by
  simp only [actWriteSegment]; (repeat' split) <;> simp
@[simp] theorem actWriteSegment_bmu (index : Byte) (f : SegmentFields) (s : State) : (actWriteSegment index f s).2.bmu = s.bmu := by
  simp only [actWriteSegment]; (repeat' split) <;> simp
@[simp] theorem actWriteSegment_yct (index : Byte) (f : SegmentFields) (s : State) : (actWriteSegment index f s).2.yct = s.yct := by
  simp only [actWriteSegment]; (repeat' split) <;> simp
@[simp] theorem actWriteSegment_ltc (index : Byte) (f : SegmentFields) (s : State) : (actWriteSegment index f s).2.ltc = s.ltc := by
  simp only [actWriteSegment]; (repeat' split) <;> simp
@[simp] theorem actWriteSegment_flg (index : Byte) (f : SegmentFields) (s : State) : (actWriteSegment index f s).2.flg = s.flg := by
  simp only [actWriteSegment]; (repeat' split) <;> simp
@[simp] theorem actWriteSegment_svc (index : Byte) (f : SegmentFields) (s : State) : (actWriteSegment index f s).2.svc = s.svc := by
  simp only [actWriteSegment]; (repeat' split) <;> simp
@[simp] theorem actWriteSegment_free (index : Byte) (f : SegmentFields) (s : State) : (actWriteSegment index f s).2.free = s.free := by
  simp only [actWriteSegment]; (repeat' split) <;> simp
@[simp] theorem actWriteSegment_pending (index : Byte) (f : SegmentFields) (s : State) : (actWriteSegment index f s).2.pending = s.pending := by
  simp only [actWriteSegment]; (repeat' split) <;> simp

/-! ### actReadSegment -/

@[simp] theorem actReadSegment_tmb (index : Byte) (s : State) : (actReadSegment index s).2.tmb = s.tmb := by
  rfl
@[simp] theorem actReadSegment_swg (index : Byte) (s : State) : (actReadSegment index s).2.swg = s.swg := by
  rfl
@[simp] theorem actReadSegment_fli (index : Byte) (s : State) : (actReadSegment index s).2.fli = s.fli := by
  rfl
@[simp] theorem actReadSegment_bka (index : Byte) (s : State) : (actReadSegment index s).2.bka = s.bka := by
  rfl
@[simp] theorem actReadSegment_gdm (index : Byte) (s : State) : (actReadSegment index s).2.gdm = s.gdm := by
  rfl
@[simp] theorem actReadSegment_jdu (index : Byte) (s : State) : (actReadSegment index s).2.jdu = s.jdu := by
  rfl
@[simp] theorem actReadSegment_tkc (index : Byte) (s : State) : (actReadSegment index s).2.tkc = s.tkc := by
  rfl
@[simp] theorem actReadSegment_bmu (index : Byte) (s : State) : (actReadSegment index s).2.bmu = s.bmu := by
  rfl
@[simp] theorem actReadSegment_yct (index : Byte) (s : State) : (actReadSegment index s).2.yct = s.yct := by
  rfl
@[simp] theorem actReadSegment_ltc (index : Byte) (s : State) : (actReadSegment index s).2.ltc = s.ltc := by
  rfl
@[simp] theorem actReadSegment_flg (index : Byte) (s : State) : (actReadSegment index s).2.flg = s.flg := by
  rfl
@[simp] theorem actReadSegment_svc (index : Byte) (s : State) : (actReadSegment index s).2.svc = s.svc := by
  rfl
@[simp] theorem actReadSegment_free (index : Byte) (s : State) : (actReadSegment index s).2.free = s.free := by
  rfl
@[simp] theorem actReadSegment_pending (index : Byte) (s : State) : (actReadSegment index s).2.pending = s.pending := by
  rfl

/-! ### actWriteLimitHeader -/

@[simp] theorem actWriteLimitHeader_tmb (set : Byte) (f : HeaderFields) (s : State) : (actWriteLimitHeader set f s).2.tmb = s.tmb := by
  simp only [actWriteLimitHeader]; (repeat' split) <;> simp
@[simp] theorem actWriteLimitHeader_swg (set : Byte) (f : HeaderFields) (s : State) : (actWriteLimitHeader set f s).2.swg = s.swg := by
  simp only [actWriteLimitHeader]; (repeat' split) <;> simp
@[simp] theorem actWriteLimitHeader_fli (set : Byte) (f : HeaderFields) (s : State) : (actWriteLimitHeader set f s).2.fli = s.fli := by
  simp only [actWriteLimitHeader]; (repeat' split) <;> simp
@[simp] theorem actWriteLimitHeader_bka (set : Byte) (f : HeaderFields) (s : State) : (actWriteLimitHeader set f s).2.bka = s.bka := by
  simp only [actWriteLimitHeader]; (repeat' split) <;> simp
@[simp] theorem actWriteLimitHeader_gdm (set : Byte) (f : HeaderFields) (s : State) : (actWriteLimitHeader set f s).2.gdm = s.gdm := by
  simp only [actWriteLimitHeader]; (repeat' split) <;> simp
@[simp] theorem actWriteLimitHeader_tkc (set : Byte) (f : HeaderFields) (s : State) : (actWriteLimitHeader set f s).2.tkc = s.tkc := by
  simp only [actWriteLimitHeader]; (repeat' split) <;> simp
@[simp] theorem actWriteLimitHeader_bmu (set : Byte) (f : HeaderFields) (s : State) : (actWriteLimitHeader set f s).2.bmu = s.bmu := by
  simp only [actWriteLimitHeader]; (repeat' split) <;> simp
@[simp] theorem actWriteLimitHeader_yct (set : Byte) (f : HeaderFields) (s : State) : (actWriteLimitHeader set f s).2.yct = s.yct := by
  simp only [actWriteLimitHeader]; (repeat' split) <;> simp
@[simp] theorem actWriteLimitHeader_ltc (set : Byte) (f : HeaderFields) (s : State) : (actWriteLimitHeader set f s).2.ltc = s.ltc := by
  simp only [actWriteLimitHeader]; (repeat' split) <;> simp
@[simp] theorem actWriteLimitHeader_flg (set : Byte) (f : HeaderFields) (s : State) : (actWriteLimitHeader set f s).2.flg = s.flg := by
  simp only [actWriteLimitHeader]; (repeat' split) <;> simp
@[simp] theorem actWriteLimitHeader_svc (set : Byte) (f : HeaderFields) (s : State) : (actWriteLimitHeader set f s).2.svc = s.svc := by
  simp only [actWriteLimitHeader]; (repeat' split) <;> simp
@[simp] theorem actWriteLimitHeader_free (set : Byte) (f : HeaderFields) (s : State) : (actWriteLimitHeader set f s).2.free = s.free := by
  simp only [actWriteLimitHeader]; (repeat' split) <;> simp
@[simp] theorem actWriteLimitHeader_pending (set : Byte) (f : HeaderFields) (s : State) : (actWriteLimitHeader set f s).2.pending = s.pending := by
  simp only [actWriteLimitHeader]; (repeat' split) <;> simp

/-! ### actWriteBand -/

@[simp] theorem actWriteBand_tmb (set index : Byte) (f : BandFields) (s : State) : (actWriteBand set index f s).2.tmb = s.tmb := by
  simp only [actWriteBand]; (repeat' split) <;> simp
@[simp] theorem actWriteBand_swg (set index : Byte) (f : BandFields) (s : State) : (actWriteBand set index f s).2.swg = s.swg := by
  simp only [actWriteBand]; (repeat' split) <;> simp
@[simp] theorem actWriteBand_fli (set index : Byte) (f : BandFields) (s : State) : (actWriteBand set index f s).2.fli = s.fli := by
  simp only [actWriteBand]; (repeat' split) <;> simp
@[simp] theorem actWriteBand_bka (set index : Byte) (f : BandFields) (s : State) : (actWriteBand set index f s).2.bka = s.bka := by
  simp only [actWriteBand]; (repeat' split) <;> simp
@[simp] theorem actWriteBand_gdm (set index : Byte) (f : BandFields) (s : State) : (actWriteBand set index f s).2.gdm = s.gdm := by
  simp only [actWriteBand]; (repeat' split) <;> simp
@[simp] theorem actWriteBand_tkc (set index : Byte) (f : BandFields) (s : State) : (actWriteBand set index f s).2.tkc = s.tkc := by
  simp only [actWriteBand]; (repeat' split) <;> simp
@[simp] theorem actWriteBand_bmu (set index : Byte) (f : BandFields) (s : State) : (actWriteBand set index f s).2.bmu = s.bmu := by
  simp only [actWriteBand]; (repeat' split) <;> simp
@[simp] theorem actWriteBand_yct (set index : Byte) (f : BandFields) (s : State) : (actWriteBand set index f s).2.yct = s.yct := by
  simp only [actWriteBand]; (repeat' split) <;> simp
@[simp] theorem actWriteBand_ltc (set index : Byte) (f : BandFields) (s : State) : (actWriteBand set index f s).2.ltc = s.ltc := by
  simp only [actWriteBand]; (repeat' split) <;> simp
@[simp] theorem actWriteBand_flg (set index : Byte) (f : BandFields) (s : State) : (actWriteBand set index f s).2.flg = s.flg := by
  simp only [actWriteBand]; (repeat' split) <;> simp
@[simp] theorem actWriteBand_svc (set index : Byte) (f : BandFields) (s : State) : (actWriteBand set index f s).2.svc = s.svc := by
  simp only [actWriteBand]; (repeat' split) <;> simp
@[simp] theorem actWriteBand_free (set index : Byte) (f : BandFields) (s : State) : (actWriteBand set index f s).2.free = s.free := by
  simp only [actWriteBand]; (repeat' split) <;> simp
@[simp] theorem actWriteBand_pending (set index : Byte) (f : BandFields) (s : State) : (actWriteBand set index f s).2.pending = s.pending := by
  simp only [actWriteBand]; (repeat' split) <;> simp

/-! ### actReadLimit -/

@[simp] theorem actReadLimit_tmb (set selector : Byte) (s : State) : (actReadLimit set selector s).2.tmb = s.tmb := by
  simp only [actReadLimit]; (repeat' split) <;> simp
@[simp] theorem actReadLimit_swg (set selector : Byte) (s : State) : (actReadLimit set selector s).2.swg = s.swg := by
  simp only [actReadLimit]; (repeat' split) <;> simp
@[simp] theorem actReadLimit_fli (set selector : Byte) (s : State) : (actReadLimit set selector s).2.fli = s.fli := by
  simp only [actReadLimit]; (repeat' split) <;> simp
@[simp] theorem actReadLimit_bka (set selector : Byte) (s : State) : (actReadLimit set selector s).2.bka = s.bka := by
  simp only [actReadLimit]; (repeat' split) <;> simp
@[simp] theorem actReadLimit_gdm (set selector : Byte) (s : State) : (actReadLimit set selector s).2.gdm = s.gdm := by
  simp only [actReadLimit]; (repeat' split) <;> simp
@[simp] theorem actReadLimit_jdu (set selector : Byte) (s : State) : (actReadLimit set selector s).2.jdu = s.jdu := by
  simp only [actReadLimit]; (repeat' split) <;> simp
@[simp] theorem actReadLimit_tkc (set selector : Byte) (s : State) : (actReadLimit set selector s).2.tkc = s.tkc := by
  simp only [actReadLimit]; (repeat' split) <;> simp
@[simp] theorem actReadLimit_bmu (set selector : Byte) (s : State) : (actReadLimit set selector s).2.bmu = s.bmu := by
  simp only [actReadLimit]; (repeat' split) <;> simp
@[simp] theorem actReadLimit_yct (set selector : Byte) (s : State) : (actReadLimit set selector s).2.yct = s.yct := by
  simp only [actReadLimit]; (repeat' split) <;> simp
@[simp] theorem actReadLimit_ltc (set selector : Byte) (s : State) : (actReadLimit set selector s).2.ltc = s.ltc := by
  simp only [actReadLimit]; (repeat' split) <;> simp
@[simp] theorem actReadLimit_flg (set selector : Byte) (s : State) : (actReadLimit set selector s).2.flg = s.flg := by
  simp only [actReadLimit]; (repeat' split) <;> simp
@[simp] theorem actReadLimit_svc (set selector : Byte) (s : State) : (actReadLimit set selector s).2.svc = s.svc := by
  simp only [actReadLimit]; (repeat' split) <;> simp
@[simp] theorem actReadLimit_free (set selector : Byte) (s : State) : (actReadLimit set selector s).2.free = s.free := by
  simp only [actReadLimit]; (repeat' split) <;> simp
@[simp] theorem actReadLimit_pending (set selector : Byte) (s : State) : (actReadLimit set selector s).2.pending = s.pending := by
  simp only [actReadLimit]; (repeat' split) <;> simp

/-! ### actWriteBinmap -/

@[simp] theorem actWriteBinmap_tmb (first count : Byte) (es : List BinFields) (s : State) : (actWriteBinmap first count es s).2.tmb = s.tmb := by
  simp only [actWriteBinmap]; (repeat' split) <;> simp [writeBins]
@[simp] theorem actWriteBinmap_swg (first count : Byte) (es : List BinFields) (s : State) : (actWriteBinmap first count es s).2.swg = s.swg := by
  simp only [actWriteBinmap]; (repeat' split) <;> simp [writeBins]
@[simp] theorem actWriteBinmap_fli (first count : Byte) (es : List BinFields) (s : State) : (actWriteBinmap first count es s).2.fli = s.fli := by
  simp only [actWriteBinmap]; (repeat' split) <;> simp [writeBins]
@[simp] theorem actWriteBinmap_bka (first count : Byte) (es : List BinFields) (s : State) : (actWriteBinmap first count es s).2.bka = s.bka := by
  simp only [actWriteBinmap]; (repeat' split) <;> simp [writeBins]
@[simp] theorem actWriteBinmap_gdm (first count : Byte) (es : List BinFields) (s : State) : (actWriteBinmap first count es s).2.gdm = s.gdm := by
  simp only [actWriteBinmap]; (repeat' split) <;> simp [writeBins]
@[simp] theorem actWriteBinmap_jdu (first count : Byte) (es : List BinFields) (s : State) : (actWriteBinmap first count es s).2.jdu = s.jdu := by
  simp only [actWriteBinmap]; (repeat' split) <;> simp [writeBins]
@[simp] theorem actWriteBinmap_tkc (first count : Byte) (es : List BinFields) (s : State) : (actWriteBinmap first count es s).2.tkc = s.tkc := by
  simp only [actWriteBinmap]; (repeat' split) <;> simp [writeBins]
@[simp] theorem actWriteBinmap_yct (first count : Byte) (es : List BinFields) (s : State) : (actWriteBinmap first count es s).2.yct = s.yct := by
  simp only [actWriteBinmap]; (repeat' split) <;> simp [writeBins]
@[simp] theorem actWriteBinmap_ltc (first count : Byte) (es : List BinFields) (s : State) : (actWriteBinmap first count es s).2.ltc = s.ltc := by
  simp only [actWriteBinmap]; (repeat' split) <;> simp [writeBins]
@[simp] theorem actWriteBinmap_flg (first count : Byte) (es : List BinFields) (s : State) : (actWriteBinmap first count es s).2.flg = s.flg := by
  simp only [actWriteBinmap]; (repeat' split) <;> simp [writeBins]
@[simp] theorem actWriteBinmap_svc (first count : Byte) (es : List BinFields) (s : State) : (actWriteBinmap first count es s).2.svc = s.svc := by
  simp only [actWriteBinmap]; (repeat' split) <;> simp [writeBins]
@[simp] theorem actWriteBinmap_free (first count : Byte) (es : List BinFields) (s : State) : (actWriteBinmap first count es s).2.free = s.free := by
  simp only [actWriteBinmap]; (repeat' split) <;> simp [writeBins]
@[simp] theorem actWriteBinmap_pending (first count : Byte) (es : List BinFields) (s : State) : (actWriteBinmap first count es s).2.pending = s.pending := by
  simp only [actWriteBinmap]; (repeat' split) <;> simp [writeBins]

/-! ### actReadBinmap -/

@[simp] theorem actReadBinmap_tmb (first count : Byte) (s : State) : (actReadBinmap first count s).2.tmb = s.tmb := by
  simp only [actReadBinmap]; (repeat' split) <;> simp
@[simp] theorem actReadBinmap_swg (first count : Byte) (s : State) : (actReadBinmap first count s).2.swg = s.swg := by
  simp only [actReadBinmap]; (repeat' split) <;> simp
@[simp] theorem actReadBinmap_fli (first count : Byte) (s : State) : (actReadBinmap first count s).2.fli = s.fli := by
  simp only [actReadBinmap]; (repeat' split) <;> simp
@[simp] theorem actReadBinmap_bka (first count : Byte) (s : State) : (actReadBinmap first count s).2.bka = s.bka := by
  simp only [actReadBinmap]; (repeat' split) <;> simp
@[simp] theorem actReadBinmap_gdm (first count : Byte) (s : State) : (actReadBinmap first count s).2.gdm = s.gdm := by
  simp only [actReadBinmap]; (repeat' split) <;> simp
@[simp] theorem actReadBinmap_jdu (first count : Byte) (s : State) : (actReadBinmap first count s).2.jdu = s.jdu := by
  simp only [actReadBinmap]; (repeat' split) <;> simp
@[simp] theorem actReadBinmap_tkc (first count : Byte) (s : State) : (actReadBinmap first count s).2.tkc = s.tkc := by
  simp only [actReadBinmap]; (repeat' split) <;> simp
@[simp] theorem actReadBinmap_bmu (first count : Byte) (s : State) : (actReadBinmap first count s).2.bmu = s.bmu := by
  simp only [actReadBinmap]; (repeat' split) <;> simp
@[simp] theorem actReadBinmap_yct (first count : Byte) (s : State) : (actReadBinmap first count s).2.yct = s.yct := by
  simp only [actReadBinmap]; (repeat' split) <;> simp
@[simp] theorem actReadBinmap_ltc (first count : Byte) (s : State) : (actReadBinmap first count s).2.ltc = s.ltc := by
  simp only [actReadBinmap]; (repeat' split) <;> simp
@[simp] theorem actReadBinmap_flg (first count : Byte) (s : State) : (actReadBinmap first count s).2.flg = s.flg := by
  simp only [actReadBinmap]; (repeat' split) <;> simp
@[simp] theorem actReadBinmap_svc (first count : Byte) (s : State) : (actReadBinmap first count s).2.svc = s.svc := by
  simp only [actReadBinmap]; (repeat' split) <;> simp
@[simp] theorem actReadBinmap_free (first count : Byte) (s : State) : (actReadBinmap first count s).2.free = s.free := by
  simp only [actReadBinmap]; (repeat' split) <;> simp
@[simp] theorem actReadBinmap_pending (first count : Byte) (s : State) : (actReadBinmap first count s).2.pending = s.pending := by
  simp only [actReadBinmap]; (repeat' split) <;> simp

/-! ### actWriteNest -/

@[simp] theorem actWriteNest_tmb (nest : Byte) (f : NestFields) (s : State) : (actWriteNest nest f s).2.tmb = s.tmb := by
  simp only [actWriteNest]; (repeat' split) <;> simp
@[simp] theorem actWriteNest_swg (nest : Byte) (f : NestFields) (s : State) : (actWriteNest nest f s).2.swg = s.swg := by
  simp only [actWriteNest]; (repeat' split) <;> simp
@[simp] theorem actWriteNest_fli (nest : Byte) (f : NestFields) (s : State) : (actWriteNest nest f s).2.fli = s.fli := by
  simp only [actWriteNest]; (repeat' split) <;> simp
@[simp] theorem actWriteNest_bka (nest : Byte) (f : NestFields) (s : State) : (actWriteNest nest f s).2.bka = s.bka := by
  simp only [actWriteNest]; (repeat' split) <;> simp
@[simp] theorem actWriteNest_gdm (nest : Byte) (f : NestFields) (s : State) : (actWriteNest nest f s).2.gdm = s.gdm := by
  simp only [actWriteNest]; (repeat' split) <;> simp
@[simp] theorem actWriteNest_jdu (nest : Byte) (f : NestFields) (s : State) : (actWriteNest nest f s).2.jdu = s.jdu := by
  simp only [actWriteNest]; (repeat' split) <;> simp
@[simp] theorem actWriteNest_bmu (nest : Byte) (f : NestFields) (s : State) : (actWriteNest nest f s).2.bmu = s.bmu := by
  simp only [actWriteNest]; (repeat' split) <;> simp
@[simp] theorem actWriteNest_yct (nest : Byte) (f : NestFields) (s : State) : (actWriteNest nest f s).2.yct = s.yct := by
  simp only [actWriteNest]; (repeat' split) <;> simp
@[simp] theorem actWriteNest_ltc (nest : Byte) (f : NestFields) (s : State) : (actWriteNest nest f s).2.ltc = s.ltc := by
  simp only [actWriteNest]; (repeat' split) <;> simp
@[simp] theorem actWriteNest_flg (nest : Byte) (f : NestFields) (s : State) : (actWriteNest nest f s).2.flg = s.flg := by
  simp only [actWriteNest]; (repeat' split) <;> simp
@[simp] theorem actWriteNest_svc (nest : Byte) (f : NestFields) (s : State) : (actWriteNest nest f s).2.svc = s.svc := by
  simp only [actWriteNest]; (repeat' split) <;> simp
@[simp] theorem actWriteNest_free (nest : Byte) (f : NestFields) (s : State) : (actWriteNest nest f s).2.free = s.free := by
  simp only [actWriteNest]; (repeat' split) <;> simp
@[simp] theorem actWriteNest_pending (nest : Byte) (f : NestFields) (s : State) : (actWriteNest nest f s).2.pending = s.pending := by
  simp only [actWriteNest]; (repeat' split) <;> simp

/-! ### actReadNest -/

@[simp] theorem actReadNest_tmb (nest : Byte) (s : State) : (actReadNest nest s).2.tmb = s.tmb := by
  simp only [actReadNest]; (repeat' split) <;> simp
@[simp] theorem actReadNest_swg (nest : Byte) (s : State) : (actReadNest nest s).2.swg = s.swg := by
  simp only [actReadNest]; (repeat' split) <;> simp
@[simp] theorem actReadNest_fli (nest : Byte) (s : State) : (actReadNest nest s).2.fli = s.fli := by
  simp only [actReadNest]; (repeat' split) <;> simp
@[simp] theorem actReadNest_bka (nest : Byte) (s : State) : (actReadNest nest s).2.bka = s.bka := by
  simp only [actReadNest]; (repeat' split) <;> simp
@[simp] theorem actReadNest_gdm (nest : Byte) (s : State) : (actReadNest nest s).2.gdm = s.gdm := by
  simp only [actReadNest]; (repeat' split) <;> simp
@[simp] theorem actReadNest_jdu (nest : Byte) (s : State) : (actReadNest nest s).2.jdu = s.jdu := by
  simp only [actReadNest]; (repeat' split) <;> simp
@[simp] theorem actReadNest_tkc (nest : Byte) (s : State) : (actReadNest nest s).2.tkc = s.tkc := by
  simp only [actReadNest]; (repeat' split) <;> simp
@[simp] theorem actReadNest_bmu (nest : Byte) (s : State) : (actReadNest nest s).2.bmu = s.bmu := by
  simp only [actReadNest]; (repeat' split) <;> simp
@[simp] theorem actReadNest_yct (nest : Byte) (s : State) : (actReadNest nest s).2.yct = s.yct := by
  simp only [actReadNest]; (repeat' split) <;> simp
@[simp] theorem actReadNest_ltc (nest : Byte) (s : State) : (actReadNest nest s).2.ltc = s.ltc := by
  simp only [actReadNest]; (repeat' split) <;> simp
@[simp] theorem actReadNest_flg (nest : Byte) (s : State) : (actReadNest nest s).2.flg = s.flg := by
  simp only [actReadNest]; (repeat' split) <;> simp
@[simp] theorem actReadNest_svc (nest : Byte) (s : State) : (actReadNest nest s).2.svc = s.svc := by
  simp only [actReadNest]; (repeat' split) <;> simp
@[simp] theorem actReadNest_free (nest : Byte) (s : State) : (actReadNest nest s).2.free = s.free := by
  simp only [actReadNest]; (repeat' split) <;> simp
@[simp] theorem actReadNest_pending (nest : Byte) (s : State) : (actReadNest nest s).2.pending = s.pending := by
  simp only [actReadNest]; (repeat' split) <;> simp

/-! ### actWriteLine -/

@[simp] theorem actWriteLine_tmb (f : LineFields) (s : State) : (actWriteLine f s).2.tmb = s.tmb := by
  simp only [actWriteLine]; split <;> simp [writeLine]
@[simp] theorem actWriteLine_swg (f : LineFields) (s : State) : (actWriteLine f s).2.swg = s.swg := by
  simp only [actWriteLine]; split <;> simp [writeLine]
@[simp] theorem actWriteLine_fli (f : LineFields) (s : State) : (actWriteLine f s).2.fli = s.fli := by
  simp only [actWriteLine]; split <;> simp [writeLine]
@[simp] theorem actWriteLine_bka (f : LineFields) (s : State) : (actWriteLine f s).2.bka = s.bka := by
  simp only [actWriteLine]; split <;> simp [writeLine]
@[simp] theorem actWriteLine_jdu (f : LineFields) (s : State) : (actWriteLine f s).2.jdu = s.jdu := by
  simp only [actWriteLine]; split <;> simp [writeLine]
@[simp] theorem actWriteLine_yct (f : LineFields) (s : State) : (actWriteLine f s).2.yct = s.yct := by
  simp only [actWriteLine]; split <;> simp [writeLine]
@[simp] theorem actWriteLine_ltc (f : LineFields) (s : State) : (actWriteLine f s).2.ltc = s.ltc := by
  simp only [actWriteLine]; split <;> simp [writeLine]
@[simp] theorem actWriteLine_svc (f : LineFields) (s : State) : (actWriteLine f s).2.svc = s.svc := by
  simp only [actWriteLine]; split <;> simp [writeLine]
@[simp] theorem actWriteLine_free (f : LineFields) (s : State) : (actWriteLine f s).2.free = s.free := by
  simp only [actWriteLine]; split <;> simp [writeLine]
@[simp] theorem actWriteLine_pending (f : LineFields) (s : State) : (actWriteLine f s).2.pending = s.pending := by
  simp only [actWriteLine]; split <;> simp [writeLine]

/-! ### actReadLine -/

@[simp] theorem actReadLine_tmb (s : State) : (actReadLine s).2.tmb = s.tmb := by
  rfl
@[simp] theorem actReadLine_swg (s : State) : (actReadLine s).2.swg = s.swg := by
  rfl
@[simp] theorem actReadLine_fli (s : State) : (actReadLine s).2.fli = s.fli := by
  rfl
@[simp] theorem actReadLine_bka (s : State) : (actReadLine s).2.bka = s.bka := by
  rfl
@[simp] theorem actReadLine_gdm (s : State) : (actReadLine s).2.gdm = s.gdm := by
  rfl
@[simp] theorem actReadLine_jdu (s : State) : (actReadLine s).2.jdu = s.jdu := by
  rfl
@[simp] theorem actReadLine_tkc (s : State) : (actReadLine s).2.tkc = s.tkc := by
  rfl
@[simp] theorem actReadLine_bmu (s : State) : (actReadLine s).2.bmu = s.bmu := by
  rfl
@[simp] theorem actReadLine_yct (s : State) : (actReadLine s).2.yct = s.yct := by
  rfl
@[simp] theorem actReadLine_ltc (s : State) : (actReadLine s).2.ltc = s.ltc := by
  rfl
@[simp] theorem actReadLine_flg (s : State) : (actReadLine s).2.flg = s.flg := by
  rfl
@[simp] theorem actReadLine_svc (s : State) : (actReadLine s).2.svc = s.svc := by
  rfl
@[simp] theorem actReadLine_free (s : State) : (actReadLine s).2.free = s.free := by
  rfl
@[simp] theorem actReadLine_pending (s : State) : (actReadLine s).2.pending = s.pending := by
  rfl

/-! ### actLotOpen -/

@[simp] theorem actLotOpen_tmb (f : LotFields) (s : State) : (actLotOpen f s).2.tmb = s.tmb := by
  simp only [actLotOpen]; (repeat' split) <;> simp
@[simp] theorem actLotOpen_swg (f : LotFields) (s : State) : (actLotOpen f s).2.swg = s.swg := by
  simp only [actLotOpen]; (repeat' split) <;> simp
@[simp] theorem actLotOpen_fli (f : LotFields) (s : State) : (actLotOpen f s).2.fli = s.fli := by
  simp only [actLotOpen]; (repeat' split) <;> simp
@[simp] theorem actLotOpen_bka (f : LotFields) (s : State) : (actLotOpen f s).2.bka = s.bka := by
  simp only [actLotOpen]; (repeat' split) <;> simp
@[simp] theorem actLotOpen_gdm (f : LotFields) (s : State) : (actLotOpen f s).2.gdm = s.gdm := by
  simp only [actLotOpen]; (repeat' split) <;> simp
@[simp] theorem actLotOpen_jdu (f : LotFields) (s : State) : (actLotOpen f s).2.jdu = s.jdu := by
  simp only [actLotOpen]; (repeat' split) <;> simp
@[simp] theorem actLotOpen_bmu (f : LotFields) (s : State) : (actLotOpen f s).2.bmu = s.bmu := by
  simp only [actLotOpen]; (repeat' split) <;> simp
@[simp] theorem actLotOpen_flg (f : LotFields) (s : State) : (actLotOpen f s).2.flg = s.flg := by
  simp only [actLotOpen]; (repeat' split) <;> simp
@[simp] theorem actLotOpen_svc (f : LotFields) (s : State) : (actLotOpen f s).2.svc = s.svc := by
  simp only [actLotOpen]; (repeat' split) <;> simp
@[simp] theorem actLotOpen_free (f : LotFields) (s : State) : (actLotOpen f s).2.free = s.free := by
  simp only [actLotOpen]; (repeat' split) <;> simp
@[simp] theorem actLotOpen_pending (f : LotFields) (s : State) : (actLotOpen f s).2.pending = s.pending := by
  simp only [actLotOpen]; (repeat' split) <;> simp

/-! ### actLotClose -/

@[simp] theorem actLotClose_tmb (s : State) : (actLotClose s).2.tmb = s.tmb := by
  simp only [actLotClose]; (repeat' split) <;> simp
@[simp] theorem actLotClose_swg (s : State) : (actLotClose s).2.swg = s.swg := by
  simp only [actLotClose]; (repeat' split) <;> simp
@[simp] theorem actLotClose_fli (s : State) : (actLotClose s).2.fli = s.fli := by
  simp only [actLotClose]; (repeat' split) <;> simp
@[simp] theorem actLotClose_bka (s : State) : (actLotClose s).2.bka = s.bka := by
  simp only [actLotClose]; (repeat' split) <;> simp
@[simp] theorem actLotClose_gdm (s : State) : (actLotClose s).2.gdm = s.gdm := by
  simp only [actLotClose]; (repeat' split) <;> simp
@[simp] theorem actLotClose_jdu (s : State) : (actLotClose s).2.jdu = s.jdu := by
  simp only [actLotClose]; (repeat' split) <;> simp
@[simp] theorem actLotClose_tkc (s : State) : (actLotClose s).2.tkc = s.tkc := by
  simp only [actLotClose]; (repeat' split) <;> simp
@[simp] theorem actLotClose_bmu (s : State) : (actLotClose s).2.bmu = s.bmu := by
  simp only [actLotClose]; (repeat' split) <;> simp
@[simp] theorem actLotClose_yct (s : State) : (actLotClose s).2.yct = s.yct := by
  simp only [actLotClose]; (repeat' split) <;> simp
@[simp] theorem actLotClose_free (s : State) : (actLotClose s).2.free = s.free := by
  simp only [actLotClose]; (repeat' split) <;> simp
@[simp] theorem actLotClose_pending (s : State) : (actLotClose s).2.pending = s.pending := by
  simp only [actLotClose]; (repeat' split) <;> simp

/-! ### actLotAbort -/

@[simp] theorem actLotAbort_tmb (s : State) : (actLotAbort s).2.tmb = s.tmb := by
  simp only [actLotAbort]; (repeat' split) <;> simp
@[simp] theorem actLotAbort_fli (s : State) : (actLotAbort s).2.fli = s.fli := by
  simp only [actLotAbort]; (repeat' split) <;> simp
@[simp] theorem actLotAbort_gdm (s : State) : (actLotAbort s).2.gdm = s.gdm := by
  simp only [actLotAbort]; (repeat' split) <;> simp
@[simp] theorem actLotAbort_jdu (s : State) : (actLotAbort s).2.jdu = s.jdu := by
  simp only [actLotAbort]; (repeat' split) <;> simp
@[simp] theorem actLotAbort_bmu (s : State) : (actLotAbort s).2.bmu = s.bmu := by
  simp only [actLotAbort]; (repeat' split) <;> simp
@[simp] theorem actLotAbort_yct (s : State) : (actLotAbort s).2.yct = s.yct := by
  simp only [actLotAbort]; (repeat' split) <;> simp
@[simp] theorem actLotAbort_free (s : State) : (actLotAbort s).2.free = s.free := by
  simp only [actLotAbort]; (repeat' split) <;> simp
@[simp] theorem actLotAbort_pending (s : State) : (actLotAbort s).2.pending = s.pending := by
  simp only [actLotAbort]; (repeat' split) <;> simp

/-! ### actNestStart -/

@[simp] theorem actNestStart_tmb (nest : Byte) (s : State) : (actNestStart nest s).2.tmb = s.tmb := by
  simp only [actNestStart]; (repeat' split) <;> simp
@[simp] theorem actNestStart_gdm (nest : Byte) (s : State) : (actNestStart nest s).2.gdm = s.gdm := by
  simp only [actNestStart]; (repeat' split) <;> simp
@[simp] theorem actNestStart_bmu (nest : Byte) (s : State) : (actNestStart nest s).2.bmu = s.bmu := by
  simp only [actNestStart]; (repeat' split) <;> simp
@[simp] theorem actNestStart_flg (nest : Byte) (s : State) : (actNestStart nest s).2.flg = s.flg := by
  simp only [actNestStart]; (repeat' split) <;> simp
@[simp] theorem actNestStart_svc (nest : Byte) (s : State) : (actNestStart nest s).2.svc = s.svc := by
  simp only [actNestStart]; (repeat' split) <;> simp
@[simp] theorem actNestStart_free (nest : Byte) (s : State) : (actNestStart nest s).2.free = s.free := by
  simp only [actNestStart]; (repeat' split) <;> simp
@[simp] theorem actNestStart_pending (nest : Byte) (s : State) : (actNestStart nest s).2.pending = s.pending := by
  simp only [actNestStart]; (repeat' split) <;> simp

/-! ### actNestEnable -/

@[simp] theorem actNestEnable_tmb (nest : Byte) (s : State) : (actNestEnable nest s).2.tmb = s.tmb := by
  simp only [actNestEnable]; split <;> simp
@[simp] theorem actNestEnable_swg (nest : Byte) (s : State) : (actNestEnable nest s).2.swg = s.swg := by
  simp only [actNestEnable]; split <;> simp
@[simp] theorem actNestEnable_fli (nest : Byte) (s : State) : (actNestEnable nest s).2.fli = s.fli := by
  simp only [actNestEnable]; split <;> simp
@[simp] theorem actNestEnable_bka (nest : Byte) (s : State) : (actNestEnable nest s).2.bka = s.bka := by
  simp only [actNestEnable]; split <;> simp
@[simp] theorem actNestEnable_gdm (nest : Byte) (s : State) : (actNestEnable nest s).2.gdm = s.gdm := by
  simp only [actNestEnable]; split <;> simp
@[simp] theorem actNestEnable_jdu (nest : Byte) (s : State) : (actNestEnable nest s).2.jdu = s.jdu := by
  simp only [actNestEnable]; split <;> simp
@[simp] theorem actNestEnable_bmu (nest : Byte) (s : State) : (actNestEnable nest s).2.bmu = s.bmu := by
  simp only [actNestEnable]; split <;> simp
@[simp] theorem actNestEnable_yct (nest : Byte) (s : State) : (actNestEnable nest s).2.yct = s.yct := by
  simp only [actNestEnable]; split <;> simp
@[simp] theorem actNestEnable_ltc (nest : Byte) (s : State) : (actNestEnable nest s).2.ltc = s.ltc := by
  simp only [actNestEnable]; split <;> simp
@[simp] theorem actNestEnable_flg (nest : Byte) (s : State) : (actNestEnable nest s).2.flg = s.flg := by
  simp only [actNestEnable]; split <;> simp
@[simp] theorem actNestEnable_svc (nest : Byte) (s : State) : (actNestEnable nest s).2.svc = s.svc := by
  simp only [actNestEnable]; split <;> simp
@[simp] theorem actNestEnable_free (nest : Byte) (s : State) : (actNestEnable nest s).2.free = s.free := by
  simp only [actNestEnable]; split <;> simp
@[simp] theorem actNestEnable_pending (nest : Byte) (s : State) : (actNestEnable nest s).2.pending = s.pending := by
  simp only [actNestEnable]; split <;> simp

/-! ### actNestDisable -/

@[simp] theorem actNestDisable_tmb (nest : Byte) (s : State) : (actNestDisable nest s).2.tmb = s.tmb := by
  simp only [actNestDisable]; split <;> simp
@[simp] theorem actNestDisable_swg (nest : Byte) (s : State) : (actNestDisable nest s).2.swg = s.swg := by
  simp only [actNestDisable]; split <;> simp
@[simp] theorem actNestDisable_fli (nest : Byte) (s : State) : (actNestDisable nest s).2.fli = s.fli := by
  simp only [actNestDisable]; split <;> simp
@[simp] theorem actNestDisable_bka (nest : Byte) (s : State) : (actNestDisable nest s).2.bka = s.bka := by
  simp only [actNestDisable]; split <;> simp
@[simp] theorem actNestDisable_gdm (nest : Byte) (s : State) : (actNestDisable nest s).2.gdm = s.gdm := by
  simp only [actNestDisable]; split <;> simp
@[simp] theorem actNestDisable_jdu (nest : Byte) (s : State) : (actNestDisable nest s).2.jdu = s.jdu := by
  simp only [actNestDisable]; split <;> simp
@[simp] theorem actNestDisable_bmu (nest : Byte) (s : State) : (actNestDisable nest s).2.bmu = s.bmu := by
  simp only [actNestDisable]; split <;> simp
@[simp] theorem actNestDisable_yct (nest : Byte) (s : State) : (actNestDisable nest s).2.yct = s.yct := by
  simp only [actNestDisable]; split <;> simp
@[simp] theorem actNestDisable_ltc (nest : Byte) (s : State) : (actNestDisable nest s).2.ltc = s.ltc := by
  simp only [actNestDisable]; split <;> simp
@[simp] theorem actNestDisable_flg (nest : Byte) (s : State) : (actNestDisable nest s).2.flg = s.flg := by
  simp only [actNestDisable]; split <;> simp
@[simp] theorem actNestDisable_svc (nest : Byte) (s : State) : (actNestDisable nest s).2.svc = s.svc := by
  simp only [actNestDisable]; split <;> simp
@[simp] theorem actNestDisable_free (nest : Byte) (s : State) : (actNestDisable nest s).2.free = s.free := by
  simp only [actNestDisable]; split <;> simp
@[simp] theorem actNestDisable_pending (nest : Byte) (s : State) : (actNestDisable nest s).2.pending = s.pending := by
  simp only [actNestDisable]; split <;> simp

/-! ### actReleaseTicket -/

@[simp] theorem actReleaseTicket_tmb (nest : Byte) (s : State) : (actReleaseTicket nest s).2.tmb = s.tmb := by
  simp only [actReleaseTicket]; (repeat' split) <;> simp
@[simp] theorem actReleaseTicket_swg (nest : Byte) (s : State) : (actReleaseTicket nest s).2.swg = s.swg := by
  simp only [actReleaseTicket]; (repeat' split) <;> simp
@[simp] theorem actReleaseTicket_fli (nest : Byte) (s : State) : (actReleaseTicket nest s).2.fli = s.fli := by
  simp only [actReleaseTicket]; (repeat' split) <;> simp
@[simp] theorem actReleaseTicket_bka (nest : Byte) (s : State) : (actReleaseTicket nest s).2.bka = s.bka := by
  simp only [actReleaseTicket]; (repeat' split) <;> simp
@[simp] theorem actReleaseTicket_gdm (nest : Byte) (s : State) : (actReleaseTicket nest s).2.gdm = s.gdm := by
  simp only [actReleaseTicket]; (repeat' split) <;> simp
@[simp] theorem actReleaseTicket_jdu (nest : Byte) (s : State) : (actReleaseTicket nest s).2.jdu = s.jdu := by
  simp only [actReleaseTicket]; (repeat' split) <;> simp
@[simp] theorem actReleaseTicket_bmu (nest : Byte) (s : State) : (actReleaseTicket nest s).2.bmu = s.bmu := by
  simp only [actReleaseTicket]; (repeat' split) <;> simp
@[simp] theorem actReleaseTicket_yct (nest : Byte) (s : State) : (actReleaseTicket nest s).2.yct = s.yct := by
  simp only [actReleaseTicket]; (repeat' split) <;> simp
@[simp] theorem actReleaseTicket_free (nest : Byte) (s : State) : (actReleaseTicket nest s).2.free = s.free := by
  simp only [actReleaseTicket]; (repeat' split) <;> simp
@[simp] theorem actReleaseTicket_pending (nest : Byte) (s : State) : (actReleaseTicket nest s).2.pending = s.pending := by
  simp only [actReleaseTicket]; (repeat' split) <;> simp

/-! ### actReadTicket -/

@[simp] theorem actReadTicket_tmb (nest first count : Byte) (s : State) : (actReadTicket nest first count s).2.tmb = s.tmb := by
  simp only [actReadTicket]; (repeat' split) <;> simp
@[simp] theorem actReadTicket_swg (nest first count : Byte) (s : State) : (actReadTicket nest first count s).2.swg = s.swg := by
  simp only [actReadTicket]; (repeat' split) <;> simp
@[simp] theorem actReadTicket_fli (nest first count : Byte) (s : State) : (actReadTicket nest first count s).2.fli = s.fli := by
  simp only [actReadTicket]; (repeat' split) <;> simp
@[simp] theorem actReadTicket_bka (nest first count : Byte) (s : State) : (actReadTicket nest first count s).2.bka = s.bka := by
  simp only [actReadTicket]; (repeat' split) <;> simp
@[simp] theorem actReadTicket_gdm (nest first count : Byte) (s : State) : (actReadTicket nest first count s).2.gdm = s.gdm := by
  simp only [actReadTicket]; (repeat' split) <;> simp
@[simp] theorem actReadTicket_jdu (nest first count : Byte) (s : State) : (actReadTicket nest first count s).2.jdu = s.jdu := by
  simp only [actReadTicket]; (repeat' split) <;> simp
@[simp] theorem actReadTicket_tkc (nest first count : Byte) (s : State) : (actReadTicket nest first count s).2.tkc = s.tkc := by
  simp only [actReadTicket]; (repeat' split) <;> simp
@[simp] theorem actReadTicket_bmu (nest first count : Byte) (s : State) : (actReadTicket nest first count s).2.bmu = s.bmu := by
  simp only [actReadTicket]; (repeat' split) <;> simp
@[simp] theorem actReadTicket_yct (nest first count : Byte) (s : State) : (actReadTicket nest first count s).2.yct = s.yct := by
  simp only [actReadTicket]; (repeat' split) <;> simp
@[simp] theorem actReadTicket_ltc (nest first count : Byte) (s : State) : (actReadTicket nest first count s).2.ltc = s.ltc := by
  simp only [actReadTicket]; (repeat' split) <;> simp
@[simp] theorem actReadTicket_flg (nest first count : Byte) (s : State) : (actReadTicket nest first count s).2.flg = s.flg := by
  simp only [actReadTicket]; (repeat' split) <;> simp
@[simp] theorem actReadTicket_svc (nest first count : Byte) (s : State) : (actReadTicket nest first count s).2.svc = s.svc := by
  simp only [actReadTicket]; (repeat' split) <;> simp
@[simp] theorem actReadTicket_pending (nest first count : Byte) (s : State) : (actReadTicket nest first count s).2.pending = s.pending := by
  simp only [actReadTicket]; (repeat' split) <;> simp

/-! ### actReadCounters -/

@[simp] theorem actReadCounters_tmb (page flags : Byte) (s : State) : (actReadCounters page flags s).2.tmb = s.tmb := by
  simp only [actReadCounters]; (repeat' split) <;> simp
@[simp] theorem actReadCounters_swg (page flags : Byte) (s : State) : (actReadCounters page flags s).2.swg = s.swg := by
  simp only [actReadCounters]; (repeat' split) <;> simp
@[simp] theorem actReadCounters_fli (page flags : Byte) (s : State) : (actReadCounters page flags s).2.fli = s.fli := by
  simp only [actReadCounters]; (repeat' split) <;> simp
@[simp] theorem actReadCounters_bka (page flags : Byte) (s : State) : (actReadCounters page flags s).2.bka = s.bka := by
  simp only [actReadCounters]; (repeat' split) <;> simp
@[simp] theorem actReadCounters_gdm (page flags : Byte) (s : State) : (actReadCounters page flags s).2.gdm = s.gdm := by
  simp only [actReadCounters]; (repeat' split) <;> simp
@[simp] theorem actReadCounters_jdu (page flags : Byte) (s : State) : (actReadCounters page flags s).2.jdu = s.jdu := by
  simp only [actReadCounters]; (repeat' split) <;> simp
@[simp] theorem actReadCounters_tkc (page flags : Byte) (s : State) : (actReadCounters page flags s).2.tkc = s.tkc := by
  simp only [actReadCounters]; (repeat' split) <;> simp
@[simp] theorem actReadCounters_bmu (page flags : Byte) (s : State) : (actReadCounters page flags s).2.bmu = s.bmu := by
  simp only [actReadCounters]; (repeat' split) <;> simp
@[simp] theorem actReadCounters_ltc (page flags : Byte) (s : State) : (actReadCounters page flags s).2.ltc = s.ltc := by
  simp only [actReadCounters]; (repeat' split) <;> simp
@[simp] theorem actReadCounters_flg (page flags : Byte) (s : State) : (actReadCounters page flags s).2.flg = s.flg := by
  simp only [actReadCounters]; (repeat' split) <;> simp
@[simp] theorem actReadCounters_svc (page flags : Byte) (s : State) : (actReadCounters page flags s).2.svc = s.svc := by
  simp only [actReadCounters]; (repeat' split) <;> simp
@[simp] theorem actReadCounters_free (page flags : Byte) (s : State) : (actReadCounters page flags s).2.free = s.free := by
  simp only [actReadCounters]; (repeat' split) <;> simp
@[simp] theorem actReadCounters_pending (page flags : Byte) (s : State) : (actReadCounters page flags s).2.pending = s.pending := by
  simp only [actReadCounters]; (repeat' split) <;> simp

/-! ### actReadFaults -/

@[simp] theorem actReadFaults_tmb (s : State) : (actReadFaults s).2.tmb = s.tmb := by
  rfl
@[simp] theorem actReadFaults_swg (s : State) : (actReadFaults s).2.swg = s.swg := by
  rfl
@[simp] theorem actReadFaults_fli (s : State) : (actReadFaults s).2.fli = s.fli := by
  rfl
@[simp] theorem actReadFaults_bka (s : State) : (actReadFaults s).2.bka = s.bka := by
  rfl
@[simp] theorem actReadFaults_gdm (s : State) : (actReadFaults s).2.gdm = s.gdm := by
  rfl
@[simp] theorem actReadFaults_jdu (s : State) : (actReadFaults s).2.jdu = s.jdu := by
  rfl
@[simp] theorem actReadFaults_tkc (s : State) : (actReadFaults s).2.tkc = s.tkc := by
  rfl
@[simp] theorem actReadFaults_bmu (s : State) : (actReadFaults s).2.bmu = s.bmu := by
  rfl
@[simp] theorem actReadFaults_yct (s : State) : (actReadFaults s).2.yct = s.yct := by
  rfl
@[simp] theorem actReadFaults_ltc (s : State) : (actReadFaults s).2.ltc = s.ltc := by
  rfl
@[simp] theorem actReadFaults_flg (s : State) : (actReadFaults s).2.flg = s.flg := by
  rfl
@[simp] theorem actReadFaults_svc (s : State) : (actReadFaults s).2.svc = s.svc := by
  rfl
@[simp] theorem actReadFaults_pending (s : State) : (actReadFaults s).2.pending = s.pending := by
  rfl

/-! ### actClearFaults -/

@[simp] theorem actClearFaults_tmb (flags : Byte) (kinds : Half) (s : State) : (actClearFaults flags kinds s).2.tmb = s.tmb := by
  simp only [actClearFaults]; (repeat' split) <;> simp
@[simp] theorem actClearFaults_swg (flags : Byte) (kinds : Half) (s : State) : (actClearFaults flags kinds s).2.swg = s.swg := by
  simp only [actClearFaults]; (repeat' split) <;> simp
@[simp] theorem actClearFaults_fli (flags : Byte) (kinds : Half) (s : State) : (actClearFaults flags kinds s).2.fli = s.fli := by
  simp only [actClearFaults]; (repeat' split) <;> simp
@[simp] theorem actClearFaults_bka (flags : Byte) (kinds : Half) (s : State) : (actClearFaults flags kinds s).2.bka = s.bka := by
  simp only [actClearFaults]; (repeat' split) <;> simp
@[simp] theorem actClearFaults_gdm (flags : Byte) (kinds : Half) (s : State) : (actClearFaults flags kinds s).2.gdm = s.gdm := by
  simp only [actClearFaults]; (repeat' split) <;> simp
@[simp] theorem actClearFaults_jdu (flags : Byte) (kinds : Half) (s : State) : (actClearFaults flags kinds s).2.jdu = s.jdu := by
  simp only [actClearFaults]; (repeat' split) <;> simp
@[simp] theorem actClearFaults_tkc (flags : Byte) (kinds : Half) (s : State) : (actClearFaults flags kinds s).2.tkc = s.tkc := by
  simp only [actClearFaults]; (repeat' split) <;> simp
@[simp] theorem actClearFaults_bmu (flags : Byte) (kinds : Half) (s : State) : (actClearFaults flags kinds s).2.bmu = s.bmu := by
  simp only [actClearFaults]; (repeat' split) <;> simp
@[simp] theorem actClearFaults_yct (flags : Byte) (kinds : Half) (s : State) : (actClearFaults flags kinds s).2.yct = s.yct := by
  simp only [actClearFaults]; (repeat' split) <;> simp
@[simp] theorem actClearFaults_ltc (flags : Byte) (kinds : Half) (s : State) : (actClearFaults flags kinds s).2.ltc = s.ltc := by
  simp only [actClearFaults]; (repeat' split) <;> simp
@[simp] theorem actClearFaults_svc (flags : Byte) (kinds : Half) (s : State) : (actClearFaults flags kinds s).2.svc = s.svc := by
  simp only [actClearFaults]; (repeat' split) <;> simp
@[simp] theorem actClearFaults_free (flags : Byte) (kinds : Half) (s : State) : (actClearFaults flags kinds s).2.free = s.free := by
  simp only [actClearFaults]; (repeat' split) <;> simp
@[simp] theorem actClearFaults_pending (flags : Byte) (kinds : Half) (s : State) : (actClearFaults flags kinds s).2.pending = s.pending := by
  simp only [actClearFaults]; (repeat' split) <;> simp

/-! ### actResumeLine -/

@[simp] theorem actResumeLine_tmb (s : State) : (actResumeLine s).2.tmb = s.tmb := by
  simp [actResumeLine]
@[simp] theorem actResumeLine_swg (s : State) : (actResumeLine s).2.swg = s.swg := by
  simp [actResumeLine]
@[simp] theorem actResumeLine_fli (s : State) : (actResumeLine s).2.fli = s.fli := by
  simp [actResumeLine]
@[simp] theorem actResumeLine_bka (s : State) : (actResumeLine s).2.bka = s.bka := by
  simp [actResumeLine]
@[simp] theorem actResumeLine_gdm (s : State) : (actResumeLine s).2.gdm = s.gdm := by
  simp [actResumeLine]
@[simp] theorem actResumeLine_jdu (s : State) : (actResumeLine s).2.jdu = s.jdu := by
  simp [actResumeLine]
@[simp] theorem actResumeLine_tkc (s : State) : (actResumeLine s).2.tkc = s.tkc := by
  simp [actResumeLine]
@[simp] theorem actResumeLine_bmu (s : State) : (actResumeLine s).2.bmu = s.bmu := by
  simp [actResumeLine]
@[simp] theorem actResumeLine_yct (s : State) : (actResumeLine s).2.yct = s.yct := by
  simp [actResumeLine]
@[simp] theorem actResumeLine_ltc (s : State) : (actResumeLine s).2.ltc = s.ltc := by
  simp [actResumeLine]
@[simp] theorem actResumeLine_svc (s : State) : (actResumeLine s).2.svc = s.svc := by
  simp [actResumeLine]
@[simp] theorem actResumeLine_free (s : State) : (actResumeLine s).2.free = s.free := by
  simp [actResumeLine]
@[simp] theorem actResumeLine_pending (s : State) : (actResumeLine s).2.pending = s.pending := by
  simp [actResumeLine]

/-! ### actSetTap -/

@[simp] theorem actSetTap_tmb (slot source nest : Byte) (s : State) : (actSetTap slot source nest s).2.tmb = s.tmb := by
  simp only [actSetTap]; (repeat' split) <;> simp
@[simp] theorem actSetTap_swg (slot source nest : Byte) (s : State) : (actSetTap slot source nest s).2.swg = s.swg := by
  simp only [actSetTap]; (repeat' split) <;> simp
@[simp] theorem actSetTap_bka (slot source nest : Byte) (s : State) : (actSetTap slot source nest s).2.bka = s.bka := by
  simp only [actSetTap]; (repeat' split) <;> simp
@[simp] theorem actSetTap_gdm (slot source nest : Byte) (s : State) : (actSetTap slot source nest s).2.gdm = s.gdm := by
  simp only [actSetTap]; (repeat' split) <;> simp
@[simp] theorem actSetTap_jdu (slot source nest : Byte) (s : State) : (actSetTap slot source nest s).2.jdu = s.jdu := by
  simp only [actSetTap]; (repeat' split) <;> simp
@[simp] theorem actSetTap_tkc (slot source nest : Byte) (s : State) : (actSetTap slot source nest s).2.tkc = s.tkc := by
  simp only [actSetTap]; (repeat' split) <;> simp
@[simp] theorem actSetTap_bmu (slot source nest : Byte) (s : State) : (actSetTap slot source nest s).2.bmu = s.bmu := by
  simp only [actSetTap]; (repeat' split) <;> simp
@[simp] theorem actSetTap_yct (slot source nest : Byte) (s : State) : (actSetTap slot source nest s).2.yct = s.yct := by
  simp only [actSetTap]; (repeat' split) <;> simp
@[simp] theorem actSetTap_ltc (slot source nest : Byte) (s : State) : (actSetTap slot source nest s).2.ltc = s.ltc := by
  simp only [actSetTap]; (repeat' split) <;> simp
@[simp] theorem actSetTap_flg (slot source nest : Byte) (s : State) : (actSetTap slot source nest s).2.flg = s.flg := by
  simp only [actSetTap]; (repeat' split) <;> simp
@[simp] theorem actSetTap_svc (slot source nest : Byte) (s : State) : (actSetTap slot source nest s).2.svc = s.svc := by
  simp only [actSetTap]; (repeat' split) <;> simp
@[simp] theorem actSetTap_free (slot source nest : Byte) (s : State) : (actSetTap slot source nest s).2.free = s.free := by
  simp only [actSetTap]; (repeat' split) <;> simp
@[simp] theorem actSetTap_pending (slot source nest : Byte) (s : State) : (actSetTap slot source nest s).2.pending = s.pending := by
  simp only [actSetTap]; (repeat' split) <;> simp

/-! ### actLineReset -/

@[simp] theorem actLineReset_tmb (s : State) : (actLineReset s).2.tmb = s.tmb := by
  rfl
@[simp] theorem actLineReset_swg (s : State) : (actLineReset s).2.swg = s.swg := by
  rfl
@[simp] theorem actLineReset_fli (s : State) : (actLineReset s).2.fli = s.fli := by
  rfl
@[simp] theorem actLineReset_bka (s : State) : (actLineReset s).2.bka = s.bka := by
  rfl
@[simp] theorem actLineReset_gdm (s : State) : (actLineReset s).2.gdm = s.gdm := by
  rfl
@[simp] theorem actLineReset_jdu (s : State) : (actLineReset s).2.jdu = s.jdu := by
  rfl
@[simp] theorem actLineReset_tkc (s : State) : (actLineReset s).2.tkc = s.tkc := by
  rfl
@[simp] theorem actLineReset_bmu (s : State) : (actLineReset s).2.bmu = s.bmu := by
  rfl
@[simp] theorem actLineReset_yct (s : State) : (actLineReset s).2.yct = s.yct := by
  rfl
@[simp] theorem actLineReset_ltc (s : State) : (actLineReset s).2.ltc = s.ltc := by
  rfl
@[simp] theorem actLineReset_flg (s : State) : (actLineReset s).2.flg = s.flg := by
  rfl
@[simp] theorem actLineReset_svc (s : State) : (actLineReset s).2.svc = s.svc := by
  rfl
@[simp] theorem actLineReset_free (s : State) : (actLineReset s).2.free = s.free := by
  rfl
@[simp] theorem actLineReset_pending (s : State) : (actLineReset s).2.pending = s.pending := by
  rfl

/-! ### act -/

@[simp] theorem act_tmb (r : Request) (s : State) : (act r s).2.tmb = s.tmb := by
  cases r <;> simp [act]
@[simp] theorem actParsed_tmb (p : Parsed) (s : State) : (actParsed p s).2.tmb = s.tmb := by
  cases p <;> simp [actParsed]
@[simp] theorem act_pending (r : Request) (s : State) : (act r s).2.pending = s.pending := by
  cases r <;> simp [act]
@[simp] theorem actParsed_pending (p : Parsed) (s : State) : (actParsed p s).2.pending = s.pending := by
  cases p <;> simp [actParsed]

end Sys2Proof.Machine
end

