-- ==== Sys2Proof/Laws/Replies.lean ====
section
/-! SUPPORT. The lengths of the groups of R193, replies of one cell, and what the arrival of a request
does in each state of the request queue. -/

namespace Sys2Proof.Machine

open Sys2Proof

/-! ### Lengths -/

@[simp] theorem byte_length (x : Nat) : (byte x).length = 1 := rfl
@[simp] theorem bytes2_length (x : Nat) : (bytes2 x).length = 2 := rfl
@[simp] theorem bytes3_length (x : Nat) : (bytes3 x).length = 3 := rfl
@[simp] theorem bytes4_length (x : Nat) : (bytes4 x).length = 4 := rfl
@[simp] theorem signed2_length (x : Int) : (signed2 x).length = 2 := rfl
@[simp] theorem halfBytes_length (x : Half) : (halfBytes x).length = 2 := rfl
@[simp] theorem tripleBytes_length (x : Triple) : (tripleBytes x).length = 3 := rfl
@[simp] theorem wordBytes_length (x : Word) : (wordBytes x).length = 4 := rfl
@[simp] theorem Segment.bytes_length (e : Segment) : e.bytes.length = 16 := rfl
@[simp] theorem LimitHeader.bytes_length (h : LimitHeader) : h.bytes.length = 9 := rfl
@[simp] theorem Band.bytes_length (b : Band) : b.bytes.length = 16 := rfl
@[simp] theorem BinEntry.bytes_length (e : BinEntry) : e.bytes.length = 3 := rfl
@[simp] theorem BandTally.bytes_length (t : BandTally) : t.bytes.length = 16 := rfl
@[simp] theorem Nest.content_length (x : Nest) : x.content.length = 13 := rfl
@[simp] theorem TapSlot.bytes_length (t : TapSlot) : t.bytes.length = 4 := by
  simp only [TapSlot.bytes]; split <;> simp
@[simp] theorem heldBytes_length (h : Option HeldRef) : (heldBytes h).length = 5 := by
  cases h <;> rfl
@[simp] theorem finalBytes_length (f : Option Final) : (finalBytes f).length = 3 := by
  cases f <;> rfl
@[simp] theorem blockIndexBytes_length (k : Option Nat) : (blockIndexBytes k).length = 3 := by
  cases k <;> rfl
@[simp] theorem State.lineBytes_length (s : State) : s.lineBytes.length = 18 := rfl
@[simp] theorem State.freeBytes_length (s : State) (k n : Nat) : (s.freeBytes k n).length = n := by
  simp [State.freeBytes]
@[simp] theorem State.firstBytes_length (s : State) : s.firstBytes.length = 11 := by
  simp only [State.firstBytes]; (repeat' split) <;> simp

theorem flatMap_length_const {α β : Type} (f : α → List β) (k : Nat) (h : ∀ a, (f a).length = k) (l : List α) :
    (l.flatMap f).length = l.length * k := by
  induction l with
  | nil => simp
  | cons a rest ih => simp [ih, h, Nat.succ_mul, Nat.add_comm]

/-! ### Replies (R182) -/

/-- R182: a reply of at most 90 payload bytes is one cell. -/
theorem Reply.cells_short (r : Reply) (type tag : Byte) (h : r.content.length ≤ 89) :
    r.cells type tag = [⟨replyType type, tag, byte r.result.code ++ r.content⟩] := by
  have h1 : (byte r.result.code ++ r.content).length ≤ 90 := by simp; omega
  simp [Reply.cells, List.take_of_length_le h1, List.drop_of_length_le h1, moreCells]

/-- R182: a reply is 1 to 3 cells. -/
theorem Reply.cells_length (r : Reply) (type tag : Byte) : 1 ≤ (r.cells type tag).length ∧ (r.cells type tag).length ≤ 3 := by
  simp only [Reply.cells, List.length_cons]
  generalize (byte r.result.code ++ r.content).drop 90 = l
  have h : ∀ (fuel : Nat) (l : List Byte), (moreCells tag fuel l).length ≤ fuel := by
    intro fuel
    induction fuel with
    | zero => intro l; simp [moreCells]
    | succ k ih => intro l; cases l <;> simp [moreCells, ih]
  have := h 2 l
  omega

/-! ### The arrival of a request (R180, R181) -/

theorem arrive_quiet (r : Request) (tag : Byte) (f : State → Reply × State) (s : State) (h : s.quiet) :
    arrive r tag f s = answer r.type tag f s := by
  simp [arrive, offerCell, h.1, h.2, Config.requestPlaces]

theorem arrive_waits (r : Request) (tag : Byte) (f : State → Reply × State) (s : State) (h : ¬s.quiet)
    (hl : s.svc.requests.length < 4) :
    arrive r tag f s = s.setSvc { s.svc with requests := s.svc.requests ++ [r.cell tag] } := by
  have h2 : ¬ 4 ≤ s.svc.requests.length := by omega
  simp only [arrive, offerCell, Config.requestPlaces, h2, if_false]
  rw [if_neg]
  simpa [State.quiet] using h

theorem arrive_full (r : Request) (tag : Byte) (f : State → Reply × State) (s : State)
    (hl : 4 ≤ s.svc.requests.length) :
    arrive r tag f s = raiseFault ⟨.requestOverrun, s.now, none, none, r.type ++ tag⟩ s := by
  simp [arrive, offerCell, Config.requestPlaces, hl, overrun, Request.cell]

/-- R181, R182: a request taken with a short reply leaves its owner's state and the one cell. -/
theorem answer_short (type tag : Byte) (f : State → Reply × State) (s : State) (h : (f s).1.content.length ≤ 89) :
    answer type tag f s =
      (f s).2.replying (replyType type) tag (byte (f s).1.result.code ++ (f s).1.content) := by
  simp only [answer, State.replying, Reply.cells_short _ _ _ h]
  rfl

end Sys2Proof.Machine
end

