-- ==== Sys2Proof/Laws/Effects.lean ====
section
/-! SUPPORT. What the shared operations do, each said once: the start and stop of a sweep, a proposal, the
two orders of nests, an arrival at the fault log. -/

namespace Sys2Proof.Machine

open Sys2Proof

/-! ### Operations on each nest in turn -/

/-- An operation on each nest in turn, seen from one nest: a relation that the operation on every other nest keeps
holds up to that nest's own turn and after it. -/
theorem eachNest_at {f : NestId → State → State} {E : State → State → Prop} (refl : ∀ s, E s s)
    (trans : ∀ {a b c}, E a b → E b c → E a c) (n : NestId) (other : ∀ m s, m ≠ n → E s (f m s)) (s : State) :
    ∃ u, E s u ∧ E (f n u) (State.eachNest f s) := by
  have run : ∀ (l : List NestId) (s : State), n ∉ l → E s (l.foldl (fun s m => f m s) s) := by
    intro l
    induction l with
    | nil => intro s _; exact refl s
    | cons m rest ih =>
      intro s h
      simp only [List.mem_cons, not_or] at h
      exact trans (other m s (fun e => h.1 e.symm)) (ih _ h.2)
  have parts : ∃ before after, allNests = before ++ n :: after ∧ n ∉ before ∧ n ∉ after := by
    have hm : n ∈ allNests := by clear other run; revert n; decide
    have hn : allNests.Nodup := by decide
    obtain ⟨before, after, hl⟩ := List.append_of_mem hm
    rw [hl, List.nodup_append] at hn
    refine ⟨before, after, hl, fun h => ?_, fun h => ?_⟩
    · exact hn.2.2 n h n (by simp) rfl
    · exact (List.nodup_cons.mp hn.2.1).1 h
  obtain ⟨before, after, hl, hb, ha⟩ := parts
  refine ⟨before.foldl (fun s m => f m s) s, run _ _ hb, ?_⟩
  unfold State.eachNest
  rw [hl, List.foldl_append, List.foldl_cons]
  exact run _ _ ha

/-! ### Starting a sweep -/

theorem startSweep_idle (n : NestId) (s : State) (h : (s.ctx n).state = .idle) :
    startSweep n s = (s.setCtx n { s.ctx n with state := .armed }).setAna n (s.ana n).start := by
  simp [startSweep, h]

theorem startSweep_busy (n : NestId) (s : State) (h : (s.ctx n).state ≠ .idle) : startSweep n s = s := by
  unfold startSweep; split <;> simp_all

theorem startSweep_ctx (n : NestId) (s : State) :
    (startSweep n s).ctx n = if (s.ctx n).state = .idle then { s.ctx n with state := .armed } else s.ctx n := by
  by_cases h : (s.ctx n).state = .idle
  · simp [startSweep_idle n s h, h]
  · simp [startSweep_busy n s h, h]

theorem startSweep_ana (n : NestId) (s : State) :
    (startSweep n s).ana n = if (s.ctx n).state = .idle then (s.ana n).start else s.ana n := by
  by_cases h : (s.ctx n).state = .idle
  · simp [startSweep_idle n s h, h]
  · simp [startSweep_busy n s h, h]

/-- R97: the three conditions of the start request. -/
theorem canStart_iff (n : NestId) (s : State) :
    s.canStart n = true ↔ ((s.nest n).state = .entry ∨ (s.nest n).state = .retestWait) ∧ (s.nest n).timer = 0 ∧
      s.tkc.linkView = .locked ∧ (s.nest n).drive = .idle := by
  simp [State.canStart, and_assoc]

theorem startCheck_nest (n : NestId) (s : State) :
    (startCheck n s).nest n = if s.canStart n then { s.nest n with drive := .starting } else s.nest n := by
  unfold startCheck; split <;> simp

theorem startCheck_ctx (n : NestId) (s : State) :
    (startCheck n s).ctx n =
      if s.canStart n = true ∧ (s.ctx n).state = .idle then { s.ctx n with state := .armed } else s.ctx n := by
  unfold startCheck
  by_cases h : s.canStart n = true
  · by_cases hc : (s.ctx n).state = .idle <;> simp [h, startSweep_ctx, hc]
  · simp [h]

theorem startCheck_ana (n : NestId) (s : State) :
    (startCheck n s).ana n =
      if s.canStart n = true ∧ (s.ctx n).state = .idle then (s.ana n).start else s.ana n := by
  unfold startCheck
  by_cases h : s.canStart n = true
  · by_cases hc : (s.ctx n).state = .idle <;> simp [h, startSweep_ana, hc]
  · simp [h]

theorem startCheck_segments (n : NestId) (s : State) : (startCheck n s).swg.segments = s.swg.segments := by
  unfold startCheck startSweep; (repeat' split) <;> simp [State.setCtx, State.setAna, State.setNest]

theorem startCheck_linkView (n : NestId) (s : State) : (startCheck n s).tkc.linkView = s.tkc.linkView := by
  unfold startCheck startSweep; (repeat' split) <;> simp [State.setCtx, State.setAna, State.setNest]

/-- R97: a nest whose start request is not due is left alone. -/
theorem startCheck_not_due (n : NestId) (s : State) (h : ¬s.canStart n = true) : startCheck n s = s := by
  unfold startCheck; simp [h]

/-- R15: when a sweep starts at a boundary. -/
theorem sweepDue_iff (n : NestId) (s : State) :
    s.sweepDue n = true ↔ s.swg.processed[n] = false ∧ (s.ctx n).state = .armed ∧ s.fli.link = .locked := by
  simp [State.sweepDue, and_assoc]

/-- R15: SWG starts the sweep that is due with the lot's first segment. -/
theorem considerNest_due (n : NestId) (b : Binding) (s : State) (hb : s.ltc.binding = some b) (h : s.sweepDue n = true) :
    considerNest n s = beginSweep n b s := by
  have hb : s.lot = some b := hb
  simp [considerNest, hb, h]

/-- R15: a nest with no sweep due is left alone. -/
theorem considerNest_not_due (n : NestId) (s : State) (h : ¬s.sweepDue n = true) : considerNest n s = s := by
  unfold considerNest; split <;> simp [h]

/-! ### The end and the stop of a sweep -/

/-- R101: drive-ended in SWEEP. -/
theorem driveEnded_sweep (n : NestId) (last : Option Nat) (s : State) (h : (s.nest n).state = .sweep) :
    driveEnded n last s = s.setNest n { (s.nest n).enter .drain 0 with
      drive := .idle, ticket := (s.nest n).ticket.map (fun t => { t with lastDriven := last }) } := by
  simp [driveEnded, h]

/-- R101, R102: drive-ended in DRAIN. -/
theorem driveEnded_drain (n : NestId) (last : Option Nat) (s : State) (h : (s.nest n).state = .drain) :
    driveEnded n last s = s.setNest n { s.nest n with
      drive := .idle
      ticket := if (s.nest n).drive = .running then (s.nest n).ticket
        else (s.nest n).ticket.map (fun t => { t with lastDriven := last }) } := by
  simp [driveEnded, h]

/-- R101: drive-ended in a nest that is not under test. -/
theorem driveEnded_other (n : NestId) (last : Option Nat) (s : State) (h : (s.nest n).state.underTest = false) :
    driveEnded n last s = s.setNest n { s.nest n with drive := .idle } := by
  cases hs : (s.nest n).state <;> simp_all [driveEnded, NestState.underTest]

/-- R21: a stop request to a context that is not ARMED touches the context alone. -/
theorem stopSweep_of_not_armed (n : NestId) (s : State) (h : (s.ctx n).state ≠ .armed) :
    stopSweep n s = s.setCtx n (s.ctx n).stop := by
  simp [stopSweep, h]

/-- R21, R101: a stop request to an ARMED context. -/
theorem stopSweep_armed (n : NestId) (s : State) (h : (s.ctx n).state = .armed) :
    stopSweep n s = driveEnded n none (s.setCtx n { s.ctx n with state := .idle }) := by
  simp [stopSweep, h, SweepCtx.stop]

/-! ### Bytes and codes -/

theorem flagByte_lt : ∀ l : List Bool, flagByte l < 2 ^ l.length
  | [] => by simp [flagByte]
  | b :: rest => by
    have h := flagByte_lt rest
    have hb : boolCode b ≤ 1 := by cases b <;> decide
    simp only [flagByte, List.length_cons, Nat.pow_succ]
    omega

/-! ### The drain of a lot -/

/-- Nothing drains but a CLOSING line with no ticket left. -/
theorem drainCheck_not_due (s : State) (h : s.ltc.line ≠ .closing ∨ s.ltc.ticketCount ≠ 0) : drainCheck s = s := by
  simp only [drainCheck]
  split
  · rename_i hl hc hb
    rcases h with h | h
    · exact absurd hl h
    · exact absurd hc h
  · rfl

/-- NOTICE_OVERFLOW at the log: its kind captures nothing. -/
theorem logArrival_overflow (stamp : Nat) (detail : Half) (s : State) :
    ∃ log, s.flg.OverflowArrived log stamp detail ∧
      logArrival ⟨.noticeOverflow, stamp, none, none, detail⟩ s = { s with flg := log } := by
  refine ⟨_, ?_, rfl⟩
  have bit : ∀ k, (kindBit .noticeOverflow).getLsbD k = true ↔ k = 10 := by
    intro k
    by_cases hk : k < 16
    · revert hk k; decide
    · rw [BitVec.getLsbD_of_ge _ _ (by omega : 16 ≤ k)]; simp; omega
  have cleanIff : s.flg.clean = true ↔ s.flg.first = none ∧ s.flg.next = 0 := by simp [FaultLog.clean]
  have stops : hasKind s.flg.stopMask .noticeOverflow = s.flg.stopMask.getLsbD 10 := rfl
  by_cases hc : s.flg.clean = true <;>
    by_cases hs : s.flg.stopMask.getLsbD 10 = true <;>
    cases ha : s.flg.armed <;>
    simp_all [FaultLog.OverflowArrived, FaultLog.log, FaultLog.stop, captureOf]

/-- A CLOSING line with no ticket left drains. -/
theorem drainCheck_drained (b : Binding) (s : State) (hl : s.ltc.line = .closing) (hc : s.ltc.ticketCount = 0)
    (hb : s.ltc.binding = some b) : LotDrained b s (drainCheck s) := by
  have he : drainCheck s =
      offerNotice 66 (drainedPayload b s.ltc.aborted) 0 s.now (s.setLtc { s.ltc.thaw with line := .closed }) := by
    simp only [drainCheck, hl, hc, State.lot, hb]
  rw [he]
  constructor
  · intro h
    simp [offerNotice, queueNotice, Config.noticePlaces, h, drainedPayload, boolCode, State.setLtc, State.setSvc, LotCtl.thaw,
      hc, hb]
  · intro h
    obtain ⟨log, arrived, eq⟩ := logArrival_overflow s.now 0
      (queueNotice 66 (drainedPayload b s.ltc.aborted) (s.setLtc { s.ltc.thaw with line := .closed }))
    refine ⟨log, by simpa using arrived, ?_⟩
    have full : ¬s.svc.notices.length < 8 := by omega
    simp only [offerNotice, raiseOverflow, eq]
    simp [queueNotice, Config.noticePlaces, full, State.setLtc, State.setSvc, LotCtl.thaw, hc, hb, BitVec.add_assoc]

/-! ### What a boundary takes once -/

/-- R57: the fields of the guard configuration after GDM has taken them at a boundary. -/
theorem GuardMon.applyConfig_eq (g : GuardMon) :
    g.applyConfig = { g with current := if g.configTaken then g.current else g.pending, configTaken := true } := by
  cases g; rename_i taken; cases taken <;> rfl

/-- R57: a boundary takes the pending guard fields once. -/
theorem GuardMon.applyConfig_twice (g : GuardMon) : g.applyConfig.applyConfig = g.applyConfig := by
  simp [GuardMon.applyConfig_eq]

@[simp] theorem GuardMon.checkSaturation_current (g : GuardMon) (t : Nat) : (g.checkSaturation t).current = g.current := by
  simp only [GuardMon.checkSaturation]; split <;> rfl
@[simp] theorem GuardMon.checkSaturation_pending (g : GuardMon) (t : Nat) : (g.checkSaturation t).pending = g.pending := by
  simp only [GuardMon.checkSaturation]; split <;> rfl
@[simp] theorem GuardMon.checkSaturation_trips (g : GuardMon) (t : Nat) : (g.checkSaturation t).trips = g.trips := by
  simp only [GuardMon.checkSaturation]; split <;> rfl
@[simp] theorem GuardMon.checkSaturation_lastDiscard (g : GuardMon) (t : Nat) :
    (g.checkSaturation t).lastDiscard = g.lastDiscard := by
  simp only [GuardMon.checkSaturation]; split <;> rfl
@[simp] theorem GuardMon.checkSaturation_configTaken (g : GuardMon) (t : Nat) :
    (g.checkSaturation t).configTaken = g.configTaken := by
  simp only [GuardMon.checkSaturation]; split <;> rfl

/-- R57, R59: what GDM holds at a boundary after its own work there. -/
theorem GuardMon.atBoundary_fields (g : GuardMon) (t : Nat) :
    (g.atBoundary t).current = (if g.configTaken then g.current else g.pending) ∧ (g.atBoundary t).configTaken = true ∧
      (g.atBoundary t).pending = g.pending ∧ (g.atBoundary t).lastDiscard = g.lastDiscard ∧
      (g.atBoundary t).trips = (g.removeOld t).trips := by
  simp [GuardMon.atBoundary, GuardMon.removeOld, GuardMon.applyConfig_eq]

/-- R30: a boundary applies the tap selection once. -/
theorem FrontLink.applyTaps_eq (f : FrontLink) :
    f.applyTaps = { f with taps := if f.tapsTaken then f.taps else f.taps.map (fun t => t.change f.lastOpened),
                           tapsTaken := true } := by
  cases f; rename_i taken; cases taken <;> rfl

/-! ### The residual and the arbiter -/

/-- R32: a spent residual is carried as 0 for every stamp. -/
theorem residSample_spent (r : Residual) (t : Nat) (h : r.spent = true) : residSample (some r) t = 0 := by
  simp [residSample, h]

/-- R32: a residual once spent stays spent. -/
theorem Residual.pass_spent (r : Residual) (t : Nat) (h : r.spent = true) : r.pass t = r := by
  cases r; simp_all [Residual.pass]

/-- R188: the selection with no cell in progress. -/
theorem Service.select_spec (v : Service) : Selected v v.select := by
  rcases hr : v.reply with _ | ⟨c, r⟩ <;> rcases hn : v.notices with _ | ⟨d, l⟩ <;>
    rcases hp : v.reports with _ | ⟨e, m⟩ <;> simp [Selected, Service.select, Service.nextCell, hr, hn, hp, idleWord]

/-- R97, R101: a drive-ended report in ENTRY or RETEST_WAIT is followed by the check of the waiting ticket. -/
theorem driveEnded_waiting (n : NestId) (last : Option Nat) (s : State)
    (h : (s.nest n).state = .entry ∨ (s.nest n).state = .retestWait) :
    driveEnded n last s = startCheck n (s.setNest n { s.nest n with drive := .idle }) := by
  rcases h with h | h <;> simp only [driveEnded, h]

end Sys2Proof.Machine
end

