-- ==== Sys2Proof/Laws/PerInstr.lean ====
section
/-! SUPPORT. One family of statements over the commands, made command by command. -/

namespace Sys2Proof.Laws

open Sys2Proof

/-- A command that is not well formed is a WRITE_BINMAP whose entries do not match its count (R193), or an
UNKNOWN_REQUEST of a listed type or with a payload above 90 bytes (R176, R181). -/
def Shape.Statement (i : Instr) : Prop :=
  i.wellFormed = false →
    (∃ tag first count entries, i = .writeBinmap tag first count entries ∧
      entries.length ≠ if 1 ≤ count.toNat ∧ count.toNat ≤ 8 then count.toNat else 0) ∨
    ∃ type tag payload, i = .unknownRequest type tag payload ∧ (isRequestType type = true ∨ 90 < payload.length)

theorem Shape.powerOnReset : Shape.Statement .powerOnReset := fun h => nomatch h

theorem Shape.warmReset : Shape.Statement .warmReset := fun h => nomatch h

theorem Shape.upstreamFrontFrame (frame : Option UpstreamFrame) (sensors : Byte) (ready : Bool) : Shape.Statement (.upstreamFrontFrame frame sensors ready) := fun h => nomatch h

theorem Shape.frontLost : Shape.Statement .frontLost := fun h => nomatch h

theorem Shape.globalBlockBoundary : Shape.Statement .globalBlockBoundary := fun h => nomatch h

theorem Shape.sweepStart (nest : NestId) : Shape.Statement (.sweepStart nest) := fun h => nomatch h

theorem Shape.driveBlockEnd (nest : NestId) : Shape.Statement (.driveBlockEnd nest) := fun h => nomatch h

theorem Shape.analysisBlockOpen (nest : NestId) : Shape.Statement (.analysisBlockOpen nest) := fun h => nomatch h

theorem Shape.analysisBlockComplete (nest : NestId) : Shape.Statement (.analysisBlockComplete nest) := fun h => nomatch h

theorem Shape.blockDeparture (nest : NestId) : Shape.Statement (.blockDeparture nest) := fun h => nomatch h

theorem Shape.drainComplete (nest : NestId) : Shape.Statement (.drainComplete nest) := fun h => nomatch h

theorem Shape.reportTaken (nest : NestId) : Shape.Statement (.reportTaken nest) := fun h => nomatch h

theorem Shape.entryDelayExpiry (nest : NestId) : Shape.Statement (.entryDelayExpiry nest) := fun h => nomatch h

theorem Shape.retestDelayExpiry (nest : NestId) : Shape.Statement (.retestDelayExpiry nest) := fun h => nomatch h

theorem Shape.reportStall (nest : NestId) : Shape.Statement (.reportStall nest) := fun h => nomatch h

theorem Shape.nestStuck (nest : NestId) : Shape.Statement (.nestStuck nest) := fun h => nomatch h

theorem Shape.closeEvent (nest : NestId) : Shape.Statement (.closeEvent nest) := fun h => nomatch h

theorem Shape.openEvent (nest : NestId) : Shape.Statement (.openEvent nest) := fun h => nomatch h

theorem Shape.guardBlockClose : Shape.Statement .guardBlockClose := fun h => nomatch h

theorem Shape.tripRecordRemoval : Shape.Statement .tripRecordRemoval := fun h => nomatch h

theorem Shape.saturationEnd : Shape.Statement .saturationEnd := fun h => nomatch h

theorem Shape.guardConfigTakeEffect : Shape.Statement .guardConfigTakeEffect := fun h => nomatch h

theorem Shape.tapChange : Shape.Statement .tapChange := fun h => nomatch h

theorem Shape.markerJobStart : Shape.Statement .markerJobStart := fun h => nomatch h

theorem Shape.markerStrobeStart : Shape.Statement .markerStrobeStart := fun h => nomatch h

theorem Shape.markerGapStart : Shape.Statement .markerGapStart := fun h => nomatch h

theorem Shape.markerJobRemove : Shape.Statement .markerJobRemove := fun h => nomatch h

theorem Shape.markerStall : Shape.Statement .markerStall := fun h => nomatch h

theorem Shape.managementWord (word : Word) : Shape.Statement (.managementWord word) := fun h => nomatch h

theorem Shape.upstreamCellEnd : Shape.Statement .upstreamCellEnd := fun h => nomatch h

theorem Shape.status (tag : Byte) : Shape.Statement (.status tag) := fun h => nomatch h

theorem Shape.writeSegment (tag index : Byte) (entry : SegmentFields) : Shape.Statement (.writeSegment tag index entry) := fun h => nomatch h

theorem Shape.readSegment (tag index : Byte) : Shape.Statement (.readSegment tag index) := fun h => nomatch h

theorem Shape.writeLimitHeader (tag set : Byte) (header : HeaderFields) : Shape.Statement (.writeLimitHeader tag set header) := fun h => nomatch h

theorem Shape.writeBand (tag set index : Byte) (band : BandFields) : Shape.Statement (.writeBand tag set index band) := fun h => nomatch h

theorem Shape.readLimit (tag set selector : Byte) : Shape.Statement (.readLimit tag set selector) := fun h => nomatch h

theorem Shape.writeBinmap (tag first count : Byte) (entries : List BinFields) : Shape.Statement (.writeBinmap tag first count entries) := by
  intro h
  refine Or.inl ⟨_, _, _, _, rfl, ?_⟩
  simp only [Instr.wellFormed, binmapEntriesMatch] at h
  by_cases hc : 1 ≤ count.toNat ∧ count.toNat ≤ 8
  · simpa [hc] using h
  · simpa [hc] using h

theorem Shape.readBinmap (tag first count : Byte) : Shape.Statement (.readBinmap tag first count) := fun h => nomatch h

theorem Shape.writeNest (tag nest : Byte) (fields : NestFields) : Shape.Statement (.writeNest tag nest fields) := fun h => nomatch h

theorem Shape.readNest (tag nest : Byte) : Shape.Statement (.readNest tag nest) := fun h => nomatch h

theorem Shape.writeLine (tag : Byte) (fields : LineFields) : Shape.Statement (.writeLine tag fields) := fun h => nomatch h

theorem Shape.readLine (tag : Byte) : Shape.Statement (.readLine tag) := fun h => nomatch h

theorem Shape.lotOpen (tag : Byte) (fields : LotFields) : Shape.Statement (.lotOpen tag fields) := fun h => nomatch h

theorem Shape.lotClose (tag : Byte) : Shape.Statement (.lotClose tag) := fun h => nomatch h

theorem Shape.lotAbort (tag : Byte) : Shape.Statement (.lotAbort tag) := fun h => nomatch h

theorem Shape.nestStart (tag nest : Byte) : Shape.Statement (.nestStart tag nest) := fun h => nomatch h

theorem Shape.nestEnable (tag nest : Byte) : Shape.Statement (.nestEnable tag nest) := fun h => nomatch h

theorem Shape.nestDisable (tag nest : Byte) : Shape.Statement (.nestDisable tag nest) := fun h => nomatch h

theorem Shape.releaseTicket (tag nest : Byte) : Shape.Statement (.releaseTicket tag nest) := fun h => nomatch h

theorem Shape.readTicket (tag nest first count : Byte) : Shape.Statement (.readTicket tag nest first count) := fun h => nomatch h

theorem Shape.readCounters (tag page flags : Byte) : Shape.Statement (.readCounters tag page flags) := fun h => nomatch h

theorem Shape.readFaults (tag : Byte) : Shape.Statement (.readFaults tag) := fun h => nomatch h

theorem Shape.clearFaults (tag flags : Byte) (kinds : Half) : Shape.Statement (.clearFaults tag flags kinds) := fun h => nomatch h

theorem Shape.resumeLine (tag : Byte) : Shape.Statement (.resumeLine tag) := fun h => nomatch h

theorem Shape.setTap (tag slot source nest : Byte) : Shape.Statement (.setTap tag slot source nest) := fun h => nomatch h

theorem Shape.lineReset (tag : Byte) : Shape.Statement (.lineReset tag) := fun h => nomatch h

theorem Shape.lineResetAction : Shape.Statement .lineResetAction := fun h => nomatch h

theorem Shape.unknownRequest (type tag : Byte) (payload : List Byte) : Shape.Statement (.unknownRequest type tag payload) := by
  intro h
  refine Or.inr ⟨_, _, _, rfl, ?_⟩
  by_cases hr : isRequestType type = true
  · exact Or.inl hr
  · right
    simpa [Instr.wellFormed, hr] using h

end Sys2Proof.Laws
end

