-- ==== Sys2Proof/Tests/Slice0.lean ====
section
/-! SUPPORT. The model's own tests: the checks of WellFormed, the manual's worked figures, single steps,
and for each statement of Obligations.lean with hypotheses a state that meets them (`witness_…`). -/

namespace Sys2Proof.Tests

open Sys2Proof Sys2Proof.Machine Host

-- One theorem after another: in one text their kernel evaluations would otherwise each hold a thread.
set_option Elab.async false

/-! ### WellFormed -/

theorem test_binmap_count_of_entries :
    (Instr.writeBinmap 0 0 2 [⟨0, 0, 0⟩]).wellFormed = false ∧
      (Instr.writeBinmap 0 0 9 [⟨0, 0, 0⟩]).wellFormed = false ∧
      (Instr.writeBinmap 0 0 1 [⟨0, 0, 0⟩]).wellFormed = true ∧ (Instr.writeBinmap 0 0 0 []).wellFormed = true := by
  decide

theorem test_unknown_of_a_listed_type :
    (Instr.unknownRequest 1 0 []).wellFormed = false ∧ (Instr.unknownRequest 26 0 []).wellFormed = false ∧
      (Instr.unknownRequest 0 0 []).wellFormed = true ∧ (Instr.unknownRequest 27 0 []).wellFormed = true := by
  decide

theorem test_unknown_with_a_long_payload :
    (Instr.unknownRequest 200 0 (List.replicate 91 0)).wellFormed = false ∧
      (Instr.unknownRequest 200 0 (List.replicate 90 0)).wellFormed = true := by
  decide

theorem test_no_word_spells_a_command : decodeTableWord 32 0 = none ∧ decodeTableWord 8 255 = none := by decide

/-! ### Worked figures -/

/-- The table of R11. -/
theorem test_sine_table_rows :
    [0, 1, 2048, 4096, 8192, 12288, 14336].map sineTable = [0, 13, 23170, 32767, 0, -32767, -23170] ∧
      [0, 1, 2048, 4096, 8192, 12288, 14336].map cosineTable = [32767, 32767, 23170, 0, -32767, 0, 23170] := by
  decide +kernel

/-- The segment of 1.8.1. -/
def logSegment : Segment := ⟨.measure, .log, 2000, 200000, -200, 400, 0, none⟩

theorem test_log_segment_fcodes : [0, 1, 200, 399].map (blockFcode logSegment) = [2000, 2023, 20000, 197711] := by
  decide +kernel

theorem test_log_segment_words :
    [2000, 2023, 20000, 197711].map (fun f => (freqWordOf f).toNat) = [8947849, 9050749, 89478485, 884544041] := by
  decide +kernel

/-- The table of R12. -/
theorem test_level_gains : [0, -200, -400, -600].map gainOf = [8388607, 838861, 83886, 8389] := by decide +kernel

/-- The figures at the end of R13, and its one clamp. -/
theorem test_drive_samples :
    ([4096, 12288, 2048, 14336].map (fun k => driveSample (BitVec.ofNat 32 (k * 2 ^ 18)) 838861) =
      [838835, -838836, 593152, -593153]) ∧
    [4096, 12288].map (fun k => driveSample (BitVec.ofNat 32 (k * 2 ^ 18)) 8388607) = [8388351, -8388351] := by
  decide +kernel

/-- The table of R52. -/
theorem test_guard_levels :
    [0, 1, 83886, 419430, 1200000, 8388607, 16777215].map guardLevel = [-1400, -1385, -400, -260, -169, 0, 60] := by
  decide +kernel

/-- The table of R44, with the values of 3.5. -/
theorem test_phases :
    phaseOf 0 3298431074400 = 0 ∧ phaseOf 3298431074400 0 = 900 ∧ phaseOf 5 5 = 450 ∧
      phaseOf 0 (-3298431074400) = -1800 ∧ phaseOf (-7) 0 = -900 := by
  decide +kernel

/-- 3.5: LF of the worked block, of the silent block and of the overdriven one. -/
theorem test_fundamental_levels :
    lfOf 0 3298431074400 = -260 ∧ isSilent 0 3298431074400 = false ∧ isSilent 3000000 4000000 = true ∧
      lfOf 0 78640800000000 = 0 := by
  decide +kernel

/-- 3.5.1 and 3.5.2: DN and RB of the clean block and of the rub block; the squares of the stated rms,
taken 480 times. -/
theorem test_residual_levels :
    dnOf 0 3298431074400 (480 * 419430 ^ 2 / 10 ^ 6) = -600 ∧ rbOf 0 3298431074400 8389 = -340 ∧
      dnOf 0 3298431074400 (480 * 13264 ^ 2 / 100) = -500 ∧ rbOf 0 3298431074400 41943 = -200 := by
  decide +kernel

/-- The table of R103. -/
theorem test_void_bands :
    [(20, 40, 33), (20, 60, 33), (1, 0, 100), (1, 99, 0), (0, 0, 0)].map
        (fun x : Nat × Nat × Nat => (⟨x.2.1, x.1, 0, 0, 0, false, false, false⟩ : BandTally).isVoid x.2.2) =
      [true, false, false, true, false] := by
  decide

/-- The lot of the tests: CLASS_NEST over the last span of the bin map, and the last serial of the range next. -/
def lot : Binding :=
  { lotId := 7, firstSegment := 10, primarySet := 0, retestSet := some 7, binBase := 192, keyMode := .clsNest,
    attemptLimit := 2, tallyPoint := .sweep, earlyOut := true, nextSerial := 4294967295, firstSerial := 4294967290,
    rejectRun := 1, entryDelay := 0, retestDelay := 0, chain := [10], totalBlocks := 1, firstBlocks := [0] }

/-- The examples of R121. -/
theorem test_bin_indices :
    binIndex { lot with keyMode := .cls, binBase := 200 } .rub 6 3 = 205 ∧
      binIndex { lot with binBase := 64 } .rub 3 1 = 107 ∧ binIndex { lot with binBase := 64 } .abort 7 2 = 127 ∧
      binIndex { lot with keyMode := .clsAttempt, binBase := 0 } .pass 1 2 = 1 ∧
      binIndex { lot with keyMode := .clsAttempt, binBase := 0 } .void 4 2 = 25 := by
  decide

/-- The program of 1.8.2 in the segment table. -/
def program : Vector Segment 256 :=
  (State.reset.swg.segments.set 10 ⟨.presence, .step, 10000, 10000, -200, 16, 4, some 11⟩
    |>.set 11 ⟨.polarity, .step, 3000, 3000, -200, 24, 4, some 12⟩
    |>.set 12 ⟨.measure, .log, 2000, 200000, -200, 160, 2, some 13⟩
    |>.set 13 ⟨.quiet, .step, 100, 100, -600, 8, 0, none⟩)

theorem test_short_program :
    validateChain program 10 = .pass [10, 11, 12, 13] ∧ totalBlocksOf program [10, 11, 12, 13] = 208 ∧
      firstBlocksFrom program 0 [10, 11, 12, 13] = [0, 16, 40, 200] := by
  decide +kernel

/-- R8: an empty entry at the second place, and a LOG entry with equal ends at the first. -/
theorem test_broken_chains :
    validateChain (program.set 11 Segment.empty) 10 = .fail 11 2 ∧
      validateChain (program.set 10 ⟨.measure, .log, 500, 500, 0, 1, 0, none⟩) 10 = .fail 10 1 := by
  decide +kernel

/-! ### Single steps -/

/-- What a step makes of a field, `none` when the step stops. -/
def after {α : Type} (f : State → α) (c : Instr) (s : State) : Option α :=
  match step { s with pending := [c] } with
  | .next t => some (f t)
  | .fault _ => none
  | .refused _ => none

/-- 11.9.1: the two words of STATUS with tag 7. -/
theorem test_status_cell_words :
    (Machine.Cell.word ⟨1, 7, []⟩ 0, Machine.Cell.word ⟨1, 7, []⟩ 1, Machine.Cell.wordCount ⟨1, 7, []⟩) =
      (0x40010700, 0xC0000008, 2) := by
  decide

/-- An assembler that has taken the FIRST word of that cell. -/
def assembling : State :=
  { State.reset with svc := { State.reset.svc with asm := .assembling, asmWords := 1, asmBytes := [1, 7, 0] } }

/-- 11.9.1: the LAST word ends a good cell, and STATUS is answered with 26 bytes under tag 7. -/
theorem test_last_word_takes_status :
    after (fun t => t.svc.reply.map (fun c => (c.type, c.tag, c.payload.length))) (.managementWord 0xC0000008) assembling =
      some [(129, 7, 26)] := by
  decide +kernel

/-- 11.9.1: with checksum bytes 0 and 9 the cell is discarded with cause 1. -/
theorem test_wrong_checksum :
    after (fun t => (t.flg.first.map (fun r => (r.kind, r.detail)), t.yct.live.cellErrors, t.svc.reply))
      (.managementWord 0xC0000009) assembling = some (some (.cellCheck, 1), 1, []) := by
  decide +kernel

/-- R184, R193: STATUS after power-on: identity 4,108, revision 2, NO_LOT, no lot id, SEARCHING, eight
DISABLED nests, NONE held, line stop clear, armed. -/
theorem test_status_after_reset :
    after (fun t => t.svc.reply.map (fun c => c.payload)) (.status 1) State.reset =
      some [[0, 16, 12, 0, 2, 0, 0, 0, 0, 0, 0, 0, 0, 0, 0, 0, 0, 0, 0, 255, 0, 0, 0, 0, 0, 1]] := by
  decide +kernel

/-- R93: a ticket of the lot. -/
def unit : Ticket :=
  { serial := 4294967290, lotId := 7, attempt := 1, disp := .opened, dispStage := none, dispClass := none,
    marginal := false, firstDefect := none, later := ClassSet.empty, lastDriven := none, lastJudged := none,
    final := none, entry := none }

/-- An open lot with `t` in nest 3, which stands in `st` with a CLOSED sensor; the link LOCKED. -/
def seated (st : NestState) (t : Ticket) : State :=
  let s := State.reset
  { s with
    tmb := ⟨480, true, false, false⟩
    swg := { s.swg with segments := program }
    fli := { s.fli with link := .locked }
    tkc := { s.tkc with
      linkView := .locked
      nests := s.tkc.nests.set 3 { Nest.reset with state := st, ticket := some t, level := .closed } }
    ltc := { s.ltc with line := .opened, binding := some lot, ticketCount := 1 } }

/-- The same state with nest 3 changed. -/
def seatedAs (st : NestState) (t : Ticket) (f : Nest → Nest) : State :=
  (seated st t).setNest 3 (f ((seated st t).nest 3))

/-- An open lot with nest 3 VACANT. -/
def vacant (f : Nest → Nest) : State :=
  let s := seated .vacant unit
  ({ s with ltc := { s.ltc with ticketCount := 0 } }).setNest 3 (f { Nest.reset with state := .vacant })

/-- R24: the 48th GOOD frame locks the link; a frame of zeros has check 0. -/
def goodFrame : UpstreamFrame := ⟨Vector.replicate 8 0, 0, 0, 0⟩

theorem test_48th_good_frame_locks :
    after (fun t => (t.fli.link, t.fli.goodRun, t.tmb.stamp)) (.upstreamFrontFrame (some goodFrame) 0 false)
      { State.reset with fli := { State.reset.fli with goodRun := 47 } } = some (.locked, 0, 1) := by
  decide +kernel

/-- R24: the 8th ABSENT frame at the last stamp loses the lock, and the stamp wraps (R1). -/
theorem test_8th_absent_frame_loses_lock :
    after (fun t => (t.fli.link, t.fli.lossStamp, t.fli.absentCount, t.tmb.stamp)) (.upstreamFrontFrame none 0 false)
      { State.reset with
        tmb := ⟨4026531839, true, false, false⟩
        fli := { State.reset.fli with link := .locked, badRun := 7, absentCount := 7 } } =
      some (.searching, some 4026531839, 8, 0) := by
  decide +kernel

/-- R103, R104, R107: a PASS of a drained nest reads entry base + 3. -/
theorem test_drain_passes :
    after (fun t => ((t.nest 3).state, ((t.nest 3).ticket.bind (fun x => x.final)), (t.nest 3).timer)) (.drainComplete 3)
      (seated .drain { unit with lastDriven := some 5, lastJudged := some 5 }) =
      some (.report, some ⟨.pass, .close, .pass⟩, 200) := by
  decide +kernel

/-- R106: a pull in ENTRY aborts at stage ENTRY, holds the ticket and leaves it in REPORT. -/
theorem test_pull_in_entry :
    after (fun t => ((t.nest 3).state, t.flg.held, t.flg.lineStop, (t.nest 3).ticket.bind (fun x => x.final))) (.openEvent 3)
      (seatedAs .entry unit (fun x => { x with eventDue := true })) =
      some (.report, some ⟨3, 4294967290⟩, true, some ⟨.abort, .entry, .abort⟩) := by
  decide +kernel

/-- R94: the last serial of the range is taken and the next serial wraps. -/
theorem test_close_event_opens_ticket :
    after (fun t => ((t.nest 3).ticket.map (fun x => x.serial), t.ltc.binding.map (fun b => b.nextSerial), t.ltc.ticketCount,
        t.yct.live.tickets, (t.ctx 3).state)) (.closeEvent 3) (vacant (fun x => { x with eventDue := true })) =
      some (some 4294967295, some 0, 1, 1, .armed) := by
  decide +kernel

/-- R157: LOT_ABORT in SWEEP stops the sweep and counts one ticket. -/
theorem test_lot_abort_in_sweep :
    let s := (seated .sweep unit).setCtx 3 { SweepCtx.reset with state := .running, copy := logSegment }
    after (fun t => ((t.ctx 3).stopRequested, (t.nest 3).ticket.map (fun x => (x.disp, x.dispStage)),
        t.svc.reply.map (fun c => c.payload))) (.lotAbort 9) s =
      some (true, some (.abort, some .sweep), [[0, 2, 1]]) := by
  decide +kernel

/-- R127: the strobe begins 96 frames after the start, and not a frame before. -/
theorem test_strobe_after_setup :
    let s := fun stamp => { State.reset with
      tmb := ⟨stamp, true, false, false⟩
      bmu := { State.reset.bmu with queue := [⟨5, 1, 0⟩], port := .setup, jobStart := 10 } }
    (after (fun t => (t.bmu.port, t.bmu.patternLines)) .markerStrobeStart (s 107) = some (.strobe, 5)) ∧
      after (fun t => t.bmu.port) .markerStrobeStart (s 106) = some .setup := by
  decide +kernel

/-- R48: a ninth record stops the model by name. -/
theorem test_full_pending_queue_stops :
    exec (.analysisBlockComplete 0) (State.reset.setAna 0 { Analysis.reset with
      state := .opened, count := 480,
      queue := List.replicate 8 ⟨0, 0, .quiet, false, false, 0, 0, 0, 0, 0, 0, false, false, 0, none⟩ }) =
      .fault .pendingQueueFull := by
  rfl

/-- R168: RESUME_LINE with a logged stop-enabled kind stops the line again; R172 refuses the clear of a
held record. -/
theorem test_resume_and_clear :
    let s := { State.reset with flg := { State.reset.flg with
      first := some ⟨.unitPulled, 3, some 2, some 9, 0⟩, held := some ⟨2, 9⟩, lineStop := true, armed := false } }
    (after (fun t => (t.flg.lineStop, t.flg.armed)) (.resumeLine 0) s = some (true, false)) ∧
      after (fun t => t.svc.reply.map (fun c => c.payload)) (.clearFaults 0 1 0) s = some [[2, 1, 0, 0]] := by
  decide +kernel

/-! ### States that meet the hypotheses of the statements -/

theorem witness_StepTakesFrontCommand :
    State.reset.pending = [] ∧ ({ State.reset with pending := [.warmReset, .tapChange] }).pending = .warmReset :: [.tapChange] := by
  decide

theorem witness_LineResetActionResetsBlocks :
    let u : UpCell := ⟨.reply, ⟨154, 3, [0]⟩, 2⟩
    let s := { State.reset with svc := { State.reset.svc with up := some u } }
    s.svc.up = some u ∧ u.source = .reply ∧ u.cell.type = 154 ∧ u.index = u.cell.wordCount ∧ s.svc.upChosen = false := by
  decide

/-- `k` requests wait behind a reply. -/
def waiting (k : Nat) : State :=
  { State.reset with svc := { State.reset.svc with requests := List.replicate k ⟨1, 0, []⟩, reply := [⟨129, 0, [0]⟩] } }

theorem witness_ArrivingRequestTakenQueuedOrDiscarded :
    State.reset.quiet ∧ (¬(waiting 3).quiet ∧ (waiting 3).svc.requests.length < 4) ∧
      4 ≤ (waiting 4).svc.requests.length := by
  decide

theorem witness_ReadSegmentAnswersStoredEntry : (seated .entry unit).quiet := by decide

theorem witness_ReadLimitAnswersStoredFields :
    State.reset.quiet ∧ 8 ≤ (8 : Byte).toNat ∧ (32 ≤ (254 : Byte).toNat ∧ (254 : Byte).toNat ≠ 255) ∧
      (7 : Byte).toNat < 8 ∧ (255 : Byte).toNat = 255 ∧ (31 : Byte).toNat < 32 := by
  decide

theorem witness_ReadBinmapAnswersStoredEntries :
    State.reset.quiet ∧ (0 : Byte).toNat = 0 ∧ 8 < (9 : Byte).toNat ∧ 256 < (249 : Byte).toNat + (8 : Byte).toNat ∧
      (1 ≤ (8 : Byte).toNat ∧ (8 : Byte).toNat ≤ 8 ∧ (248 : Byte).toNat + (8 : Byte).toNat ≤ 256) := by
  decide

/-- An open lot whose marks stand on segment entry 10, sets 0 and 7 and bin-map entries 192 to 255. -/
def marked : State :=
  let s := seated .entry unit
  { s with ltc := { s.ltc with
    segFrozen := s.ltc.segFrozen.set 10 true
    setFrozen := (s.ltc.setFrozen.set 0 true).set 7 true
    binFrozen := Vector.ofFn (fun k => decide (192 ≤ k.val)) } }

theorem witness_WriteSegmentReplacesEntry :
    let f : SegmentFields := ⟨4, 1, 100, 400000, 0xFDA8, 4095, 4094, 255⟩
    marked.quiet ∧ marked.ltc.segFrozen[10] = true ∧ marked.ltc.segFrozen[9] = false ∧ f.type ≠ 0 ∧
      (f.type.toNat ≤ 4 ∧ f.law.toNat ≤ 1 ∧ 100 ≤ f.fStart.toNat ∧ f.fEnd.toNat ≤ 400000 ∧ -600 ≤ f.level.toInt ∧
        f.level.toInt ≤ 0 ∧ f.duration.toNat ≤ 4095 ∧ f.settle.toNat < f.duration.toNat ∧ f.next.toNat < 256) ∧
      ¬({ f with settle := 4095 }).settle.toNat < f.duration.toNat ∧ ({ f with type := 0 }).type = 0 := by
  decide

theorem test_write_segment_at_the_ends :
    after (fun t => (t.swg.segments[9], t.svc.reply.map (fun c => c.payload)))
      (.writeSegment 0 9 ⟨4, 1, 100, 400000, 0xFDA8, 4095, 4094, 65535⟩) State.reset =
      some (⟨.quiet, .log, 100, 400000, -600, 4095, 4094, none⟩, [[0]]) := by
  decide +kernel

theorem witness_WriteLimitReplacesFields :
    let h : HeaderFields := ⟨0xF8F8, 900, 15, 600, 100, 32⟩
    let b : BandFields := ⟨100, 400000, 0xFA88, 600, 400, 400, 60, 15⟩
    marked.quiet ∧ 8 ≤ (8 : Byte).toNat ∧ 32 ≤ (32 : Byte).toNat ∧ (7 : Byte).toNat < 8 ∧ (31 : Byte).toNat < 32 ∧
      marked.ltc.setFrozen[7] = true ∧ marked.ltc.setFrozen[6] = false ∧
      ((-1800 ≤ h.phase.toInt ∧ h.phase.toInt ≤ 1799) ∧ h.tolerance.toNat ≤ 900 ∧
        (1 ≤ h.persistence.toNat ∧ h.persistence.toNat ≤ 15) ∧ (-1400 ≤ h.presence.toInt ∧ h.presence.toInt ≤ 600) ∧
        h.voidPercent.toNat ≤ 100 ∧ (1 ≤ h.bandCount.toNat ∧ h.bandCount.toNat ≤ 32)) ∧
      ¬({ h with bandCount := 33 }).bandCount.toNat ≤ 32 ∧
      ((100 ≤ b.fLo.toNat ∧ b.fHi.toNat ≤ 400000) ∧ -1400 ≤ b.gLo.toInt ∧ b.gHi.toInt ≤ 600 ∧ b.dnMax.toInt ≤ 400 ∧
        b.rbMax.toInt ≤ 400 ∧ b.margin.toNat ≤ 60 ∧ (1 ≤ b.persistence.toNat ∧ b.persistence.toNat ≤ 15)) ∧
      ¬1 ≤ ({ b with persistence := 0 }).persistence.toNat := by
  decide

theorem witness_WriteBinmapReplacesAllOrNothing :
    marked.quiet ∧ binmapEntriesMatch 1 [⟨31, 63, 1⟩] = true ∧ binmapEntriesMatch 9 [] = true ∧
      (1 ≤ (1 : Byte).toNat ∧ (1 : Byte).toNat ≤ 8 ∧ (191 : Byte).toNat + (1 : Byte).toNat ≤ 256) ∧
      ¬(9 : Byte).toNat ≤ 8 ∧ marked.ltc.binFrozen[192] = true ∧ marked.ltc.binFrozen[191] = false ∧
      (∀ e ∈ ([⟨31, 63, 1⟩] : List BinFields), e.bin.toNat < 32 ∧ e.pattern.toNat < 64 ∧ e.good.toNat ≤ 1) ∧
      ¬(∀ e ∈ ([⟨32, 63, 1⟩] : List BinFields), e.bin.toNat < 32) := by
  decide +kernel

theorem test_write_binmap_across_the_span :
    (after (fun t => t.svc.reply.map (fun c => c.payload)) (.writeBinmap 0 191 2 [⟨1, 1, 1⟩, ⟨1, 1, 1⟩]) marked =
      some [[3]]) ∧
    after (fun t => (t.bmu.binMap[191], t.svc.reply.map (fun c => c.payload))) (.writeBinmap 0 191 1 [⟨31, 63, 1⟩]) marked =
      some (⟨31, 63, true⟩, [[0]]) := by
  decide +kernel

theorem witness_NestConfigurationWrittenAndRead :
    let f : NestFields := ⟨1, 1, 1, 4095⟩
    let s := seated .entry unit
    s.quiet ∧ 8 ≤ (8 : Byte).toNat ∧ (3 : Byte).toNat < 8 ∧
      (f.startMode.toNat ≤ 1 ∧ f.sensor.toNat ≤ 1 ∧ 1 ≤ f.debounce.toNat ∧ f.delay.toNat ≤ 4095 ∧
        ¬(f.startMode = 0 ∧ f.sensor = 1)) ∧
      ¬({ f with delay := 4096 }).delay.toNat ≤ 4095 ∧ (s.nest 3).state.holdsTicket = true ∧
      (s.nest 3).startMode.code ≠ f.startMode.toNat ∧ (s.nest 7).state.holdsTicket = false ∧
      ((s.nest 3).startMode.code = (0 : Byte).toNat ∧ (s.nest 3).sensor.code = (0 : Byte).toNat ∧
        (s.nest 3).delay = (0 : Half).toNat) := by
  decide

theorem witness_LineConfigurationWrittenAndRead :
    let f : LineFields := ⟨0xFDA8, 2400, 2400, 4095, 4095, 96, 65535, 4095, 0x07FE⟩
    State.reset.quiet ∧
      ((-600 ≤ f.threshold.toInt ∧ f.threshold.toInt ≤ 0) ∧ f.pre.toNat ≤ 2400 ∧ f.post.toNat ≤ 2400 ∧
        f.reportWait.toNat ≤ 4095 ∧ f.unloadLimit.toNat ≤ 4095 ∧ 96 ≤ f.strobeWidth.toNat ∧ f.markerWait.toNat ≤ 4095) ∧
      (∀ k, k = 0 ∨ 11 ≤ k → f.stopMask.getLsbD k = false) ∧ ¬96 ≤ ({ f with strobeWidth := 95 }).strobeWidth.toNat := by
  refine ⟨by decide, by decide, fun k hk => ?_, by decide⟩
  rcases hk with rfl | hk
  · decide
  · by_cases h : k < 16
    · interval_cases k <;> decide
    · exact BitVec.getLsbD_of_ge _ _ (by omega)

theorem witness_NestEnableAndDisableByState :
    State.reset.quiet ∧ (State.reset.nest 7).state = .disabled ∧
      (vacant id).quiet ∧ ((vacant id).nest 3).state = .vacant ∧
      (seated .held unit).quiet ∧ ((seated .held unit).nest 3).state.holdsTicket = true := by
  decide

/-- An open lot with nest 3 VACANT and MANUAL. -/
def manual : State := vacant (fun x => { x with startMode := .manual })

theorem witness_NestStartOpensTicket :
    (vacant id).quiet ∧ ((vacant id).nest 3).startMode = .auto ∧
      manual.quiet ∧ (manual.nest 3).startMode = .manual ∧ (manual.nest 3).state = .vacant ∧ manual.ltc.line = .opened ∧
      manual.ltc.binding = some lot := by
  decide

/-- R64, R65: a limit set that R69 passes, its two bands meeting. -/
def validSet : LimitSet :=
  ⟨⟨0, 900, 1, -1400, 33, 2⟩,
    (LimitSet.reset.bands.set 0 ⟨100, 2000, -100, 100, 0, -300, 10, 2⟩).set 1 ⟨2000, 400000, 0, 0, 0, 0, 0, 1⟩⟩

/-- No lot, with the program of 1.8.2 and set 0 loaded. -/
def loaded : State :=
  let s := State.reset
  { s with swg := { s.swg with segments := program }, jdu := { s.jdu with sets := s.jdu.sets.set 0 validSet } }

theorem witness_LotOpenValidatesAndBinds :
    let f : LotFields := ⟨1, 10, 0, 255, 192, 1, 3, 3, 1, 0xFFFFFFFF, 15, 255, 255⟩
    (manual.quiet ∧ manual.ltc.line = .opened) ∧
      ({ manual with ltc := { manual.ltc with line := .closing } }).ltc.line = .closing ∧
      (loaded.quiet ∧ loaded.ltc.line = .noLot) ∧
      (f.primarySet.toNat < 8 ∧ f.retestSet.toNat = 255 ∧ f.keyMode.toNat ≤ 2 ∧
        (1 ≤ f.attemptLimit.toNat ∧ f.attemptLimit.toNat ≤ 3) ∧ f.tallyPoint.toNat ≤ 3 ∧ f.earlyOut.toNat ≤ 1 ∧
        f.rejectRun.toNat ≤ 15) ∧
      ¬({ f with attemptLimit := 0 }).attemptLimit.toNat ≥ 1 ∧
      validateChain loaded.swg.segments 10 = .pass [10, 11, 12, 13] ∧ validateChain loaded.swg.segments 9 = .fail 9 1 ∧
      loaded.jdu.sets[0].valid = true ∧ loaded.jdu.sets[1].valid = false ∧ 192 + 64 - 1 ≤ 255 ∧ ¬193 + 64 - 1 ≤ 255 := by
  decide +kernel

/-- R69: a set fails on a header field, on f_lo at f_hi, on G_lo above G_hi and on overlapping bands, and a band at the
band count is not examined. -/
theorem test_limit_set_validation :
    let first := fun b : Band => { validSet with bands := validSet.bands.set 0 b }
    [validSet, { validSet with header := { validSet.header with persistence := 0 } },
        first ⟨2000, 2000, -100, 100, 0, -300, 10, 2⟩, first ⟨100, 2000, 101, 100, 0, -300, 10, 2⟩,
        first ⟨100, 2001, -100, 100, 0, -300, 10, 2⟩,
        { validSet with bands := validSet.bands.set 2 Band.reset }].map LimitSet.valid =
      [true, false, false, false, false, true] := by
  decide +kernel

theorem test_lot_open_reply :
    after (fun t => t.svc.reply.map (fun c => c.payload))
      (.lotOpen 0 ⟨1, 10, 0, 255, 192, 1, 3, 3, 1, 0xFFFFFFFF, 15, 255, 255⟩) loaded =
      some [[0, 1, 0, 0, 0, 1, 4, 0, 0, 208, 0, 0, 0, 0, 0, 16, 0, 0, 40, 0, 0, 200]] := by
  decide +kernel

theorem test_lot_open_refusals :
    let f : LotFields := ⟨1, 10, 0, 255, 192, 1, 3, 3, 1, 0xFFFFFFFF, 15, 255, 255⟩
    [f, { f with attemptLimit := 4 }, { f with firstSegment := 9 }, { f with primarySet := 1 }, { f with retestSet := 1 },
        { f with binBase := 193 }].map
      (fun g => after (fun t => t.svc.reply.map (fun c => c.payload.take 5)) (.lotOpen 0 g) loaded) =
      [some [[0, 1, 0, 0, 0]], some [[1, 0, 0, 0, 0]], some [[1, 0, 1, 9, 1]], some [[1, 0, 2, 0, 0]],
        some [[1, 0, 3, 0, 0]], some [[1, 0, 4, 0, 0]]] := by
  decide +kernel

/-- The notice FIFO is full. -/
def crowded (s : State) : State := { s with svc := { s.svc with notices := List.replicate 8 ⟨65, 0, []⟩ } }

theorem witness_LotCloseDrainsOrWaits :
    (State.reset.quiet ∧ State.reset.ltc.line ≠ .opened) ∧
      ((seated .entry unit).quiet ∧ (seated .entry unit).ltc.line = .opened ∧ (seated .entry unit).ltc.ticketCount ≠ 0) ∧
      (manual.quiet ∧ manual.ltc.line = .opened ∧ manual.ltc.ticketCount = 0 ∧ manual.ltc.binding = some lot ∧
        manual.svc.notices.length < 8) ∧
      ((crowded manual).quiet ∧ (crowded manual).ltc.line = .opened ∧ (crowded manual).ltc.ticketCount = 0 ∧
        (crowded manual).ltc.binding = some lot ∧ 8 ≤ (crowded manual).svc.notices.length) := by
  decide

/-- R156, R186: a drain into a full notice FIFO logs NOTICE_OVERFLOW in place of its notice. -/
theorem test_drain_into_a_full_fifo :
    after (fun t => (t.ltc.line, t.svc.notices.length, t.flg.first.map (fun r => r.kind), t.svc.reply.map (fun c => c.payload)))
      (.lotClose 0) (crowded manual) = some (.closed, 8, some .noticeOverflow, [[0, 3]]) := by
  decide +kernel

theorem witness_LotAbortProposesToTicketsUnderTest :
    (State.reset.quiet ∧ State.reset.ltc.line = .noLot) ∧
      ((seated .drain unit).quiet ∧ (seated .drain unit).ltc.line = .opened ∧ (seated .drain unit).ltc.ticketCount ≠ 0 ∧
        ((seated .drain unit).nest 3).state.underTest = true ∧ ((seated .drain unit).nest 2).state.underTest = false) ∧
      (manual.quiet ∧ manual.ltc.ticketCount = 0 ∧ (∀ n, (manual.nest n).state.underTest = false) ∧
        manual.ltc.binding = some lot ∧ manual.svc.notices.length < 8 ∧ 8 ≤ (crowded manual).svc.notices.length) := by
  decide

/-- The ticket of nest 3 is held. -/
def heldIn (st : NestState) (f : Nest → Nest) : State :=
  let s := seatedAs st unit f
  { s with flg := { s.flg with
    first := some ⟨.nestStuck, 480, some 3, some 4294967290, 1200⟩, held := some ⟨3, 4294967290⟩ } }

/-- The lot is CLOSING with `k` tickets left. -/
def closingWith (k : Nat) (s : State) : State := { s with ltc := { s.ltc with line := .closing, ticketCount := k } }

/-- R154, R156: the release that retires the last ticket of a CLOSING line drains the lot; with two left it does not. -/
theorem test_last_release_drains :
    let s := fun k => closingWith k (heldIn .held (fun x => { x with level := .opened }))
    let got := fun k => after (fun t => (t.ltc.line, t.ltc.ticketCount, t.svc.notices.map (fun c => c.type))) (.releaseTicket 0 3)
      (s k)
    got 1 = some (.closed, 0, [66]) ∧ got 2 = some (.closing, 1, []) := by
  decide +kernel

theorem witness_ReleaseTicketByStateAndSensor :
    (heldIn .held id).quiet ∧ 8 ≤ (8 : Byte).toNat ∧ (3 : Byte).toNat < 8 ∧
      (∀ h ∈ (heldIn .held id).flg.held, h.nest ≠ 4) ∧
      (heldIn .held id).flg.held = some ⟨3, 4294967290⟩ ∧ ((heldIn .held id).nest 3).state = .held ∧
      ((heldIn .held id).nest 3).sensor = .used ∧ ((heldIn .held id).nest 3).level = .closed ∧
      (let s := heldIn .held (fun x => { x with level := .opened })
       s.quiet ∧ s.flg.held = some ⟨3, 4294967290⟩ ∧ (s.nest 3).state = .held ∧ (s.nest 3).level = .opened ∧
         s.ltc.line = .opened) ∧
      ((heldIn .report id).quiet ∧ (heldIn .report id).flg.held = some ⟨3, 4294967290⟩ ∧
        ((heldIn .report id).nest 3).state ≠ .held) ∧
      (let s := closingWith 1 (heldIn .held (fun x => { x with level := .opened }))
       s.quiet ∧ s.flg.held = some ⟨3, 4294967290⟩ ∧ (s.nest 3).state = .held ∧ (s.nest 3).level = .opened ∧
         s.ltc.line = .closing ∧ s.ltc.ticketCount = 1 ∧ s.ltc.binding = some lot) ∧
      2 ≤ (closingWith 2 (heldIn .held id)).ltc.ticketCount := by
  decide

theorem witness_ReadTicketAnswersTicketAsItStands :
    (seated .entry unit).quiet ∧ (8 < (9 : Byte).toNat) ∧ 32 < (31 : Byte).toNat + (2 : Byte).toNat ∧
      ((8 : Byte).toNat ≤ 8 ∧ (24 : Byte).toNat + (8 : Byte).toNat ≤ 32) ∧ ((seated .entry unit).nest 2).ticket = none ∧
      ((seated .entry unit).nest 3).ticket = some unit := by
  decide

/-- A snapshot has been taken. -/
def snapped : State := { State.reset with yct := { State.reset.yct with present := true, number := 255 } }

theorem witness_ReadCountersTakesSnapshot :
    snapped.quiet ∧ 5 < (6 : Byte).toNat ∧ ((1 : Byte).getLsbD 0 = true ∧ (1 : Byte) ≠ 0) ∧
      (1 ≤ (5 : Byte).toNat ∧ (5 : Byte).toNat ≤ 5 ∧ (0 : Byte).getLsbD 0 = false) ∧ State.reset.yct.present = false ∧
      snapped.yct.present = true ∧ (0 : Byte) = 0 := by
  decide

theorem test_read_counters_number_wraps :
    after (fun t => (t.yct.number, t.yct.cleared, t.svc.reply.map (fun c => c.payload.take 4))) (.readCounters 0 0 1) snapped =
      some (0, true, [[0, 0, 0, 1]]) := by
  decide +kernel

theorem witness_ReadFaultsAnswersLog : (heldIn .held id).quiet := by decide

theorem witness_ClearFaultsUnlessHeld :
    (heldIn .held id).quiet ∧ (0x0800 : Half).getLsbD 11 = true ∧
      (∀ k, k = 0 ∨ 11 ≤ k → (0x0402 : Half).getLsbD k = false) ∧ (1 : Byte).getLsbD 0 = true ∧
      (heldIn .held id).flg.held ≠ none ∧ (0 : Byte).getLsbD 0 = false ∧ State.reset.quiet ∧ State.reset.flg.held = none := by
  refine ⟨by decide, by decide, fun k hk => ?_, by decide, by decide, by decide, by decide, by decide⟩
  rcases hk with rfl | hk
  · decide
  · by_cases h : k < 16
    · interval_cases k <;> decide
    · exact BitVec.getLsbD_of_ge _ _ (by omega)

theorem witness_ResumeLineStopsAgainForLoggedKind :
    (heldIn .held id).quiet ∧
      (∃ r, (heldIn .held id).flg.first = some r ∧ (heldIn .held id).flg.stopMask.getLsbD r.kind.code = true) ∧
      State.reset.quiet ∧
      ¬((∃ r, State.reset.flg.first = some r ∧ State.reset.flg.stopMask.getLsbD r.kind.code = true) ∨
        ∃ k, State.reset.flg.next.getLsbD k = true ∧ State.reset.flg.stopMask.getLsbD k = true) := by
  refine ⟨by decide, ⟨_, rfl, by decide⟩, by decide, ?_⟩
  rintro (⟨r, h, _⟩ | ⟨k, h, _⟩)
  · cases h
  · have : State.reset.flg.next = 0#16 := rfl
    simp [this] at h

theorem witness_SetTapSetsPendingSource :
    State.reset.quiet ∧ ¬(2 : Byte).toNat < 2 ∧ ¬(6 : Byte).toNat ≤ 5 ∧
      ((1 : Byte).toNat < 2 ∧ (4 : Byte).toNat ≤ 5 ∧ (7 : Byte).toNat < 8) := by
  decide

theorem witness_StatusLineResetAndUnknownAnswered :
    (seated .held unit).quiet ∧ isRequestType 0 = false ∧ isRequestType 128 = false := by
  decide

/-! ### The frame-end -/

/-- A state with a link state and its two runs. -/
def linked (link : LinkState) (good bad : Nat) : State :=
  { State.reset with fli := { State.reset.fli with link := link, goodRun := good, badRun := bad } }

theorem witness_FrameEndUpdatesLockState :
    byteSum (slotBytes goodFrame) = goodFrame.check.toNat ∧
      byteSum (slotBytes { goodFrame with check := 1 }) ≠ ({ goodFrame with check := 1 }).check.toNat ∧
      ((linked .searching 46 0).fli.link = .searching ∧ (linked .searching 46 0).fli.goodRun < 47) ∧
      47 ≤ (linked .searching 47 0).fli.goodRun ∧
      ((linked .locked 0 6).fli.link = .locked ∧ (linked .locked 0 6).fli.badRun < 7) ∧
      7 ≤ (linked .locked 0 7).fli.badRun := by
  decide

/-- Nest 3 RUNNING with 479 samples in its block in progress, the link LOCKED. -/
def measuring (stamp : Nat) : State :=
  let s := (linked .locked 0 0).setCtx 3 { SweepCtx.reset with state := .running, gain := 838861, freqWord := 5 }
  ({ s with tmb := ⟨stamp, true, false, false⟩ }).setAna 3 { Analysis.reset with state := .opened, count := 479 }

/-- One GOOD frame short of LOCKED, nest 3 with a block in progress, its ticket waiting in ENTRY or in DRAIN. -/
def relocking (waits : Bool) : State :=
  let s := (seated (if waits then .entry else .drain) unit).setAna 3 { Analysis.reset with state := .opened, count := 1, buffer := [9] }
  { s with fli := { s.fli with link := .searching, goodRun := 47 } }

/-- Tap slot 0 carries the residuals of the block that began at 0; the next frame is frame `480 + k`. -/
def residing (k : Nat) : State :=
  let s := (linked .locked 0 0).setAna 3 { Analysis.reset with residual := some ⟨0, List.replicate 480 7, false⟩ }
  { s with tmb := ⟨480 + k, true, false, false⟩
           fli := { s.fli with taps := s.fli.taps.set 0 ⟨.resid 3, none, none, 0⟩ } }

theorem witness_FrameEndMovesSamples :
    ((measuring 480).ctx 3).state = .running ∧ ((measuring 480).ctx 2).state ≠ .running ∧
      after (fun t => t.fli.link) (.upstreamFrontFrame (some goodFrame) 0 false) (measuring 480) = some .locked ∧
      (measuring 480).fli.link ≠ .searching ∧ ((measuring 480).ana 3).state = .opened ∧
      ((measuring 480).ana 3).count < 480 ∧ ((measuring 480).ana 2).state ≠ .opened ∧
      (measuring 480).tmb.stamp % 480 = 0 ∧ (measuring 481).tmb.stamp % 480 ≠ 0 ∧
      (∀ k ∈ [478, 479], elapsed 480 (residing k).tmb.stamp = k ∧
        ((residing k).ana 3).residual = some ⟨0, List.replicate 480 7, false⟩ ∧
        (residing k).fli.taps[0].current = .resid 3) ∧
      ((relocking true).fli.link = .searching ∧
        after (fun t => t.fli.link) (.upstreamFrontFrame (some goodFrame) 0 false) (relocking true) = some .locked ∧
        ((relocking true).nest 3).timer = 0 ∧ ((relocking true).nest 3).drive = .idle ∧
        ((relocking true).nest 3).state = .entry ∧ ((relocking true).ctx 3).state = .idle ∧
        ((relocking false).nest 3).state ≠ .entry ∧ ((relocking false).nest 3).state ≠ .retestWait ∧
        ((relocking false).ana 3).state = .opened ∧ ((relocking false).ana 3).count < 480) := by
  decide +kernel

/-- R24, R97: the frame that takes the link to LOCKED is trusted: an open block takes its sample, but a start request
that the link-locked report lets TKC make begins the analysis anew. -/
theorem test_locking_frame_is_taken :
    let f : UpstreamFrame := ⟨(Vector.replicate 8 0).set 3 5, 0, 0, 5⟩
    [true, false].map (fun w => after (fun t => ((t.ana 3).state, (t.ana 3).buffer, (t.ctx 3).state))
        (.upstreamFrontFrame (some f) 0 false) (relocking w)) =
      [some (.waiting, [], .armed), some (.opened, [9, 5], .idle)] := by
  decide +kernel

/-- R32: a frame carries the last residual, once: a stamp range later the same stamp carries 0. -/
theorem test_residual_carried_once :
    let carried := after (fun t => (t.fli.taps[0].carried, (t.ana 3).residual.map (fun r => r.spent)))
      (.upstreamFrontFrame (some goodFrame) 0 false)
    carried (residing 478) = some (7, some false) ∧ carried (residing 479) = some (7, some true) ∧
      carried ((residing 479).setAna 3 { (residing 479).ana 3 with
        residual := some ⟨0, List.replicate 480 7, true⟩ }) = some (0, some true) := by
  decide +kernel

/-- R27: a flag set at place 8 delivers the guard sample as 0, invalid; one at place 0 marks mic 0 clipped. -/
theorem test_clip_flags :
    after (fun t => (t.fli.guardMic, t.fli.mics[0], t.fli.mics[1]))
      (.upstreamFrontFrame (some ⟨(Vector.replicate 8 0).set 0 0xFFFFFF, 7, 0x0101, 774⟩) 0 false) (linked .locked 0 0) =
      some (⟨0, true, false⟩, ⟨-1, false, true⟩, ⟨0, false, false⟩) := by
  decide +kernel

/-- A nest one frame short of a debounce, waiting in ENTRY for the link. -/
def settling : State :=
  let s := seatedAs .entry unit (fun x => { x with level := .opened, steady := 959 })
  { s with fli := { s.fli with link := .searching, goodRun := 47 } }

theorem witness_FrameEndDebouncesSensors :
    State.reset.tmb.framed = false ∧ settling.tmb.framed = true ∧
      (settling.fli.link = .searching ∧
        after (fun t => t.fli.link) (.upstreamFrontFrame (some goodFrame) 8 false) settling = some .locked ∧
        (settling.nest 3).timer = 0 ∧ (settling.nest 3).drive = .idle ∧ (settling.nest 3).state = .entry ∧
        (settling.ctx 3).state = .idle) ∧
      (8 : Byte).getLsbD 3 = true ∧ (settling.nest 3).level = .opened ∧ (settling.nest 3).steady < 65535 ∧
      (settling.nest 3).debounce ≤ (settling.nest 3).steady + 1 ∧ (8 : Byte).getLsbD 2 = false ∧
      (settling.nest 2).level = .opened ∧ (settling.ctx 2).state ≠ .running := by
  decide +kernel

theorem test_debounce_reached :
    after (fun t => ((t.nest 3).eventDue, (t.nest 3).drive, (t.ctx 3).state)) (.upstreamFrontFrame (some goodFrame) 8 false)
      settling = some (true, .starting, .armed) := by
  decide +kernel

/-- A loss at stamp 4,026,531,000, and the frame `k` frames later taken. -/
def watching (k : Nat) : State :=
  let s := seated .drain unit
  { s with tmb := ⟨(4026531000 + k + 1) % 4026531840, true, false, false⟩
           fli := { s.fli with link := .searching, lossStamp := some 4026531000, absentCount := 8 } }

theorem witness_FrontLostRaisedWhenTheWatchEnds :
    ((watching 4800).tmb.framed = true ∧ (watching 4800).fli.link = .searching ∧
      (watching 4800).fli.lossStamp = some 4026531000 ∧ elapsed 4026531000 (watching 4800).lastFrame = 4800) ∧
      elapsed 4026531000 (watching 4799).lastFrame ≠ 4800 ∧ (watching 4800).ltc.line = .opened ∧
      ((watching 4800).nest 3).state = .drain ∧ ((watching 4800).nest 2).state ≠ .drain := by
  decide

theorem test_front_lost_after_the_wrap :
    after (fun t => (t.flg.first.map (fun r => (r.kind, r.stamp, r.detail)), t.fli.lossStamp)) .frontLost (watching 4800) =
      some (some (.frontLost, 3960, 8), none) := by
  decide +kernel

/-! ### The global boundary -/

/-- GDM saturated at boundary 10,080 + k, with trips at 0 and 480 and the last discard at 0; a pending tap. -/
def stormy (k : Nat) : State :=
  let s := State.reset
  { s with tmb := ⟨10080 + k, true, false, false⟩
           fli := { s.fli with lastOpened := some 6, taps := s.fli.taps.set 1 ⟨.off, some .follow, none, 0⟩ }
           gdm := { s.gdm with trips := [⟨0, -1400⟩, ⟨480, 60⟩], saturated := true, lastDiscard := some 0 } }

/-- FLI and GDM have taken their configuration at this boundary. -/
def processed (s : State) : State :=
  { s with fli := { s.fli with tapsTaken := true }, gdm := { s.gdm with configTaken := true } }

theorem witness_BoundaryStepsOfTapsAndGuard :
    (stormy 0).tmb.stamp % 480 = 0 ∧ (stormy 1).tmb.stamp % 480 ≠ 0 ∧
      elapsed ((0 + 10080) % 4026531840) (stormy 0).tmb.stamp < 2013265920 ∧
      ¬elapsed ((480 + 10080) % 4026531840) (stormy 0).tmb.stamp < 2013265920 ∧
      (stormy 0).fli.taps[1].pending = some .follow ∧ (stormy 0).fli.taps[0].pending = none ∧
      ((stormy 0).fli.tapsTaken = false ∧ (stormy 0).gdm.configTaken = false) ∧
      ((processed (stormy 0)).fli.tapsTaken = true ∧ (processed (stormy 0)).gdm.configTaken = true) := by
  decide

/-- R30, R57: a SET_TAP and a WRITE_LINE after the boundary's steps wait for the next boundary. -/
theorem test_later_configuration_waits :
    let s := processed { stormy 0 with gdm := { (stormy 0).gdm with pending := ⟨-600, 0, 2400⟩ } }
    after (fun t => (t.fli.taps[1].current, t.fli.taps[1].pending)) .tapChange s = some (.off, some .follow) ∧
      after (fun t => t.gdm.current) .guardConfigTakeEffect s = some ⟨-300, 240, 960⟩ ∧
      after (fun t => t.gdm.current) (.blockDeparture 3) s = some ⟨-300, 240, 960⟩ := by
  decide +kernel

theorem test_boundary_of_a_storm :
    (after (fun t => (t.gdm.trips, t.gdm.saturated)) .saturationEnd (stormy 0) = some ([⟨480, 60⟩], false)) ∧
      after (fun t => t.fli.taps[1]) .tapChange (stormy 0) = some ⟨.follow, none, some 6, 0⟩ := by
  decide +kernel

/-- Nest 3 waits in `st` at a boundary whose timers have counted. -/
def counted (st : NestState) : State :=
  let s := seated st unit
  { s with tmb := ⟨480, true, true, true⟩ }

theorem witness_BoundaryCountsTimersAndDelaysRunOut :
    ((seated .entry unit).tmb.stamp % 480 = 0 ∧ (seated .entry unit).tmb.counted = false) ∧
      (counted .entry).tmb.counted = true ∧
      (∀ st ∈ [NestState.entry, NestState.retestWait], ((counted st).nest 3).state = st ∧ ((counted st).nest 3).timer = 0 ∧
        (counted st).tkc.linkView = .locked ∧ ((counted st).nest 3).drive = .idle ∧ ((counted st).ctx 3).state = .idle) ∧
      ((counted .entry).setCtx 3 { SweepCtx.reset with state := .running }).ctx 3 ≠ SweepCtx.reset := by
  decide +kernel

/-- R96: a timer at 1 expires at the boundary, once. -/
theorem test_timer_expires_once :
    let s := seatedAs .report unit (fun x => { x with timer := 1 })
    (after (fun t => ((t.nest 3).timer, (t.nest 3).expiry)) .globalBlockBoundary s = some (0, some 480)) ∧
      after (fun t => (t.nest 3).timer) .globalBlockBoundary { s with tmb := ⟨480, true, true, true⟩ } = some 1 := by
  decide +kernel

/-! ### The sweep -/

/-- Nest 3 in ENTRY with its context ARMED. -/
def armed : State := (seatedAs .entry unit (fun x => { x with drive := .starting })).setCtx 3 { SweepCtx.reset with state := .armed }

theorem witness_SweepStartsAtLockedBoundary :
    armed.ltc.binding = some lot ∧ (armed.tmb.stamp % 480 = 0 ∧ armed.swg.processed[3] = false ∧
      (armed.ctx 3).state = .armed ∧ armed.fli.link = .locked) ∧
      (armed.nest 3).state = .entry ∧ (armed.ctx 2).state ≠ .armed ∧ (armed.setProcessed 3).swg.processed[3] = true ∧
      ({ armed with tmb := ⟨481, true, false, false⟩ }).tmb.stamp % 480 ≠ 0 := by
  decide

/-- R15: a request taken after SWG has processed the boundary waits for the next; the next frame clears the mark. -/
theorem test_later_request_waits :
    let start := fun s => after (fun t => ((t.ctx 3).state, t.swg.processed[3])) (.sweepStart 3) s
    start armed = some (.running, true) ∧ start (armed.setProcessed 3) = some (.armed, true) ∧
      start (armed.setProcessed 2) = some (.running, true) ∧
      after (fun t => t.swg.processed[3]) (.upstreamFrontFrame none 0 false) (armed.setProcessed 3) = some false := by
  decide +kernel

theorem test_sweep_starts :
    after (fun t => ((t.ctx 3).state, (t.ctx 3).freqWord.toNat, (t.ctx 3).gain, (t.nest 3).state, (t.ana 3).history.length))
      (.sweepStart 3) armed = some (.running, 44739243, 838861, .sweep, 1) := by
  decide +kernel

/-- Nest 3 drives block `j` of segment entry `k`, which began 480 frames before the wrap. -/
def driving (k : Fin 256) (j : Nat) (stop : Bool) : State :=
  let s := (seatedAs .sweep unit (fun x => { x with drive := .running })).setCtx 3
    { state := .running, segment := k, copy := program[k], blockIndex := j, programBlock := 9, phase := 160, freqWord := 1,
      gain := 1, stopRequested := stop, lastDriven := some 8, blockStart := 4026531360 }
  { s with tmb := ⟨0, true, false, false⟩ }

/-- A new ticket waits in `st` while the stopped sweep of the one before it ends. -/
def leftOver (st : NestState) (timer : Nat) : State :=
  (driving 10 14 true).setNest 3 { (driving 10 14 true).nest 3 with state := st, timer := timer }

theorem witness_DriveBlockEndTakesFirstCase :
    (∀ s ∈ [driving 10 14 true, driving 10 14 false, driving 10 15 false, driving 13 7 false],
      s.tmb.stamp % 480 = 0 ∧ (s.ctx 3).state = .running ∧
        ((s.ctx 3).blockStart + 480) % 4026531840 = s.tmb.stamp % 4026531840 ∧ (s.nest 3).state = .sweep) ∧
      ((driving 10 14 true).ctx 3).stopRequested = true ∧
      (((driving 10 14 false).ctx 3).blockIndex + 1 < ((driving 10 14 false).ctx 3).copy.duration) ∧
      (((driving 10 15 false).ctx 3).copy.duration ≤ ((driving 10 15 false).ctx 3).blockIndex + 1 ∧
        ((driving 10 15 false).ctx 3).copy.next = some 11) ∧
      (((driving 13 7 false).ctx 3).copy.duration ≤ ((driving 13 7 false).ctx 3).blockIndex + 1 ∧
        ((driving 13 7 false).ctx 3).copy.next = none) ∧
      ¬((driving 10 14 true).ctx 2).state = .running ∧
      (∀ st ∈ [NestState.entry, NestState.retestWait], ∀ timer ∈ [0, 1],
        ((leftOver st timer).nest 3).state = st ∧ ((leftOver st timer).nest 3).timer = timer ∧
          (leftOver st timer).tkc.linkView = .locked ∧ ((leftOver st timer).ctx 3).state = .running ∧
          ((leftOver st timer).ctx 3).stopRequested = true) ∧
      (((leftOver .drain 0).nest 3).state = .drain ∧ ((leftOver .drain 0).nest 3).drive = .running) ∧
      ((((leftOver .drain 0).setNest 3 { (leftOver .drain 0).nest 3 with drive := .starting }).nest 3).drive ≠ .running) := by
  decide +kernel

/-- R102, R157: an ABORT in ENTRY while the old sweep still drives: its end completes the drain. -/
theorem test_abort_waits_for_the_old_sweep :
    let s := propose 3 ⟨.abort, .entry, .abort, none⟩ (leftOver .entry 1)
    let ended := (endBlock 3 s)
    ((s.nest 3).state, (s.nest 3).drive, s.drainDone 3) = (.drain, .running, false) ∧
      ((ended.nest 3).drive, (ended.nest 3).ticket.map (fun x => (x.lastDriven, x.disp))) =
        (.idle, some (none, .abort)) ∧
      after (fun t => ((t.nest 3).state, (t.nest 3).ticket.bind (fun x => x.final))) (.drainComplete 3) ended =
        some (.report, some ⟨.abort, .entry, .abort⟩) := by
  decide +kernel

/-- R101, R97: an old sweep that ends lets the waiting ticket start when its delay has run out. -/
theorem test_drive_end_of_an_old_sweep :
    [(NestState.entry, 0), (.entry, 1), (.retestWait, 0), (.retestWait, 1)].map (fun x =>
      after (fun t => ((t.nest 3).state, (t.nest 3).drive, (t.ctx 3).state)) (.driveBlockEnd 3) (leftOver x.1 x.2)) =
      [some (.entry, .starting, .armed), some (.entry, .idle, .idle), some (.retestWait, .starting, .armed),
        some (.retestWait, .idle, .idle)] := by
  decide +kernel

/-- R17, R18, R20, R21: the four cases. -/
theorem test_drive_block_ends :
    [driving 10 14 true, driving 10 14 false, driving 10 15 false, driving 13 7 false].map
      (after (fun t => ((t.ctx 3).state, (t.ctx 3).segment, (t.ctx 3).blockIndex, (t.ctx 3).programBlock, (t.ctx 3).phase.toNat))
        (.driveBlockEnd 3)) =
      [some (.idle, 10, 14, 9, 160), some (.running, 10, 15, 10, 160), some (.running, 11, 0, 10, 160),
        some (.idle, 13, 7, 9, 160)] := by
  decide +kernel

theorem witness_OscillatorFiguresAreTheStatedRoundings :
    (100 ≤ logSegment.fStart ∧ logSegment.fStart ≤ 400000 ∧ 100 ≤ logSegment.fEnd ∧ logSegment.fEnd ≤ 400000 ∧
      399 < logSegment.duration ∧ logSegment.law = .log) ∧ program[10].law = .step ∧ 15 < program[10].duration ∧
      program[13].type = .quiet ∧ program[10].type ≠ .quiet := by
  decide +kernel

/-! ### Blocks -/

/-- A report of program block 0 whose analysis block begins at stamp 479. -/
def firstReport : DriveReport := ⟨0, 0, .measure, false, true, 2000, -200, 8947849, 0, 479⟩

/-- Nest 3 WAITING for that block, the frame of stamp 479 taken. -/
def opening : State :=
  (seated .sweep unit).setAna 3 { Analysis.reset with state := .waiting, history := [firstReport] }

/-- Nest 3 with 480 samples of its block, `k` records pending. -/
def full (k : Nat) : State :=
  (seated .sweep unit).setAna 3 { Analysis.reset with
    state := .opened, report := firstReport, count := 480, buffer := List.replicate 480 0, i := 3000000, q := 4000000
    queue := List.replicate k ⟨3, 0, .quiet, false, false, 0, 0, 0, 0, 0, 0, false, false, 0, none⟩ }

theorem witness_AnalysisBlockOpensAndCompletes :
    ((opening.ana 3).state = .waiting ∧
      (opening.ana 3).history.find? (fun r => r.programBlock == (opening.ana 3).cursor) = some firstReport ∧
      opening.tmb.framed = true ∧ firstReport.b0 = opening.lastFrame) ∧
      (((full 7).ana 3).state = .opened ∧ ((full 7).ana 3).count = 480 ∧ ((full 7).ana 3).queue.length < 8) ∧
      8 ≤ ((full 8).ana 3).queue.length ∧ ((full 7).ana 3).state ≠ .waiting ∧ (opening.ana 3).state ≠ .opened := by
  decide +kernel

/-- 3.5.4: nothing in the nest. -/
theorem test_silent_block :
    after (fun t => (t.ana 3).queue.map (fun r => (r.silent, [r.lf, r.g, r.ph, r.dn, r.rb]))) (.analysisBlockComplete 3) (full 0) =
      some [(true, [-1400, -1200, 0, 400, 400])] := by
  decide +kernel

/-- A record of nest 3 with its first frame at b0. -/
def record (b0 : Nat) : BlockRecord :=
  ⟨3, 40, .measure, false, false, 2000, -260, -60, 0, -600, -340, false, false, b0, none⟩

/-- A state in which that record waits, and post is 960. -/
def departing (b0 stamp : Nat) : State :=
  let s := (seated .sweep unit).setAna 3 { Analysis.reset with queue := [record b0] }
  { s with tmb := ⟨stamp, true, false, false⟩, jdu := { s.jdu with sets := s.jdu.sets.set 0 validSet } }

theorem witness_DueBlocksDepartAndAreJudged :
    (departing 0 1441).tmb.stamp % 480 ≠ 0 ∧ (departing 0 1440).tmb.stamp % 480 = 0 ∧
      after (fun t => (t.ana 3).queue) (.blockDeparture 3) (departing 0 1440) = some [] ∧
      after (fun t => (t.ana 3).queue) (.blockDeparture 3) (departing 1 1440) = some [record 1] ∧
      ((departing 0 1440).nest 3).state = .sweep ∧ ((departing 0 1440).nest 3).ticket = some unit ∧
      (departing 0 1440).ltc.binding = some lot ∧ (record 0).settle = false ∧ (record 0).type ≠ .quiet ∧
      (record 0).damaged = false ∧ ({ record 0 with damaged := true }).damaged = true ∧
      ({ record 0 with settle := true }).settle = true ∧ (departing 0 1440).gdm.configTaken = false ∧
      (processed (departing 0 1440)).gdm.configTaken = true ∧ (record 0).mark = none ∧
      ({ record 0 with mark := some .clean }).mark = some .clean ∧
      after (fun t => (t.ana 3).queue) (.blockDeparture 3)
        ((departing 0 1440).setAna 3 { Analysis.reset with queue := [record 0, record 0, record 1] }) = some [record 1] ∧
      ((departing 0 1440).setNest 3 { (departing 0 1440).nest 3 with state := .report }).ltc.binding = some lot := by
  decide +kernel

/-- R70, R73: attempt 2 is judged against the retest set; two records due at one boundary are both taken. -/
theorem test_records_judged_by_the_active_set :
    let s := fun attempt => ((departing 0 1440).setNest 3
      { (departing 0 1440).nest 3 with ticket := some { unit with attempt := attempt } }).setAna 3
        { Analysis.reset with queue := [record 0, { record 0 with programBlock := 41 }] }
    let got := fun attempt => after (fun t => ((t.tally 3).judged, (t.tally 3).unbanded, (t.tally 3).bands[1].judged,
      (t.nest 3).ticket.bind (fun x => x.lastJudged))) (.blockDeparture 3) (s attempt)
    got 1 = some (2, 0, 2, some 41) ∧ got 2 = some (2, 2, 0, some 41) := by
  decide +kernel

/-- R58, R74: the window of b0 9,600 is [9,360, 11,040); a trip that ends where it begins, or begins where it
ends, does not void the block. -/
theorem test_void_by_guard :
    let s := fun t => { departing 9600 11040 with gdm := { GuardMon.reset with trips := [⟨t, 0⟩] } }
    [8880, 9360, 10560, 11040].map (fun t => after (fun u => ((u.tally 3).void, (u.tally 3).judged)) (.blockDeparture 3) (s t)) =
      [some (0, 1), some (1, 0), some (1, 0), some (0, 1)] := by
  decide +kernel

/-- A band that rejects at the first exceed, and a record in its band with the given G. -/
def judged (g : Int) (silent : Bool) : BlockRecord := { record 0 with g := g, silent := silent }

theorem witness_BandChecksCountRejectAndMark :
    let b : Band := ⟨100, 2000, -100, 100, 0, -300, 10, 1⟩
    let holds := fun (k : Fin 32) (f : Nat) =>
      k.val < validSet.header.bandCount ∧ validSet.bands[k].fLo ≤ f ∧ f < validSet.bands[k].fHi
    (holds 0 100 ∧ holds 0 1999 ∧ holds 1 2000 ∧ ¬holds 0 2000 ∧ holds 1 399999 ∧ (∀ k, ¬holds k 400000) ∧ ∀ k, ¬holds k 99) ∧
    ((seated .sweep unit).nest 3).ticket = some unit ∧
      (b.gHi < (judged 101 false).g) ∧ ((judged 100 false).g ≤ b.gHi ∧ b.gHi - b.margin < (judged 100 false).g) ∧
      ((judged (-100) false).g < b.gLo + b.margin) ∧ (judged 0 true).silent = true ∧
      ({ judged 0 false with dn := 1 }).dn > b.dnMax ∧ ({ judged 0 false with rb := -299 }).rb > b.rbMax ∧
      ¬b.dnMax - b.margin < (judged 0 false).dn ∧ ¬b.rbMax - b.margin < (judged 0 false).rb := by
  decide

/-- R80, R81: f_hi belongs to the next band; above the last band the record is unbanded; a VOID one is counted in its
band. -/
theorem test_band_selection :
    let bands := fun (f : Nat) (mark : Mark) =>
      let t := (judgeMeasure 3 validSet { record 0 with fcode := f, g := 0 } mark (seated .sweep unit)).tally 3
      (t.unbanded, [t.bands[0], t.bands[1]].map (fun b => (b.judged, b.void)))
    bands 1999 .clean = (0, [(1, 0), (0, 0)]) ∧ bands 2000 .clean = (0, [(0, 0), (1, 0)]) ∧
      bands 2000 .void = (0, [(0, 0), (0, 1)]) ∧ bands 400000 .void = (1, [(0, 0), (0, 0)]) := by
  decide +kernel

/-- R82 to R85: G one above G_hi rejects with that value and limit; G at G_hi is marginal. -/
theorem test_band_checks :
    let b : Band := ⟨100, 2000, -100, 100, 0, -300, 10, 1⟩
    let of := fun g => ((judgeBand 3 4 b (judged g false) (seated .sweep unit)).nest 3).ticket.map
      (fun x => (x.disp, x.firstDefect, x.marginal))
    of 101 = some (.reject, some ⟨.response, some 4, 2000, 101, 100, 40⟩, false) ∧
      of 100 = some (.marginal, none, true) ∧ of 90 = some (.opened, none, false) ∧
      of (-101) = some (.reject, some ⟨.response, some 4, 2000, -101, -100, 40⟩, false) := by
  decide +kernel

theorem witness_PresenceAndPolarityRecordsAreJudged :
    let h : LimitHeader := ⟨1700, 400, 2, -60, 33, 1⟩
    (({ record 0 with lastOfSegment := true }).lastOfSegment = true ∧ ((seated .sweep unit).tally 3).presence = false ∧
      ¬(h.presence ≤ (judged (-61) false).g)) ∧ h.presence ≤ (judged (-60) false).g ∧
      (let ph : Int := -1500
       |ph - h.phase| > 1800 ∧ 3600 - |ph - h.phase| = h.tolerance) ∧
      (let ph : Int := -1499
       h.tolerance < 3600 - |ph - h.phase|) ∧
      tallyUp ((seated .sweep unit).tally 3).polarityWrong ≠ h.persistence ∧
      tallyUp ({ (seated .sweep unit).tally 3 with polarityWrong := 1 }).polarityWrong = h.persistence := by
  decide +kernel

/-! ### The ticket -/

/-- Nest 3 in SWEEP with its context in a state. -/
def swept (st : SweepState) : State := (seated .sweep unit).setCtx 3 { SweepCtx.reset with state := st }

theorem witness_ProposalFollowsDispositionOrder :
    let p : Proposal := ⟨.reject, .sweep, .rub, some ⟨.rub, some 0, 2000, -200, -300, 41⟩⟩
    ((seated .sweep unit).nest 3).ticket = some unit ∧ p.disp ≠ .opened ∧
      ((seated .sweep { unit with disp := .retest }).nest 3).ticket = some { unit with disp := .retest } ∧
      ((seated .sweep { unit with disp := .abort }).nest 3).ticket = some { unit with disp := .abort } ∧
      (∀ st ∈ [SweepState.running, .armed, .idle], ((swept st).ctx 3).state = st ∧ ((swept st).nest 3).state = .sweep ∧
        ((swept st).nest 3).ticket = some unit ∧ (swept st).ltc.binding = some lot ∧ lot.earlyOut = true) := by
  decide +kernel

/-- R100: a REJECT in SWEEP stops the sweep of a lot with early-out, once it changes the disposition. -/
theorem test_early_out :
    let p : Proposal := ⟨.reject, .sweep, .rub, none⟩
    ((propose 3 p (swept .running)).ctx 3).stopRequested = true ∧
      ((propose 3 { p with disp := .marginal } (swept .running)).ctx 3).stopRequested = false ∧
      ((propose 3 p { swept .running with ltc := { (swept .running).ltc with
        binding := some { lot with earlyOut := false } } }).ctx 3).stopRequested = false := by
  decide +kernel

/-- A nest that has driven and judged block 5, with set 0 as `validSet` and v of its band 0 void. -/
def drained (x : Ticket) (v : Nat) : State :=
  let s := seated .drain { x with lastDriven := some 5, lastJudged := some 5 }
  ({ s with jdu := { s.jdu with sets := s.jdu.sets.set 0 validSet } }).setTally 3
    { Tally.zero with bands := Tally.zero.bands.set 0 ⟨40, v, 0, 0, 0, false, false, false⟩ }

theorem witness_DrainCompletesWithReviewAndClose :
    let x := { unit with lastDriven := some 5, lastJudged := some 5 }
    (drained unit 20).ltc.binding = some lot ∧ ((drained unit 20).nest 3).ticket = some x ∧
      (((drained unit 20).nest 3).state = .drain ∧ ((drained unit 20).nest 3).drive = .idle ∧ x.lastJudged = x.lastDriven) ∧
      (x.disp = .opened ∧ (40 + 20) * 33 < 20 * 100 ∧ x.attempt < lot.attemptLimit ∧ lot.retestDelay = 0) ∧
      (lot.attemptLimit ≤ ({ x with attempt := 2 }).attempt) ∧ ¬(40 + 19) * 33 < 19 * 100 ∧
      ((seated .sweep unit).nest 3).state ≠ .drain := by
  decide +kernel

/-- R103, R105: 20 void of 60 retests below the limit; 19 void of 59 passes. -/
theorem test_review :
    (after (fun t => ((t.nest 3).state, (t.nest 3).ticket.map (fun x => (x.attempt, x.disp)), (t.nest 3).drive,
        t.yct.live.nests[3].retests)) (.drainComplete 3) (drained unit 20) =
      some (.retestWait, some (2, .opened), .starting, 1)) ∧
    after (fun t => (t.nest 3).ticket.bind (fun x => x.final)) (.drainComplete 3) (drained unit 19) =
      some (some ⟨.pass, .close, .pass⟩) := by
  decide +kernel

/-- A rejected ticket whose verdict is fixed. -/
def verdict : Ticket := { unit with final := some ⟨.reject, .sweep, .rub⟩, entry := some ⟨31, 63, true⟩ }

/-- Nest 3 in REPORT with `k` reports and `j` jobs waiting. -/
def reporting (k j : Nat) : State :=
  let s := seatedAs .report verdict (fun x => { x with expiry := some 480 })
  { s with svc := { s.svc with reports := List.replicate k ⟨64, 0, []⟩ }
           bmu := { s.bmu with queue := List.replicate j ⟨1, 0, 0⟩ } }

/-- The unit of nest 3 has left; the line is CLOSING with `k` tickets. -/
def leaving (k : Nat) : State :=
  closingWith k ((reporting 0 0).setNest 3 { (reporting 0 0).nest 3 with level := .opened })

theorem witness_ReportTakenTalliesReportsAndUnloads :
    (∀ s ∈ [reporting 15 15, reporting 16 15, reporting 15 16],
      s.ltc.binding = some lot ∧ (s.nest 3).state = .report ∧ (s.nest 3).ticket = some verdict) ∧
      verdict.final = some ⟨.reject, .sweep, .rub⟩ ∧ verdict.entry = some ⟨31, 63, true⟩ ∧
      ((reporting 15 15).svc.reports.length < 16 ∧ (reporting 15 15).bmu.queue.length < 16) ∧
      ¬(reporting 16 15).svc.reports.length < 16 ∧ ¬(reporting 15 16).bmu.queue.length < 16 ∧
      (lot.tallyPoint.code ≤ Stage.sweep.code ∧ 1 ≤ lot.rejectRun ∧ lot.rejectRun ≤ min 15 (0 + 1)) ∧
      (reporting 15 15).flg.held ≠ some ⟨3, verdict.serial⟩ ∧ ((reporting 15 15).nest 3).sensor = .used ∧
      ((reporting 15 15).nest 3).level = .closed ∧
      (∀ k ∈ [1, 2], (leaving k).ltc.line = .closing ∧ (leaving k).ltc.ticketCount = k ∧ (leaving k).ltc.binding = some lot ∧
        ((leaving k).nest 3).state = .report ∧ ((leaving k).nest 3).ticket = some verdict ∧
        ((leaving k).nest 3).level = .opened ∧ (leaving k).flg.held ≠ some ⟨3, verdict.serial⟩) := by
  decide +kernel

/-- R113, R156, R186: the last ticket of a CLOSING line, gone before its report: REJECT_RUN's notice, then LOT_DRAINED. -/
theorem test_report_drains :
    [1, 2].map (fun k => after (fun t => (t.ltc.line, t.ltc.ticketCount, (t.nest 3).state, t.svc.notices.map (fun c => c.type)))
      (.reportTaken 3) (leaving k)) = [some (.closed, 0, .disabled, [65, 66]), some (.closing, 1, .disabled, [65])] := by
  decide +kernel

theorem test_report_taken :
    after (fun t => ((t.nest 3).state, (t.nest 3).verdict, [t.yct.live.bins[31], t.yct.live.nests[3].rejected, t.bmu.queue.length],
        t.flg.first.map (fun r => (r.kind, r.detail)))) (.reportTaken 3) (reporting 15 15) =
      some (.unload, true, [1, 1, 16], some (.rejectRun, 1)) := by
  decide +kernel

theorem witness_ExpiredTimersRaiseTheirFaults :
    ((reporting 16 16).nest 3).expiry = some 480 ∧ ((reporting 16 16).nest 3).ticket = some verdict ∧
      ((reporting 16 16).nest 3).state = .report ∧ verdict.entry = some ⟨31, 63, true⟩ ∧
      16 ≤ (reporting 16 16).svc.reports.length ∧ ((⟨31, 63, true⟩ : BinEntry).pattern ≠ 0 ∧ 16 ≤ (reporting 16 16).bmu.queue.length) ∧
      ((seated .report unit).nest 3).expiry = none ∧
      (let s := seatedAs .unload verdict (fun x => { x with expiry := some 960 })
       (s.nest 3).expiry = some 960 ∧ (s.nest 3).state = .unload ∧ s.flg.first = none ∧ s.flg.next = 0 ∧
         ¬({ s with flg := { s.flg with next := 2 } }).flg.next = 0) ∧
      (let b := { State.reset.bmu with expiry := some 480, port := .waiting, queue := [⟨5, 9, 7⟩] }
       b.expiry = some 480 ∧ b.port = .waiting ∧ b.queue = ⟨5, 9, 7⟩ :: []) := by
  decide +kernel

theorem test_report_stall_on_both :
    after (fun t => t.flg.first) (.reportStall 3) (reporting 16 16) =
      some (some ⟨.reportStall, 480, some 3, some 4294967290, 3⟩) := by
  decide +kernel

theorem test_nest_stuck_holds :
    after (fun t => ((t.nest 3).state, t.flg.held)) (.nestStuck 3)
      (seatedAs .unload verdict (fun x => { x with expiry := some 960 })) = some (.held, some ⟨3, 4294967290⟩) := by
  decide +kernel

theorem witness_CloseEventOpensTicket :
    let s := vacant (fun x => { x with eventDue := true })
    ((vacant id).nest 3).eventDue = false ∧ ((s.nest 3).eventDue = true ∧ (s.nest 3).level = .opened) ∧
      ((s.nest 3).state = .vacant ∧ (s.nest 3).startMode = .auto ∧ (s.nest 3).sensor = .used ∧ s.ltc.line = .opened) ∧
      s.ltc.binding = some lot ∧ (manual.nest 3).startMode ≠ .auto := by
  decide

theorem witness_OpenEventPullsOrRetires :
    let pulled := fun st => seatedAs st unit (fun x => { x with eventDue := true })
    ((vacant id).nest 3).eventDue = false ∧
      (∀ st ∈ [NestState.entry, NestState.unload, NestState.held],
        ((pulled st).nest 3).eventDue = true ∧ ((pulled st).nest 3).level = .closed ∧ ((pulled st).nest 3).sensor = .used) ∧
      (((pulled .held).nest 3).state.underTest = false ∧ ((pulled .held).nest 3).state ≠ .unload) ∧
      (((pulled .unload).nest 3).state = .unload ∧ (pulled .unload).ltc.line = .opened) ∧
      (((pulled .entry).nest 3).state.underTest = true ∧ (pulled .entry).ltc.binding = some lot ∧
        ((pulled .entry).nest 3).ticket = some unit ∧ ((pulled .entry).nest 3).drive = .idle) ∧
      ((armed.nest 3).drive ≠ .idle ∧ (armed.ctx 3).state = .armed) ∧
      ((closingWith 1 (pulled .unload)).ltc.line = .closing ∧ (closingWith 1 (pulled .unload)).ltc.ticketCount = 1 ∧
        ((closingWith 1 (pulled .unload)).nest 3).state = .unload ∧ (closingWith 1 (pulled .unload)).ltc.binding = some lot ∧
        2 ≤ (closingWith 2 (pulled .unload)).ltc.ticketCount) := by
  decide +kernel

/-! ### The guard and the marker port -/

/-- The guard block from 480 has its 480th sample; `k` trips stand in the list. -/
def closing (k eg : Nat) : State :=
  let s := State.reset
  { s with tmb := ⟨960, true, false, false⟩
           gdm := { s.gdm with start := 480, eg := eg, trips := List.replicate k ⟨0, -300⟩ } }

theorem witness_GuardBlockCloseOffersTrip :
    (closing 16 0).gdm.eg = 0 ∧ (0 < (closing 16 419430).gdm.eg ∧ (closing 16 419430).gdm.eg ≤ 16777215) ∧
      ((closing 15 419430).tmb.framed = true ∧ (closing 15 419430).gdm.closed = false ∧
        (closing 15 419430).lastFrame = ((closing 15 419430).gdm.start + 479) % 4026531840) ∧
      ¬State.reset.tmb.framed = true ∧ (closing 15 419430).gdm.threshold ≤ guardLevel 419430 ∧
      (¬(closing 15 0).gdm.invalidSeen = true ∧ ¬(closing 15 0).gdm.threshold ≤ guardLevel 0) ∧
      (closing 15 419430).gdm.trips.length < 16 ∧ 16 ≤ (closing 16 419430).gdm.trips.length ∧
      (closing 16 419430).gdm.saturated = false := by
  decide +kernel

theorem test_trip_into_a_full_list :
    (after (fun t => ([t.gdm.trips.length, t.yct.live.guardTrips], t.gdm.lastDiscard,
        t.flg.first.map (fun r => (r.kind, r.stamp, r.detail)))) .guardBlockClose (closing 16 419430) =
      some ([16, 1], some 480, some (.guardStorm, 959, 0xFED4))) ∧
    after (fun t => (t.gdm.trips.length, t.gdm.saturated)) .guardBlockClose (closing 15 419430) = some (16, false) := by
  decide +kernel

/-- The marker port `age` frames into a job with the shortest strobe and the given gap. -/
def marking (port : PortState) (age gap : Nat) (ready : Bool) (jobs : List MarkerJob) : State :=
  let s := State.reset
  { s with tmb := ⟨1000 + age + 1, true, false, false⟩
           bmu := { s.bmu with port := port, jobStart := 1000, jobWidth := 96, jobGap := gap, ready := ready, queue := jobs } }

theorem witness_MarkerPortRunsItsJobs :
    let job : MarkerJob := ⟨63, 1, 7⟩
    (∀ s ∈ [marking .idle 0 0 true [job], marking .idle 0 0 false [job], marking .waiting 0 0 true [job],
        marking .setup 96 0 true [job], marking .strobe 192 1 true [job], marking .strobe 192 0 true [job],
        marking .gap 193 1 false [job, job]], s.tmb.framed = true ∧ s.tmb.boundary = false ∧ s.bmu.queue ≠ []) ∧
      elapsed 1000 (marking .setup 96 0 true [job]).lastFrame = 96 ∧
      (elapsed 1000 (marking .strobe 192 1 true [job]).lastFrame = 96 + 96 ∧ 0 < (marking .strobe 192 1 true [job]).bmu.jobGap) ∧
      ((marking .strobe 192 0 true [job]).bmu.jobGap = 0 ∧
        elapsed 1000 (marking .strobe 192 0 true [job]).lastFrame = 96 + 96 + 0 ∧
        (marking .strobe 192 0 true [job]).bmu.queue.tail = []) ∧
      (elapsed 1000 (marking .gap 193 1 false [job, job]).lastFrame = 96 + 96 + 1 ∧
        (marking .gap 193 1 false [job, job]).bmu.queue.tail ≠ [] ∧ (marking .gap 193 1 true [job, job]).bmu.ready = true) := by
  decide

theorem test_job_removed_and_next_started :
    let job : MarkerJob := ⟨63, 1, 7⟩
    (after (fun t => (t.bmu.port, t.bmu.queue.length, t.bmu.jobStart)) .markerJobRemove (marking .gap 193 1 true [job, job]) =
      some (.setup, 1, 1193)) ∧
    after (fun t => (t.bmu.port, t.bmu.timer)) .markerJobRemove (marking .gap 193 1 false [job, job]) = some (.waiting, 400) := by
  decide +kernel

/-! ### Cells -/

/-- The assembler in a state, with `k` words taken. -/
def receiving (st : AsmState) (k : Nat) : State :=
  { State.reset with svc := { State.reset.svc with asm := st, asmWords := k, asmBytes := List.replicate (3 * k) 0 } }

theorem witness_AssemblerTakesWords :
    (0x3FFFFFFF : Word).toNat / 2 ^ 30 = 0 ∧ (0x7FFFFFFF : Word).toNat / 2 ^ 30 = 1 ∧ (0xBFFFFFFF : Word).toNat / 2 ^ 30 = 2 ∧
      (0xC0000000 : Word).toNat / 2 ^ 30 = 3 ∧
      ((receiving .assembling 31).svc.asm = .assembling ∧ (receiving .assembling 31).svc.asmWords < 32) ∧
      (receiving .assembling 32).svc.asmWords = 32 ∧ (receiving .waiting 0).svc.asm = .waiting ∧
      (receiving .discarding 0).svc.asm = .discarding ∧
      (let bytes := assembling.svc.asmBytes ++ [0, 0, 8]
       (bytes.getD 2 0).toNat ≤ 90 ∧ 2 = ((bytes.getD 2 0).toNat + 7) / 3 ∧
         byteSum (bytes.take 4) = (bytes.getD 4 0).toNat * 256 + (bytes.getD 5 0).toNat) ∧
      (let v : UpCell := ⟨.reply, ⟨129, 0, [0]⟩, 1⟩
       let u := { State.reset.svc with up := some v }
       u.up = some v ∧ u.upChosen = false ∧ v.index < v.cell.wordCount) ∧
      (State.reset.svc.up = none ∧ State.reset.svc.upChosen = false) := by
  decide

/-- R188: with no cell in progress the first word of the oldest notice is chosen, before a unit report. -/
theorem test_notice_chosen_first :
    let s := { State.reset with svc := { State.reset.svc with notices := [⟨65, 3, []⟩], reports := [⟨64, 0, []⟩] } }
    after (fun t => (t.svc.up.map (fun u => (u.source, u.cell.type, u.index)), t.svc.upWord)) (.managementWord 0) s =
      some (some (.notice, 65, 1), 0x40410300) := by
  decide +kernel

/-- R177: a 33rd word is an error with cause 4; a stray LAST in WAITING one with cause 3. -/
theorem test_assembler_errors :
    (after (fun t => (t.svc.asm, t.flg.first.map (fun r => r.detail))) (.managementWord 0x80000000) (receiving .assembling 32) =
      some (.discarding, some 4)) ∧
    after (fun t => (t.svc.asm, t.flg.first.map (fun r => r.detail))) (.managementWord 0xC0000000) (receiving .waiting 0) =
      some (.waiting, some 3) := by
  decide +kernel

/-- The last word of a cell of the source has been sent; a notice, a report and a request wait. -/
def sent (src : UpSource) : State :=
  let c : Machine.Cell := ⟨129, 0, [0]⟩
  { State.reset with svc := { State.reset.svc with
      up := some ⟨src, c, 2⟩, reply := if src = .reply then [c] else [], notices := [⟨65, 0, []⟩], reports := [⟨64, 0, []⟩]
      requests := if src = .reply then [⟨1, 7, []⟩] else [] } }

theorem witness_UpstreamCellEndSelectsNext :
    (∀ src ∈ [UpSource.reply, UpSource.notice, UpSource.report],
      (sent src).svc.up = some ⟨src, ⟨129, 0, [0]⟩, 2⟩ ∧ 2 = Machine.Cell.wordCount ⟨129, 0, [0]⟩ ∧
        (sent src).svc.upChosen = false) ∧
      ¬(129 : Byte) = 154 ∧ (sent .reply).svc.reply.tail = [] ∧ (sent .reply).svc.requests = ⟨1, 7, []⟩ :: [] := by
  decide

/-- R181, R188: the request taken at the end of a reply is answered before the notice goes. -/
theorem test_next_reply_goes_first :
    after (fun t => (t.svc.up.map (fun u => (u.source, u.cell.type, u.cell.tag)), t.svc.requests)) .upstreamCellEnd
      (sent .reply) = some (some (.reply, 129, 7), []) := by
  decide +kernel

theorem witness_FaultArrivesAtTheLog :
    let s := seated .unload unit
    let r : FaultRecord := ⟨.nestStuck, 480, some 3, some 4294967290, 0⟩
    (s.flg.first = none ∧ s.flg.next = 0) ∧ (r.nest = some 3 ∧ r.serial = some unit.serial ∧
        (s.nest 3).state.holdsTicket = true ∧ (s.nest 3).ticket = some unit) ∧
      (s.flg.stopMask.getLsbD r.kind.code = true ∧ s.flg.armed = true) ∧
      s.flg.stopMask.getLsbD FaultKind.cellCheck.code = false ∧
      8 ≤ ({ s with svc := { s.svc with notices := List.replicate 8 ⟨65, 0, []⟩ } }).svc.notices.length ∧
      ¬8 ≤ s.svc.notices.length ∧ ¬(heldIn .held id).flg.first = none := by
  decide

/-- R169, R186: an arrival into a full notice FIFO logs NOTICE_OVERFLOW, and two tags are spent. -/
theorem test_notice_overflow :
    let s := { State.reset with svc := { State.reset.svc with notices := List.replicate 8 ⟨65, 0, []⟩, noticeSeq := 255 } }
    let t := raiseFault ⟨.cellCheck, 5, none, none, 1⟩ s
    (t.flg.first.map (fun r => r.kind), t.flg.next, t.svc.noticeSeq, t.svc.notices.length) =
      (some .cellCheck, 0x0400, 1, 8) := by
  decide +kernel

theorem witness_WordsOfACellAreAssembledToIt :
    (List.replicate 90 (255 : Byte)).length ≤ 90 ∧ (receiving .waiting 0).svc.asm ≠ .assembling ∧
      (receiving .discarding 0).svc.asm ≠ .assembling := by
  decide

theorem witness_PayloadOfARequestIsReadBack :
    (Request.command (.writeBinmap 248 8 (List.replicate 8 ⟨31, 63, 1⟩)) 255).wellFormed = true ∧
      (Request.command (.lotOpen ⟨0xFFFFFFFF, 255, 7, 255, 255, 2, 3, 3, 1, 0xFFFFFFFF, 15, 255, 255⟩) 0).wellFormed = true := by
  decide

/-! ### Laws -/

/-- The step that pulls nest 3 out of ENTRY, with the lot open. -/
def pulling : State := { seatedAs .entry unit (fun x => { x with eventDue := true }) with pending := [.openEvent 3] }

theorem witness_StepKeepsLotAndTicketLaw : pulling.lotLaw ∧ ∃ t, step pulling = .next t := by
  refine ⟨⟨by decide, by decide, by decide, by decide, ?_, by decide⟩, _, rfl⟩
  intro b h
  have h : some lot = some b := h
  cases h
  decide

theorem witness_StepKeepsDispositionOrder : pulling.ticketLaw ∧ ∃ t, step pulling = .next t := ⟨by decide, _, rfl⟩

theorem witness_StepKeepsHeldTicketAndLineStop :
    (heldIn .held id).heldLaw ∧ (heldIn .held id).stopLaw ∧
      ∃ t, step { heldIn .held id with pending := [.releaseTicket 0 3] } = .next t := ⟨by decide, by decide, _, rfl⟩

theorem witness_StepKeepsYieldBalance :
    (reporting 15 15).yieldLaw ∧ ∃ t, step { reporting 15 15 with pending := [.reportTaken 3] } = .next t :=
  ⟨by decide +kernel, _, rfl⟩

theorem witness_StepKeepsCapacitiesAndDriveRange :
    (reporting 15 15).capacityLaw ∧ (reporting 15 15).driveLaw ∧
      ∃ t, step { reporting 15 15 with pending := [.reportTaken 3] } = .next t :=
  ⟨by decide +kernel, by decide +kernel, _, rfl⟩

theorem witness_StepKeepsFrozenTables :
    marked.marksLaw ∧ ({ marked with pending := [.writeSegment 0 10 ⟨0, 0, 0, 0, 0, 0, 0, 0⟩] }).pending.head? ≠ some .powerOnReset ∧
      ∃ t, step { marked with pending := [.writeSegment 0 10 ⟨0, 0, 0, 0, 0, 0, 0, 0⟩] } = .next t := by
  refine ⟨?_, by decide, _, rfl⟩
  intro _ b h
  have h : some lot = some b := h
  cases h
  refine ⟨by decide +kernel, by decide +kernel, ?_, by decide +kernel⟩
  intro k hk
  have hk : (some 7 : Option (Fin 8)) = some k := hk
  cases hk
  decide +kernel

end Sys2Proof.Tests
end

section
/-! PROOFS. What the requests for a segment answer (R6, R7): the reading of the fields of an entry, and O6 and O9. -/

namespace Sys2Proof.Machine

open Sys2Proof Host

/-! ### A request with a reply of one cell -/

/-- R181, R182: a request that finds the queue empty leaves its owner's state and a reply of one cell. -/
theorem arrive_quiet_short (r : Request) (tag : Byte) (f : State → Reply × State) (s : State) (hq : s.quiet)
    (h : (f s).1.content.length ≤ 89) :
    arrive r tag f s =
      (f s).2.replying (replyType r.type) tag (byte (f s).1.result.code ++ (f s).1.content) := by
  rw [arrive_quiet r tag f s hq, answer_short r.type tag f s h]

theorem exec_readSegment_quiet (tag index : Byte) (s : State) (hq : s.quiet) :
    exec (.readSegment tag index) s =
      .next (s.replying 131 tag ([0, index] ++ (s.swg.segments[entryOf index]).bytes)) :=
  congrArg Outcome.next (arrive_quiet_short (.readSegment index) tag (actReadSegment index) s hq (by simp [actReadSegment]))

theorem actWriteSegment_bare (index : Byte) (f : SegmentFields) (s : State) :
    (actWriteSegment index f s).1.content = [] := by
  simp only [actWriteSegment]; (repeat' split) <;> rfl

theorem exec_writeSegment_quiet (tag index : Byte) (f : SegmentFields) (s : State) (hq : s.quiet) :
    exec (.writeSegment tag index f) s =
      .next ((actWriteSegment index f s).2.replying 130 tag (byte (actWriteSegment index f s).1.result.code)) := by
  have hbare := actWriteSegment_bare index f s
  have h := arrive_quiet_short (.writeSegment index f) tag (actWriteSegment index f) s hq (by simp [hbare])
  rw [hbare, List.append_nil] at h
  exact congrArg Outcome.next h

/-! ### The four cases of R6 -/

theorem actWriteSegment_frozen (index : Byte) (f : SegmentFields) (s : State)
    (hf : s.ltc.segFrozen[entryOf index] = true) : actWriteSegment index f s = (Reply.bare .frozen, s) := by
  simp only [actWriteSegment, hf, if_true]

theorem actWriteSegment_none (index : Byte) (f : SegmentFields) (s : State)
    (hf : s.ltc.segFrozen[entryOf index] = false) (ht : f.type = 0) :
    actWriteSegment index f s = (Reply.bare .ok, s.setSegment (entryOf index) Segment.empty) := by
  simp [actWriteSegment, hf, ht]

theorem actWriteSegment_badParam (index : Byte) (f : SegmentFields) (s : State)
    (hf : s.ltc.segFrozen[entryOf index] = false) (ht : f.type ≠ 0) (he : segmentOf f = none) :
    actWriteSegment index f s = (Reply.bare .badParam, s) := by
  simp only [actWriteSegment, hf, if_neg ht, he]
  rfl

theorem actWriteSegment_replaces (index : Byte) (f : SegmentFields) (s : State) {e : Segment}
    (hf : s.ltc.segFrozen[entryOf index] = false) (ht : f.type ≠ 0) (he : segmentOf f = some e) :
    actWriteSegment index f s = (Reply.bare .ok, s.setSegment (entryOf index) e) := by
  simp only [actWriteSegment, hf, if_neg ht, he]
  rfl

/-! ### The reading of an entry's fields (R5) -/

theorem inRange_iff (lo hi x : Int) : inRange lo hi x = true ↔ lo ≤ x ∧ x ≤ hi := by
  simp [inRange]

/-- R193: the type that a code names has that code. -/
theorem code_of_segTypeOf {b : Byte} {t : SegType} (h : segTypeOf b = some t) : t.code = b.toNat := by
  unfold segTypeOf at h
  split at h <;> cases h <;> simp [SegType.code, *]

theorem segTypeOf_isSome {b : Byte} : (segTypeOf b).isSome ↔ b.toNat ≤ 4 := by
  unfold segTypeOf
  split
  case h_6 => simp [imp_false] at *; omega
  all_goals simp [*]

/-- R193: the law that a code names has that code. -/
theorem code_of_lawOf {b : Byte} {l : Law} (h : lawOf b = some l) : l.code = b.toNat := by
  unfold lawOf at h
  split at h <;> cases h <;> simp [Law.code, *]

theorem lawOf_isSome {b : Byte} : (lawOf b).isSome ↔ b.toNat ≤ 1 := by
  unfold lawOf
  split
  case h_3 => simp [imp_false] at *; omega
  all_goals simp [*]

/-- R193: the code of a next entry is the entry. -/
theorem code_of_nextOf_entry {x : Half} {k : Fin 256} (h : nextOf x = some (some k)) : x.toNat = k.val := by
  unfold nextOf at h
  split at h
  · cases h; rfl
  · split at h <;> cases h

/-- R193: the code of END is 65,535. -/
theorem code_of_nextOf_end {x : Half} (h : nextOf x = some none) : x.toNat = 65535 := by
  unfold nextOf at h
  split at h
  · cases h
  · split at h
    · assumption
    · cases h

theorem nextOf_isSome {x : Half} : (nextOf x).isSome ↔ x.toNat < 256 ∨ x.toNat = 65535 := by
  unfold nextOf
  split
  · simp [*]
  · split <;> simp [*]

/-- R6: every field of an entry in its range (R5). -/
def segmentFits (f : SegmentFields) : Prop :=
  f.type.toNat ≤ 4 ∧ f.law.toNat ≤ 1 ∧ (100 ≤ f.fStart.toNat ∧ f.fStart.toNat ≤ 400000) ∧
    (100 ≤ f.fEnd.toNat ∧ f.fEnd.toNat ≤ 400000) ∧ (-600 ≤ f.level.toInt ∧ f.level.toInt ≤ 0) ∧
    (1 ≤ f.duration.toNat ∧ f.duration.toNat ≤ 4095) ∧ f.settle.toNat < f.duration.toNat ∧
    (f.next.toNat < 256 ∨ f.next.toNat = 65535)

/-- The entry of the values of the fields, with the names that their codes carry. -/
def segmentEntry (f : SegmentFields) (type : SegType) (law : Law) (next : Option (Fin 256)) : Segment :=
  { type := type, law := law, fStart := f.fStart.toNat, fEnd := f.fEnd.toNat, level := f.level.toInt,
    duration := f.duration.toNat, settle := f.settle.toNat, next := next }

/-- R6: an entry is read from the fields exactly when every field fits. -/
theorem segmentOf_isSome (f : SegmentFields) : (segmentOf f).isSome ↔ segmentFits f := by
  rw [segmentFits, ← segTypeOf_isSome, ← lawOf_isSome, ← nextOf_isSome]
  simp only [segmentOf]
  cases segTypeOf f.type <;> cases lawOf f.law <;> cases nextOf f.next <;> simp [inRange_iff]
  omega

/-- R6: what is read from the fields is the entry of their values. -/
theorem eq_entry_of_segmentOf {f : SegmentFields} {e : Segment} (h : segmentOf f = some e) :
    ∃ type law next, segTypeOf f.type = some type ∧ lawOf f.law = some law ∧ nextOf f.next = some next ∧
      e = segmentEntry f type law next := by
  simp only [segmentOf] at h
  split at h
  next type law next htype hlaw hnext =>
    split at h
    · cases h; exact ⟨type, law, next, htype, hlaw, hnext, rfl⟩
    · cases h
  next => cases h

/-! ### O6 and O9 -/

/-- Settles O6 (R7). -/
theorem readSegmentAnswersStoredEntry : Obligations.ReadSegmentAnswersStoredEntry :=
  fun tag index s hq => exec_readSegment_quiet tag index s hq

/-- Settles O9: R6 case by case, in the order of its checks; each field of the entry that is put in place is
read back from the reading of the fields. -/
theorem writeSegmentReplacesEntry : Obligations.WriteSegmentReplacesEntry := by
  intro tag index f s hq
  rw [exec_writeSegment_quiet tag index f s hq]
  refine ⟨fun hf => ?frozen, fun hf => ⟨fun ht => ?empty, fun ht => ⟨fun hfits => ?refused, fun hfits => ?replaced⟩⟩⟩
  case frozen => rw [actWriteSegment_frozen index f s hf]; rfl
  case empty => rw [actWriteSegment_none index f s hf ht]; rfl
  case refused =>
    have he : segmentOf f = none := by simpa using mt (segmentOf_isSome f).1 hfits
    rw [actWriteSegment_badParam index f s hf ht he]; rfl
  case replaced =>
    obtain ⟨e, he⟩ := Option.isSome_iff_exists.1 ((segmentOf_isSome f).2 hfits)
    obtain ⟨type, law, next, htype, hlaw, hnext, rfl⟩ := eq_entry_of_segmentOf he
    refine ⟨segmentEntry f type law next, code_of_segTypeOf htype, code_of_lawOf hlaw, rfl, rfl, rfl, rfl, rfl, ?next, ?reply⟩
    case next =>
      cases next with
      | none => exact code_of_nextOf_end hnext
      | some k => exact code_of_nextOf_entry hnext
    case reply => rw [actWriteSegment_replaces index f s hf ht he]; rfl

end Sys2Proof.Machine
end

section
/-! PROOFS. The fixed-point sine is the sine: the terms of the series, its sum, and R11's table. -/

namespace Sys2Proof.Machine

open Sys2Proof

/-! ### The terms of the sine series -/

/-- The term of the sine series of degree 2k + 1, without its sign. -/
noncomputable def sineTerm (x : Real) (k : Nat) : Real := x ^ (2 * k + 1) / (2 * k + 1).factorial

theorem sineTerm_nonneg {x : Real} (hx : 0 ≤ x) (k : Nat) : 0 ≤ sineTerm x k := by
  unfold sineTerm; positivity

theorem sineTerm_succ (x : Real) (k : Nat) :
    sineTerm x (k + 1) = sineTerm x k * x ^ 2 / ((2 * k + 2) * (2 * k + 3) : Nat) := by
  have hfact : (2 * (k + 1) + 1).factorial = (2 * k + 3) * ((2 * k + 2) * (2 * k + 1).factorial) := by
    rw [show 2 * (k + 1) + 1 = 2 * k + 1 + 1 + 1 by omega, Nat.factorial_succ, Nat.factorial_succ]
  unfold sineTerm
  rw [hfact]
  push_cast
  field_simp
  ring

theorem six_le_denominator (k : Nat) : (6 : Real) ≤ ((2 * k + 2) * (2 * k + 3) : Nat) := by
  exact_mod_cast (by nlinarith : 6 ≤ (2 * k + 2) * (2 * k + 3))

theorem sineTerm_antitone {x : Real} (hx : 0 ≤ x) (hx2 : x ^ 2 ≤ 6) : Antitone (sineTerm x) := by
  refine antitone_nat_of_succ_le fun k => ?_
  have hden := six_le_denominator k
  rw [sineTerm_succ, div_le_iff₀ (by linarith)]
  exact mul_le_mul_of_nonneg_left (hx2.trans hden) (sineTerm_nonneg hx k)

theorem sineTerm_le {x : Real} (hx : 0 ≤ x) (hx2 : x ^ 2 ≤ 6) (k : Nat) : sineTerm x k ≤ x := by
  simpa [sineTerm] using sineTerm_antitone hx hx2 (Nat.zero_le k)

/-- The alternating sum of n terms misses the sine by at most the next term. -/
theorem sin_sub_sineTerms_le {x : Real} (hx : 0 ≤ x) (hx2 : x ^ 2 ≤ 6) (n : Nat) :
    |Real.sin x - ∑ j ∈ Finset.range n, (-1) ^ j * sineTerm x j| ≤ sineTerm x n := by
  have hsum : Summable (sineTerm x) :=
    (Real.summable_pow_div_factorial x).comp_injective
      (show Function.Injective fun k => 2 * k + 1 from fun a b h => by simpa using h)
  have hsin : Real.sin x = ∑' j, (-1) ^ j * sineTerm x j := by
    simp only [Real.sin_eq_tsum, sineTerm, mul_div_assoc]
  rw [hsin]
  exact alternating_series_error_bound (sineTerm x) (sineTerm_antitone hx hx2) hsum n

/-! ### The error of the fixed-point sum -/

/-- What the model's terms rest on: an argument from 0 to 1.6, and its square in units of 2^-160, rounded down. -/
structure SquareOf (x : Real) (x2 : Nat) : Prop where
  nonneg : 0 ≤ x
  le : x ≤ 8 / 5
  above : (x2 : Real) / 2 ^ 160 ≤ x ^ 2
  below : x ^ 2 - 1 / 2 ^ 160 ≤ (x2 : Real) / 2 ^ 160

theorem SquareOf.sq_le {x : Real} {x2 : Nat} (h : SquareOf x x2) : x ^ 2 ≤ 64 / 25 := by
  nlinarith [h.nonneg, h.le]

/-- The term after a term of the model's series. -/
def nextTerm (x2 k term : Nat) : Nat := term * x2 / 2 ^ 160 / ((2 * k + 2) * (2 * k + 3))

theorem sineSeries_succ (x2 fuel k term acc : Nat) :
    sineSeries x2 (fuel + 1) k term acc =
      sineSeries x2 fuel (k + 1) (nextTerm x2 k term)
        (if k % 2 = 0 then acc - nextTerm x2 k term else acc + nextTerm x2 k term) := rfl

/-- A quotient rounded down is less than 1 below the exact one. -/
theorem sub_one_lt_cast_div (a b : Nat) : (a : Real) / b - 1 < ((a / b : Nat) : Real) := by
  simpa only [Nat.floor_div_eq_div] using Nat.sub_one_lt_floor ((a : Real) / b)

/-- The next term is rounded down once, at the end. -/
theorem nextTerm_bounds (x2 k term : Nat) :
    let exact := (term : Real) * (x2 / 2 ^ 160) / ((2 * k + 2) * (2 * k + 3) : Nat)
    (nextTerm x2 k term : Real) ≤ exact ∧ exact - 1 < nextTerm x2 k term := by
  have hexact : (term : Real) * (x2 / 2 ^ 160) / ((2 * k + 2) * (2 * k + 3) : Nat) =
      ((term * x2 : Nat) : Real) / (2 ^ 160 * ((2 * k + 2) * (2 * k + 3)) : Nat) := by
    push_cast; field_simp; norm_num
  rw [hexact, nextTerm, Nat.div_div_eq_div_mul]
  exact ⟨Nat.cast_div_le, sub_one_lt_cast_div _ _⟩

theorem nextTerm_le {x : Real} {x2 : Nat} (h : SquareOf x x2) (k term : Nat) : nextTerm x2 k term ≤ term := by
  have hexact := (nextTerm_bounds x2 k term).1
  have hratio : (x2 : Real) / 2 ^ 160 ≤ ((2 * k + 2) * (2 * k + 3) : Nat) := by
    linarith [h.above, h.sq_le, six_le_denominator k]
  have hle : (term : Real) * (x2 / 2 ^ 160) / ((2 * k + 2) * (2 * k + 3) : Nat) ≤ term := by
    rw [div_le_iff₀ (by linarith [six_le_denominator k])]
    exact mul_le_mul_of_nonneg_left hratio (by positivity)
  exact_mod_cast hexact.trans hle

/-- A term that is within 3 units of its real value leaves the next one within 3 units of its own: before the
rounding down, which costs less than 1, the new error is at most (3 · 2.56 + 1.6) / 6. -/
theorem nextTerm_near {x : Real} {x2 : Nat} (h : SquareOf x x2) {k term : Nat}
    (hterm : |(term : Real) - 2 ^ 160 * sineTerm x k| ≤ 3) :
    |(nextTerm x2 k term : Real) - 2 ^ 160 * sineTerm x (k + 1)| ≤ 3 := by
  obtain ⟨hle, hlt⟩ := nextTerm_bounds x2 k term
  have hden := six_le_denominator k
  rw [sineTerm_succ]
  have hsq : |x ^ 2 - (x2 : Real) / 2 ^ 160| ≤ 1 / 2 ^ 160 := by
    rw [abs_le]; constructor <;> linarith [h.above, h.below, show (0 : Real) ≤ 1 / 2 ^ 160 by positivity]
  have hsize : |sineTerm x k| ≤ 8 / 5 := by
    rw [abs_of_nonneg (sineTerm_nonneg h.nonneg k)]
    exact (sineTerm_le h.nonneg (by linarith [h.sq_le]) k).trans h.le
  have hy : |(x2 : Real) / 2 ^ 160| ≤ 64 / 25 := by
    rw [abs_of_nonneg (by positivity)]; exact h.above.trans h.sq_le
  have hnum : |(term : Real) * (x2 / 2 ^ 160) - 2 ^ 160 * (sineTerm x k * x ^ 2)| ≤ 10 := by
    calc |(term : Real) * (x2 / 2 ^ 160) - 2 ^ 160 * (sineTerm x k * x ^ 2)|
        = |((term : Real) - 2 ^ 160 * sineTerm x k) * (x2 / 2 ^ 160) -
            2 ^ 160 * (sineTerm x k * (x ^ 2 - x2 / 2 ^ 160))| := by congr 1; ring
      _ ≤ |(term : Real) - 2 ^ 160 * sineTerm x k| * |(x2 : Real) / 2 ^ 160| +
            2 ^ 160 * (|sineTerm x k| * |x ^ 2 - x2 / 2 ^ 160|) := by
          refine (abs_sub _ _).trans_eq ?_
          rw [abs_mul, abs_mul, abs_mul, abs_of_nonneg (show (0 : Real) ≤ 2 ^ 160 by positivity)]
      _ ≤ 3 * (64 / 25) + 2 ^ 160 * (8 / 5 * (1 / 2 ^ 160)) := by gcongr
      _ ≤ 10 := by norm_num
  have hquot : |(term : Real) * (x2 / 2 ^ 160) / ((2 * k + 2) * (2 * k + 3) : Nat) -
      2 ^ 160 * (sineTerm x k * x ^ 2 / ((2 * k + 2) * (2 * k + 3) : Nat))| ≤ 2 := by
    rw [← mul_div_assoc (2 ^ 160 : Real), ← sub_div, abs_div,
      abs_of_nonneg (by linarith : (0 : Real) ≤ ((2 * k + 2) * (2 * k + 3) : Nat)),
      div_le_iff₀ (by linarith)]
    linarith
  rw [abs_le] at hquot ⊢
  constructor <;> linarith [hquot.1, hquot.2]

/-- The sum that the series has reached, after term k has been added to it: the next term is taken away when k is
even, where the sum is at least term k, and so never stops at 0. -/
theorem cast_nextSum {x : Real} {x2 : Nat} (h : SquareOf x x2) {k term acc : Nat} (hacc : k % 2 = 0 → term ≤ acc) :
    ((if k % 2 = 0 then acc - nextTerm x2 k term else acc + nextTerm x2 k term : Nat) : Real) =
      acc + (-1) ^ (k + 1) * nextTerm x2 k term := by
  rcases Nat.mod_two_eq_zero_or_one k with hk | hk
  · rw [if_pos hk, Nat.cast_sub ((nextTerm_le h k term).trans (hacc hk)), pow_succ,
      (Nat.even_iff.2 hk).neg_one_pow]
    ring
  · rw [if_neg (by omega), Nat.cast_add, pow_succ, (Nat.odd_iff.2 hk).neg_one_pow]
    ring

/-- The series after term k adds the further terms with alternating signs, each within 3 units. -/
theorem sineSeries_near {x : Real} {x2 : Nat} (h : SquareOf x x2) (fuel : Nat) :
    ∀ k term acc : Nat, |(term : Real) - 2 ^ 160 * sineTerm x k| ≤ 3 → (k % 2 = 0 → term ≤ acc) →
      |(sineSeries x2 fuel k term acc : Real) -
          (acc + 2 ^ 160 * ∑ j ∈ Finset.range fuel, (-1) ^ (k + 1 + j) * sineTerm x (k + 1 + j))| ≤ 3 * (fuel : Real) := by
  induction fuel with
  | zero => intro k term acc _ _; simp [sineSeries]
  | succ fuel ih =>
    intro k term acc hterm hacc
    have hnext := nextTerm_near h hterm
    have hrest := ih (k + 1) (nextTerm x2 k term)
      (if k % 2 = 0 then acc - nextTerm x2 k term else acc + nextTerm x2 k term) hnext
      (fun hk => by rw [if_neg (by omega)]; omega)
    rw [cast_nextSum h hacc] at hrest
    have hsign : |(-1 : Real) ^ (k + 1) * (nextTerm x2 k term - 2 ^ 160 * sineTerm x (k + 1))| ≤ 3 := by
      rwa [abs_mul, abs_neg_one_pow, one_mul]
    have hshift (j : Nat) : (-1 : Real) ^ (k + 1 + (j + 1)) * sineTerm x (k + 1 + (j + 1)) =
        (-1) ^ (k + 1 + 1 + j) * sineTerm x (k + 1 + 1 + j) := by
      rw [show k + 1 + (j + 1) = k + 1 + 1 + j by omega]
    rw [sineSeries_succ, Finset.sum_range_succ']
    refine (congrArg abs ?_).trans_le ((abs_add_le _ _).trans (add_le_add hrest hsign)) |>.trans_eq ?_
    · simp only [hshift, add_zero]
      ring
    · push_cast; ring

/-! ### The fixed-point sine -/

/-- An argument in units of 2^-160 and its square as the model takes it. -/
theorem squareOf_fix {x : Nat} (hx : (x : Real) / 2 ^ 160 ≤ 8 / 5) :
    SquareOf ((x : Real) / 2 ^ 160) (x * x / 2 ^ 160) := by
  have hsq : ((x : Real) / 2 ^ 160) ^ 2 = ((x * x : Nat) : Real) / (2 ^ 160 : Nat) / 2 ^ 160 := by
    push_cast; ring
  refine ⟨by positivity, hx, ?_, ?_⟩
  · rw [hsq]
    gcongr
    exact Nat.cast_div_le
  · rw [hsq, ← sub_div]
    gcongr
    exact (sub_one_lt_cast_div _ _).le

/-- The fixed-point sum is within 97 units of the sine of its argument: 3 for each term, and 1 for the tail. -/
theorem sineSeries_near_sin {x : Nat} (hx : (x : Real) / 2 ^ 160 ≤ 8 / 5) :
    |(sineSeries (x * x / 2 ^ 160) 32 0 x x : Real) - 2 ^ 160 * Real.sin ((x : Real) / 2 ^ 160)| ≤ 97 := by
  have h := squareOf_fix hx
  have hfirst : (x : Real) = 2 ^ 160 * sineTerm ((x : Real) / 2 ^ 160) 0 := by
    simp only [sineTerm, mul_zero, zero_add, pow_one, Nat.factorial_one, Nat.cast_one, div_one]
    rw [mul_div_cancel₀ _ (by positivity)]
  have hsum := sineSeries_near h 32 0 x x (by rw [← hfirst]; simp) (fun _ => le_rfl)
  have htail := sin_sub_sineTerms_le h.nonneg (by linarith [h.sq_le]) 33
  have hsmall : sineTerm ((x : Real) / 2 ^ 160) 33 ≤ 1 / 2 ^ 160 :=
    calc sineTerm ((x : Real) / 2 ^ 160) 33
        ≤ (8 / 5) ^ 67 / (67).factorial := by
          unfold sineTerm
          gcongr
      _ ≤ 1 / 2 ^ 160 := by norm_num [Nat.factorial]
  have hterms : ∑ j ∈ Finset.range 33, (-1) ^ j * sineTerm ((x : Real) / 2 ^ 160) j =
      ∑ j ∈ Finset.range 32, (-1) ^ (0 + 1 + j) * sineTerm ((x : Real) / 2 ^ 160) (0 + 1 + j) +
        sineTerm ((x : Real) / 2 ^ 160) 0 := by
    rw [Finset.sum_range_succ', pow_zero, one_mul]
    simp only [zero_add, Nat.add_comm 1]
  rw [hterms] at htail
  rw [abs_le] at hsum htail ⊢
  constructor <;> linarith [hsum.1, hsum.2, htail.1, htail.2]

/-- The model's π is π to 20 places. -/
theorem piFix_near : |(piFix : Real) / 2 ^ 160 - Real.pi| ≤ 1 / 10 ^ 20 := by
  have hlo := Real.pi_gt_d20
  have hhi := Real.pi_lt_d20
  have hvalue : (3.14159265358979323846 : Real) ≤ (piFix : Real) / 2 ^ 160 ∧
      (piFix : Real) / 2 ^ 160 ≤ 3.14159265358979323847 := by
    constructor <;> norm_num [piFix]
  rw [abs_le]
  constructor <;> linarith [hvalue.1, hvalue.2]

/-- The model's argument for the angle π m / d: at most 1.6, and the angle to almost 20 places. -/
theorem piFix_mul_div_near {m d : Nat} (hd : 0 < d) (h : 2 * m ≤ d) :
    ((piFix * m / d : Nat) : Real) / 2 ^ 160 ≤ 8 / 5 ∧
      |((piFix * m / d : Nat) : Real) / 2 ^ 160 - Real.pi * m / d| ≤ 1 / 10 ^ 20 + 1 / 2 ^ 160 := by
  have hratio : (m : Real) / d ≤ 1 / 2 := by
    rw [div_le_div_iff₀ (by exact_mod_cast hd) (by norm_num)]
    exact_mod_cast (by omega : m * 2 ≤ 1 * d)
  have hratio0 : (0 : Real) ≤ (m : Real) / d := by positivity
  have hpi := abs_le.1 piFix_near
  have hexact : ((piFix * m : Nat) : Real) / d / 2 ^ 160 = (piFix : Real) / 2 ^ 160 * (m / d) := by
    push_cast; ring
  have hupper : ((piFix * m / d : Nat) : Real) / 2 ^ 160 ≤ (piFix : Real) / 2 ^ 160 * (m / d) := by
    rw [← hexact]
    gcongr
    exact Nat.cast_div_le
  have hlower : (piFix : Real) / 2 ^ 160 * (m / d) - 1 / 2 ^ 160 ≤ ((piFix * m / d : Nat) : Real) / 2 ^ 160 := by
    rw [← hexact, ← sub_div]
    gcongr
    exact (sub_one_lt_cast_div _ _).le
  rw [mul_div_assoc Real.pi]
  refine ⟨?_, abs_le.2 ⟨?_, ?_⟩⟩
  · nlinarith [Real.pi_lt_d2, hpi.2]
  · nlinarith [hpi.1]
  · nlinarith [hpi.2]

/-- The fixed-point sine is within 2^-60 of the sine, for angles of the first quarter turn. -/
theorem sineFix_near {m d : Nat} (hd : 0 < d) (h : 2 * m ≤ d) :
    |(sineFix m d : Real) - 2 ^ 160 * Real.sin (Real.pi * m / d)| ≤ 2 ^ 100 := by
  obtain ⟨hle, hangle⟩ := piFix_mul_div_near hd h
  have hsum : |(sineFix m d : Real) - 2 ^ 160 * Real.sin (((piFix * m / d : Nat) : Real) / 2 ^ 160)| ≤ 97 :=
    sineSeries_near_sin hle
  have hsin := abs_le.1 ((Real.abs_sin_sub_sin_le _ _).trans hangle)
  rw [abs_le] at hsum ⊢
  constructor <;> linarith [hsum.1, hsum.2, hsin.1, hsin.2]

/-! ### The sine table (R11) -/

/-- The sine at index r, before its rounding to a whole number, lies 2^-13 or more from every half. -/
def clearOfHalf (r : Nat) : Bool :=
  let rest := (2 * (32767 * sineFix r 8192) + 2 ^ 160) % 2 ^ 161
  decide (2 ^ 148 ≤ rest ∧ rest ≤ 2 ^ 161 - 2 ^ 148)

theorem clearOfHalf_rows : ∀ a < 65, ∀ b < 64, clearOfHalf (64 * a + b) = true := by
  decide +kernel

theorem clearOfHalf_of_le {r : Nat} (h : r ≤ 4096) : clearOfHalf r = true := by
  rw [← Nat.div_add_mod r 64]
  exact clearOfHalf_rows (r / 64) (by omega) (r % 64) (by omega)

/-- R11: a quarter turn of the table holds the nearest integers of its real values. -/
theorem quarterSine_near {r : Nat} (h : r ≤ 4096) :
    |32767 * Real.sin (Real.pi * r / 8192) - (quarterSine r : Real)| < 1 / 2 := by
  have hsin := abs_le.1 (sineFix_near (by norm_num) (by omega : 2 * r ≤ 8192))
  have hclear := clearOfHalf_of_le h
  simp only [clearOfHalf, decide_eq_true_eq] at hclear
  obtain ⟨hlo, hhi⟩ := hclear
  have hdiv := Nat.div_add_mod (2 * (32767 * sineFix r 8192) + 2 ^ 160) (2 ^ 161)
  rw [← quarterSine] at hdiv
  generalize (2 * (32767 * sineFix r 8192) + 2 ^ 160) % 2 ^ 161 = rest at hlo hhi hdiv
  have hlo' : (2 : Real) ^ 148 ≤ rest := by exact_mod_cast hlo
  have hhi' : (rest : Real) ≤ 2 ^ 161 - 2 ^ 148 := by
    have : rest + 2 ^ 148 ≤ 2 ^ 161 := by omega
    have : (rest : Real) + 2 ^ 148 ≤ 2 ^ 161 := by exact_mod_cast this
    linarith
  have hdiv' : (2 : Real) ^ 161 * quarterSine r + rest = 2 * (32767 * sineFix r 8192) + 2 ^ 160 := by exact_mod_cast hdiv
  rw [Nat.cast_ofNat] at hsin
  rw [abs_lt]
  constructor <;> linarith [hsin.1, hsin.2]

/-- The four quarters of the table. -/
theorem sineTable_quarters (i : Nat) :
    (i / 4096 % 4 = 0 → sineTable i = quarterSine (i % 4096)) ∧
      (i / 4096 % 4 = 1 → sineTable i = quarterSine (4096 - i % 4096)) ∧
      (i / 4096 % 4 = 2 → sineTable i = -(quarterSine (i % 4096) : Int)) ∧
      (i / 4096 % 4 = 3 → sineTable i = -(quarterSine (4096 - i % 4096) : Int)) := by
  refine ⟨fun h => ?_, fun h => ?_, fun h => ?_, fun h => ?_⟩ <;> simp only [sineTable, h]

/-- R11: the table holds the nearest integers of its real values. The angle of each quarter is led back to the
first by the symmetry of the sine that the table itself uses. -/
theorem sineTable_near {i : Nat} (hi : i < 16384) :
    |32767 * Real.sin (2 * Real.pi * i / 16384) - (sineTable i : Real)| < 1 / 2 := by
  have hrising := quarterSine_near (by omega : i % 4096 ≤ 4096)
  have hfalling := quarterSine_near (by omega : 4096 - i % 4096 ≤ 4096)
  have hcast : (i : Real) = 4096 * (i / 4096 : Nat) + (i % 4096 : Nat) := by
    exact_mod_cast (Nat.div_add_mod i 4096).symm
  rw [Nat.cast_sub (by omega)] at hfalling
  obtain ⟨h0, h1, h2, h3⟩ := sineTable_quarters i
  have hquarter : i / 4096 = 0 ∨ i / 4096 = 1 ∨ i / 4096 = 2 ∨ i / 4096 = 3 := by omega
  rcases hquarter with hq | hq | hq | hq <;> rw [hq] at hcast
  case inl =>
    have hangle : 2 * Real.pi * i / 16384 = Real.pi * (i % 4096 : Nat) / 8192 := by
      rw [hcast]; push_cast; ring
    rw [h0 (by omega), hangle]
    exact_mod_cast hrising
  case inr.inl =>
    have hangle : 2 * Real.pi * i / 16384 = Real.pi - Real.pi * ((4096 : Nat) - (i % 4096 : Nat)) / 8192 := by
      rw [hcast]; push_cast; ring
    rw [h1 (by omega), hangle, Real.sin_pi_sub]
    exact_mod_cast hfalling
  case inr.inr.inl =>
    have hangle : 2 * Real.pi * i / 16384 = Real.pi * (i % 4096 : Nat) / 8192 + Real.pi := by
      rw [hcast]; push_cast; ring
    rw [h2 (by omega), hangle, Real.sin_add_pi, abs_sub_comm]
    push_cast
    convert hrising using 2
    ring
  case inr.inr.inr =>
    have hangle : 2 * Real.pi * i / 16384 = 2 * Real.pi - Real.pi * ((4096 : Nat) - (i % 4096 : Nat)) / 8192 := by
      rw [hcast]; push_cast; ring
    rw [h3 (by omega), hangle, Real.sin_two_pi_sub, abs_sub_comm]
    push_cast at hfalling ⊢
    convert hfalling using 2
    ring

theorem cosineTable_eq (i : Nat) : cosineTable i = sineTable ((i + 4096) % 16384) := by
  have hmod : (i + 4096) % 16384 % 4096 = (i + 4096) % 4096 := by omega
  have hquarter : (i + 4096) % 16384 / 4096 % 4 = (i + 4096) / 4096 % 4 := by omega
  simp only [cosineTable, sineTable, hmod, hquarter]

end Sys2Proof.Machine
end

section
/-! PROOFS. The f-code, W and Lg are the stated roundings (R9, R10, R12), and O36. -/

namespace Sys2Proof.Machine

open Sys2Proof

/-! ### Rounding to nearest with halves upward -/

/-- The bit search for the greatest y with y − 1/2 ≤ v finds v rounded to nearest with halves upward. -/
theorem greatest_eq_round {p : Nat → Bool} {v : Real} {k : Nat} (hv : 0 ≤ v) (hk : v + 1 / 2 < 2 ^ k)
    (hp : ∀ y, p y = true ↔ y = 0 ∨ (y : Real) - 1 / 2 ≤ v) : (greatest p k 0 : Int) = ⌊v + 1 / 2⌋ := by
  have mono : ∀ a b, a ≤ b → p b = true → p a = true := by
    intro a b hab hb
    rw [hp] at hb ⊢
    rcases hb with hb | hb
    · left; omega
    · right; linarith [show (a : Real) ≤ b from by exact_mod_cast hab]
  obtain ⟨hfound, _, _, hgreatest⟩ := greatest_spec p mono k 0 (Or.inl rfl)
  generalize greatest p k 0 = m at hfound hgreatest ⊢
  symm
  rw [Int.floor_eq_iff, Int.cast_natCast]
  constructor
  · rcases hfound with hm | hm
    · rw [hm, Nat.cast_zero]; linarith
    · rcases (hp m).1 hm with hm | hm
      · rw [hm, Nat.cast_zero]; linarith
      · linarith
  · by_contra hnext
    have hbound : m + 1 < 0 + 2 ^ k := by
      have : ((m + 1 : Nat) : Real) < (2 ^ k : Nat) := by push_cast; linarith
      rw [Nat.zero_add]; exact_mod_cast this
    have := hgreatest (m + 1) hbound ((hp (m + 1)).2 (Or.inr (by push_cast; linarith)))
    omega

/-- y − 1/2 ≤ v as the model compares it: by n-th powers of twice the two sides. -/
theorem sub_half_le_iff_pow_le {y n : Nat} {v : Real} (hy : y ≠ 0) (hn : n ≠ 0) (hv : 0 ≤ v) :
    (y : Real) - 1 / 2 ≤ v ↔ ((2 * y - 1 : Nat) : Real) ^ n ≤ 2 ^ n * v ^ n := by
  have hcast : ((2 * y - 1 : Nat) : Real) = 2 * y - 1 := by
    rw [Nat.cast_sub (by omega)]; push_cast; ring
  rw [← mul_pow, pow_le_pow_iff_left₀ (Nat.cast_nonneg _) (by positivity) hn, hcast]
  constructor <;> intro h <;> linarith

theorem roundUp_eq_floor (num : Nat) {den : Nat} (hden : 0 < den) :
    (roundUp num den : Int) = ⌊(num : Real) / den + 1 / 2⌋ := by
  have hquot : (num : Real) / den + 1 / 2 = ((2 * num + den : Nat) : Real) / (2 * den : Nat) := by
    have : (den : Real) ≠ 0 := by positivity
    push_cast; field_simp
  rw [hquot, ← Int.natCast_floor_eq_floor (by positivity), Nat.floor_div_eq_div, roundUp]

/-! ### The f-code of a LOG block (R9) -/

/-- R9: the real value of the LOG law at block k of B. -/
noncomputable def logValue (fStart fEnd k b : Nat) : Real := (fStart : Real) * ((fEnd : Real) / fStart) ^ ((k : Real) / b)

theorem logValue_nonneg (fStart fEnd k b : Nat) : 0 ≤ logValue fStart fEnd k b := by
  unfold logValue; positivity

theorem logValue_pow {fStart fEnd k b : Nat} (hs : 0 < fStart) (hk : k < b) :
    logValue fStart fEnd k b ^ b = (fStart : Real) ^ (b - k) * fEnd ^ k := by
  have hb : (b : Real) ≠ 0 := by exact_mod_cast (by omega : b ≠ 0)
  have hs' : (fStart : Real) ≠ 0 := by positivity
  rw [logValue, mul_pow, ← Real.rpow_natCast (_ ^ _) b, ← Real.rpow_mul (by positivity), div_mul_cancel₀ _ hb,
    Real.rpow_natCast, div_pow, ← mul_div_assoc, mul_div_right_comm,
    div_eq_mul_inv (_ ^ b), ← pow_sub₀ _ hs' hk.le]

theorem logReached_iff {fStart fEnd k b : Nat} (hs : 0 < fStart) (hk : k < b) (y : Nat) :
    logReached fStart fEnd k b y = true ↔ y = 0 ∨ (y : Real) - 1 / 2 ≤ logValue fStart fEnd k b := by
  simp only [logReached, Bool.or_eq_true, beq_iff_eq, decide_eq_true_eq]
  by_cases hy : y = 0
  · simp [hy]
  · rw [sub_half_le_iff_pow_le hy (by omega : b ≠ 0) (logValue_nonneg fStart fEnd k b), logValue_pow hs hk, ← mul_assoc]
    simp only [hy, false_or]
    exact_mod_cast Iff.rfl

theorem logValue_le {fStart fEnd k b : Nat} (hs : 0 < fStart) (hk : k < b) (hS : fStart ≤ 400000) (hE : fEnd ≤ 400000) :
    logValue fStart fEnd k b ≤ 400000 := by
  rw [← pow_le_pow_iff_left₀ (logValue_nonneg fStart fEnd k b) (by norm_num) (by omega : b ≠ 0), logValue_pow hs hk]
  calc (fStart : Real) ^ (b - k) * fEnd ^ k
      ≤ 400000 ^ (b - k) * 400000 ^ k := by gcongr <;> exact_mod_cast ‹_›
    _ = 400000 ^ b := by rw [← pow_add, Nat.sub_add_cancel hk.le]

/-- R9: the f-code of a LOG block is the law's real value rounded to nearest with halves upward. -/
theorem blockFcode_log {e : Segment} {k : Nat} (hlaw : e.law = .log) (hs : 0 < e.fStart) (hS : e.fStart ≤ 400000)
    (hE : e.fEnd ≤ 400000) (hk : k < e.duration) :
    (blockFcode e k : Int) = ⌊logValue e.fStart e.fEnd k e.duration + 1 / 2⌋ := by
  rw [blockFcode, hlaw]
  refine greatest_eq_round (logValue_nonneg _ _ _ _) ?_ (logReached_iff hs hk)
  linarith [logValue_le hs hk hS hE]

theorem blockFcode_step {e : Segment} (k : Nat) (hlaw : e.law = .step) : blockFcode e k = e.fStart := by
  rw [blockFcode, hlaw]

/-! ### The frequency word (R10) -/

theorem freqWordOf_toNat {f : Nat} (hf : f ≤ 400000) : (freqWordOf f).toNat = roundUp (f * 2 ^ 32) 960000 := by
  rw [freqWordOf, BitVec.toNat_ofNat, Nat.mod_eq_of_lt]
  unfold roundUp
  omega

theorem freqWordOf_eq_round {f : Nat} (hf : f ≤ 400000) :
    ((freqWordOf f).toNat : Int) = ⌊(f : Real) * 2 ^ 32 / 960000 + 1 / 2⌋ := by
  rw [freqWordOf_toNat hf, roundUp_eq_floor _ (by norm_num)]
  norm_num

theorem freqWordOf_range {f : Nat} (hlo : 100 ≤ f) (hf : f ≤ 400000) :
    447392 ≤ (freqWordOf f).toNat ∧ (freqWordOf f).toNat ≤ 1789569707 := by
  rw [freqWordOf_toNat hf]
  unfold roundUp
  omega

/-- R10: the frequency that W gives lies within 0.0000112 Hz of the frequency of the f-code. -/
theorem freqWordOf_frequency {f : Nat} (hf : f ≤ 400000) :
    |((freqWordOf f).toNat : Real) * 96000 / 2 ^ 32 - (f : Real) / 10| < 0.0000112 := by
  obtain ⟨hle, hlt⟩ := Int.floor_eq_iff.1 (freqWordOf_eq_round hf).symm
  rw [Int.cast_natCast] at hle hlt
  rw [abs_lt]
  constructor <;> norm_num at hle hlt ⊢ <;> linarith

/-! ### The level gain (R12) -/

/-- R12: the real value of the gain of a level. -/
noncomputable def gainValue (level : Int) : Real := 8388607 * 10 ^ ((level : Real) / 200)

theorem gainValue_nonneg (level : Int) : 0 ≤ gainValue level := by
  unfold gainValue; positivity

theorem gainValue_pow {level : Int} (h : level ≤ 0) : gainValue level ^ 200 = 8388607 ^ 200 / 10 ^ (-level).toNat := by
  have hexp : (level : Real) = -((-level).toNat : Real) := by
    have : level = -((-level).toNat : Int) := by omega
    exact_mod_cast this
  rw [gainValue, mul_pow, ← Real.rpow_natCast (_ ^ (_ : Real)) 200, ← Real.rpow_mul (by norm_num), Nat.cast_ofNat,
    div_mul_cancel₀ _ (by norm_num), hexp, Real.rpow_neg (by norm_num), Real.rpow_natCast, div_eq_mul_inv]

theorem gainReached_iff {level : Int} (h : level ≤ 0) (y : Nat) :
    gainReached (-level).toNat y = true ↔ y = 0 ∨ (y : Real) - 1 / 2 ≤ gainValue level := by
  simp only [gainReached, Bool.or_eq_true, beq_iff_eq, decide_eq_true_eq]
  by_cases hy : y = 0
  · simp [hy]
  · rw [sub_half_le_iff_pow_le hy (by norm_num : 200 ≠ 0) (gainValue_nonneg level), gainValue_pow h, ← mul_div_assoc,
      ← mul_pow, le_div_iff₀ (by positivity)]
    simp only [hy, false_or, Config.fullScale]
    exact_mod_cast Iff.rfl

theorem gainValue_le {level : Int} (h : level ≤ 0) : gainValue level ≤ 8388607 := by
  have : (10 : Real) ^ ((level : Real) / 200) ≤ 1 :=
    Real.rpow_le_one_of_one_le_of_nonpos (by norm_num) (div_nonpos_of_nonpos_of_nonneg (by exact_mod_cast h) (by norm_num))
  unfold gainValue
  linarith

theorem le_gainValue {level : Int} (h : -600 ≤ level) : 8388.607 ≤ gainValue level := by
  have hexp : (-3 : Real) ≤ (level : Real) / 200 := by
    have : (-600 : Real) ≤ level := by exact_mod_cast h
    linarith
  have : (10 : Real) ^ (-3 : Real) ≤ 10 ^ ((level : Real) / 200) :=
    Real.rpow_le_rpow_of_exponent_le (by norm_num) hexp
  rw [show (10 : Real) ^ (-3 : Real) = 1 / 1000 by norm_num [Real.rpow_neg]] at this
  unfold gainValue
  linarith

/-- R12: Lg is the level's real factor rounded to nearest with halves upward. -/
theorem gainOf_eq_round {level : Int} (h : level ≤ 0) : (gainOf level : Int) = ⌊gainValue level + 1 / 2⌋ := by
  refine greatest_eq_round (gainValue_nonneg level) ?_ (gainReached_iff h)
  linarith [gainValue_le h]

theorem gainOf_range {level : Int} (hlo : -600 ≤ level) (h : level ≤ 0) : 8389 ≤ gainOf level ∧ gainOf level ≤ 8388607 := by
  have hround := gainOf_eq_round h
  have hlower : (8389 : Int) ≤ ⌊gainValue level + 1 / 2⌋ := by
    rw [Int.le_floor]; push_cast; linarith [le_gainValue hlo]
  have hupper : ⌊gainValue level + 1 / 2⌋ < (8388608 : Int) := by
    rw [Int.floor_lt]; push_cast; linarith [gainValue_le h]
  omega

/-! ### The index and the start of a block (R11, R16) -/

theorem phaseIndex_lt (p : Word) : phaseIndex p < 16384 := by
  unfold phaseIndex
  omega

theorem SweepCtx.fcode_of_tone {c : SweepCtx} (h : c.copy.type ≠ .quiet) : c.fcode = blockFcode c.copy c.blockIndex := by
  unfold SweepCtx.fcode
  split
  next hq => exact absurd hq h
  all_goals rfl

theorem SweepCtx.begin_quiet {c : SweepCtx} (stamp : Nat) (h : c.copy.type = .quiet) :
    (c.begin stamp).freqWord = 0 ∧ (c.begin stamp).gain = 0 := by
  simp [SweepCtx.begin, h]

theorem SweepCtx.begin_tone {c : SweepCtx} (stamp : Nat) (h : c.copy.type ≠ .quiet) :
    (c.begin stamp).freqWord = freqWordOf (blockFcode c.copy c.blockIndex) ∧ (c.begin stamp).gain = gainOf c.copy.level := by
  simp [SweepCtx.begin, h, SweepCtx.fcode_of_tone h]

/-! ### O36 -/

/-- R12's table of gains. -/
theorem gainOf_table : gainOf 0 = 8388607 ∧ gainOf (-200) = 838861 ∧ gainOf (-400) = 83886 ∧ gainOf (-600) = 8389 := by
  decide +kernel

/-- R10's table of frequency words. -/
theorem freqWordOf_table :
    freqWordOf 100 = 447392 ∧ freqWordOf 2000 = 8947849 ∧ freqWordOf 10000 = 44739243 ∧ freqWordOf 20000 = 89478485 ∧
      freqWordOf 400000 = 1789569707 := by
  decide

/-- Settles O36: each figure is its real value rounded by the bit search or by the division (R9, R10, R12), and the
table of R11 is the fixed-point sine, whose error no index lets reach a half. -/
theorem oscillatorFiguresAreTheStatedRoundings : Obligations.OscillatorFiguresAreTheStatedRoundings := by
  refine ⟨fun e k hs hS _ hE hk => ⟨blockFcode_step k, fun hlaw => blockFcode_log hlaw (by omega) hS hE hk⟩,
    fun f hlo hf => ?word, freqWordOf_table,
    fun level hlo h => ⟨gainOf_eq_round h, gainOf_range hlo h⟩,
    fun i hi => ⟨sineTable_near hi, (sineTable_range i).1, (sineTable_range i).2, cosineTable_eq i⟩,
    fun p => ⟨rfl, phaseIndex_lt p⟩, gainOf_table,
    fun c stamp => ⟨SweepCtx.begin_quiet stamp, SweepCtx.begin_tone stamp⟩⟩
  case word =>
    obtain ⟨hmin, hmax⟩ := freqWordOf_range hlo hf
    exact ⟨freqWordOf_eq_round hf, hmin, hmax, freqWordOf_frequency hf⟩

end Sys2Proof.Machine
end

section
/-! PROOFS. What the requests for a limit set answer (R66 to R68): the sets and bands that bytes name, the ranges of the
fields, the cases of the three requests, and O7 and O10. -/

namespace Sys2Proof.Machine

open Sys2Proof Host

/-! ### The set and the band that a byte names -/

theorem limitSetOf_of_lt {b : Byte} (h : b.toNat < 8) : limitSetOf b = some ⟨b.toNat, h⟩ := dif_pos h

theorem limitSetOf_of_le {b : Byte} (h : 8 ≤ b.toNat) : limitSetOf b = none := dif_neg (by omega)

theorem bandOf_of_lt {b : Byte} (h : b.toNat < 32) : bandOf b = some ⟨b.toNat, h⟩ := dif_pos h

theorem bandOf_of_le {b : Byte} (h : 32 ≤ b.toNat) : bandOf b = none := dif_neg (by omega)

/-! ### The ranges of the fields (R64, R65) -/

/-- R64: every field of a header in its range. -/
def headerFits (f : HeaderFields) : Prop :=
  (-1800 ≤ f.phase.toInt ∧ f.phase.toInt ≤ 1799) ∧ f.tolerance.toNat ≤ 900 ∧
    (1 ≤ f.persistence.toNat ∧ f.persistence.toNat ≤ 15) ∧ (-1400 ≤ f.presence.toInt ∧ f.presence.toInt ≤ 600) ∧
    f.voidPercent.toNat ≤ 100 ∧ (1 ≤ f.bandCount.toNat ∧ f.bandCount.toNat ≤ 32)

/-- R65: every field of a band in its range. -/
def bandFits (f : BandFields) : Prop :=
  (100 ≤ f.fLo.toNat ∧ f.fLo.toNat ≤ 400000) ∧ (100 ≤ f.fHi.toNat ∧ f.fHi.toNat ≤ 400000) ∧
    (-1400 ≤ f.gLo.toInt ∧ f.gLo.toInt ≤ 600) ∧ (-1400 ≤ f.gHi.toInt ∧ f.gHi.toInt ≤ 600) ∧
    (-1400 ≤ f.dnMax.toInt ∧ f.dnMax.toInt ≤ 400) ∧ (-1400 ≤ f.rbMax.toInt ∧ f.rbMax.toInt ≤ 400) ∧
    f.margin.toNat ≤ 60 ∧ (1 ≤ f.persistence.toNat ∧ f.persistence.toNat ≤ 15)

theorem headerOf_inRange_iff (f : HeaderFields) : (headerOf f).inRange = true ↔ headerFits f := by
  simp only [LimitHeader.inRange, headerOf, headerFits, Bool.and_eq_true, inRange_iff]
  omega

theorem bandFrom_inRange_iff (f : BandFields) : (bandFrom f).inRange = true ↔ bandFits f := by
  simp only [Band.inRange, bandFrom, bandFits, Bool.and_eq_true, inRange_iff]
  omega

/-! ### The cases of R66 -/

theorem actWriteLimitHeader_no_set {set : Byte} (f : HeaderFields) (s : State) (hk : limitSetOf set = none) :
    actWriteLimitHeader set f s = (Reply.bare .badParam, s) := by
  simp only [actWriteLimitHeader, hk]

theorem actWriteLimitHeader_frozen {set : Byte} {k : Fin 8} (f : HeaderFields) (s : State) (hk : limitSetOf set = some k)
    (hf : s.ltc.setFrozen[k] = true) : actWriteLimitHeader set f s = (Reply.bare .frozen, s) := by
  simp only [actWriteLimitHeader, hk, hf, if_true]

theorem actWriteLimitHeader_unfit {set : Byte} {k : Fin 8} {f : HeaderFields} (s : State) (hk : limitSetOf set = some k)
    (hf : s.ltc.setFrozen[k] = false) (hfits : ¬headerFits f) :
    actWriteLimitHeader set f s = (Reply.bare .badParam, s) := by
  simp [actWriteLimitHeader, hk, hf, headerOf_inRange_iff, hfits]

theorem actWriteLimitHeader_replaces {set : Byte} {k : Fin 8} {f : HeaderFields} (s : State) (hk : limitSetOf set = some k)
    (hf : s.ltc.setFrozen[k] = false) (hfits : headerFits f) :
    actWriteLimitHeader set f s = (Reply.bare .ok, s.setLimit k ⟨headerOf f, s.jdu.sets[k].bands⟩) := by
  simp [actWriteLimitHeader, hk, hf, headerOf_inRange_iff, hfits]

/-! ### The cases of R67 -/

theorem actWriteBand_unnamed {set index : Byte} (f : BandFields) (s : State)
    (h : limitSetOf set = none ∨ bandOf index = none) : actWriteBand set index f s = (Reply.bare .badParam, s) := by
  unfold actWriteBand
  split
  next hk hi => simp [hk, hi] at h
  next => rfl

theorem actWriteBand_frozen {set index : Byte} {k : Fin 8} {i : Fin 32} (f : BandFields) (s : State)
    (hk : limitSetOf set = some k) (hi : bandOf index = some i) (hf : s.ltc.setFrozen[k] = true) :
    actWriteBand set index f s = (Reply.bare .frozen, s) := by
  simp only [actWriteBand, hk, hi, hf, if_true]

theorem actWriteBand_unfit {set index : Byte} {k : Fin 8} {i : Fin 32} {f : BandFields} (s : State)
    (hk : limitSetOf set = some k) (hi : bandOf index = some i) (hf : s.ltc.setFrozen[k] = false) (hfits : ¬bandFits f) :
    actWriteBand set index f s = (Reply.bare .badParam, s) := by
  simp [actWriteBand, hk, hi, hf, bandFrom_inRange_iff, hfits]

theorem actWriteBand_replaces {set index : Byte} {k : Fin 8} {i : Fin 32} {f : BandFields} (s : State)
    (hk : limitSetOf set = some k) (hi : bandOf index = some i) (hf : s.ltc.setFrozen[k] = false) (hfits : bandFits f) :
    actWriteBand set index f s =
      (Reply.bare .ok, s.setLimit k { s.jdu.sets[k] with bands := s.jdu.sets[k].bands.set i (bandFrom f) }) := by
  simp [actWriteBand, hk, hi, hf, bandFrom_inRange_iff, hfits]

/-! ### The cases of R68 -/

theorem actReadLimit_no_set {set : Byte} (selector : Byte) (s : State) (hk : limitSetOf set = none) :
    actReadLimit set selector s = (Reply.bare .badParam, s) := by
  simp only [actReadLimit, hk]

theorem actReadLimit_no_band {set selector : Byte} {k : Fin 8} (s : State) (hk : limitSetOf set = some k)
    (hsel : selector.toNat ≠ 255) (hi : bandOf selector = none) :
    actReadLimit set selector s = (Reply.bare .badParam, s) := by
  simp only [actReadLimit, hk, if_neg hsel, hi]

theorem actReadLimit_header {set selector : Byte} {k : Fin 8} (s : State) (hk : limitSetOf set = some k)
    (hsel : selector.toNat = 255) :
    actReadLimit set selector s = (⟨.ok, [set, selector] ++ s.jdu.sets[k].header.bytes⟩, s) := by
  simp only [actReadLimit, hk, if_pos hsel]

theorem actReadLimit_band {set selector : Byte} {k : Fin 8} {i : Fin 32} (s : State) (hk : limitSetOf set = some k)
    (hsel : selector.toNat ≠ 255) (hi : bandOf selector = some i) :
    actReadLimit set selector s = (⟨.ok, [set, selector] ++ s.jdu.sets[k].bands[i].bytes⟩, s) := by
  simp only [actReadLimit, hk, if_neg hsel, hi]

/-! ### The three requests with an empty queue -/

/-- R181, R182: what a request taken at once leaves, from what its owner answers. -/
theorem arrive_quiet_of_eq {r : Request} {tag : Byte} {f : State → Reply × State} {s t : State} {reply : Reply}
    (hq : s.quiet) (hf : f s = (reply, t)) (h : reply.content.length ≤ 89) :
    arrive r tag f s = t.replying (replyType r.type) tag (byte reply.result.code ++ reply.content) := by
  rw [arrive_quiet_short r tag f s hq (by rw [hf]; exact h), hf]

theorem exec_writeLimitHeader_quiet {tag set : Byte} {f : HeaderFields} {s t : State} {result : Result} (hq : s.quiet)
    (h : actWriteLimitHeader set f s = (Reply.bare result, t)) :
    exec (.writeLimitHeader tag set f) s = .next (t.replying 132 tag (byte result.code)) :=
  congrArg Outcome.next (arrive_quiet_of_eq hq h (Nat.zero_le 89))

theorem exec_writeBand_quiet {tag set index : Byte} {f : BandFields} {s t : State} {result : Result} (hq : s.quiet)
    (h : actWriteBand set index f s = (Reply.bare result, t)) :
    exec (.writeBand tag set index f) s = .next (t.replying 133 tag (byte result.code)) :=
  congrArg Outcome.next (arrive_quiet_of_eq hq h (Nat.zero_le 89))

theorem exec_readLimit_quiet {tag set selector : Byte} {s t : State} {reply : Reply} (hq : s.quiet)
    (h : actReadLimit set selector s = (reply, t)) (hlen : reply.content.length ≤ 89) :
    exec (.readLimit tag set selector) s = .next (t.replying 134 tag (byte reply.result.code ++ reply.content)) :=
  congrArg Outcome.next (arrive_quiet_of_eq hq h hlen)

/-! ### O7 and O10 -/

/-- Settles O7: R68 case by case. A selector names the header or a band, never both. -/
theorem readLimitAnswersStoredFields : Obligations.ReadLimitAnswersStoredFields := by
  intro tag set selector s hq
  refine ⟨?refused, fun hs => ⟨fun hsel => ?header, fun hb => ?band⟩⟩
  case refused =>
    intro h
    have hact : actReadLimit set selector s = (Reply.bare .badParam, s) := by
      rcases lt_or_ge set.toNat 8 with hs | hs
      · obtain ⟨hb, hsel⟩ := h.resolve_left (by omega)
        exact actReadLimit_no_band s (limitSetOf_of_lt hs) hsel (bandOf_of_le hb)
      · exact actReadLimit_no_set selector s (limitSetOf_of_le hs)
    exact exec_readLimit_quiet hq hact (Nat.zero_le 89)
  case header => exact exec_readLimit_quiet hq (actReadLimit_header s (limitSetOf_of_lt hs) hsel) (by simp)
  case band =>
    exact exec_readLimit_quiet hq (actReadLimit_band s (limitSetOf_of_lt hs) (by omega) (bandOf_of_lt hb)) (by simp)

/-- Settles O10: R66 and R67 case by case, in the order of their checks. -/
theorem writeLimitReplacesFields : Obligations.WriteLimitReplacesFields := by
  intro tag set index h b s hq
  refine ⟨fun hs => ?noSet, fun hname => ?unnamed, fun hs =>
    ⟨fun hf => ⟨?headerFrozen, fun hi => ?bandFrozen⟩, fun hf =>
      ⟨⟨fun hfits => ?headerUnfit, fun hfits => ?headerReplaced⟩, fun hi =>
        ⟨fun hfits => ?bandUnfit, fun hfits => ?bandReplaced⟩⟩⟩⟩
  case noSet => exact exec_writeLimitHeader_quiet hq (actWriteLimitHeader_no_set h s (limitSetOf_of_le hs))
  case unnamed => exact exec_writeBand_quiet hq (actWriteBand_unnamed b s (hname.imp limitSetOf_of_le bandOf_of_le))
  case headerFrozen => exact exec_writeLimitHeader_quiet hq (actWriteLimitHeader_frozen h s (limitSetOf_of_lt hs) hf)
  case bandFrozen => exact exec_writeBand_quiet hq (actWriteBand_frozen b s (limitSetOf_of_lt hs) (bandOf_of_lt hi) hf)
  case headerUnfit => exact exec_writeLimitHeader_quiet hq (actWriteLimitHeader_unfit s (limitSetOf_of_lt hs) hf hfits)
  case headerReplaced =>
    exact exec_writeLimitHeader_quiet hq (actWriteLimitHeader_replaces s (limitSetOf_of_lt hs) hf hfits)
  case bandUnfit => exact exec_writeBand_quiet hq (actWriteBand_unfit s (limitSetOf_of_lt hs) (bandOf_of_lt hi) hf hfits)
  case bandReplaced =>
    exact exec_writeBand_quiet hq (actWriteBand_replaces s (limitSetOf_of_lt hs) (bandOf_of_lt hi) hf hfits)

end Sys2Proof.Machine
end

section
/-! PROOFS. What the requests for the bin map answer (R119, R120): the reading of the carried entries, the named entries
and their marks, the cases of the two requests, and O8 and O11. -/

namespace Sys2Proof.Machine

open Sys2Proof Host

/-! ### The reading of the carried entries (R118) -/

theorem boolOf_of_le {b : Byte} (h : b.toNat ≤ 1) : boolOf b = some (decide (b.toNat = 1)) := by
  unfold boolOf
  split
  case h_3 => simp at *; omega
  all_goals simp [*]

theorem boolOf_of_lt {b : Byte} (h : 1 < b.toNat) : boolOf b = none := by
  unfold boolOf
  split
  case h_3 => rfl
  all_goals omega

/-- R118: every field of an entry in its values. -/
def binFits (f : BinFields) : Prop := f.bin.toNat < 32 ∧ f.pattern.toNat < 64 ∧ f.good.toNat ≤ 1

/-- The entry has the values that the fields carry. -/
def fieldsDescribe (f : BinFields) (e : BinEntry) : Prop :=
  e.bin.val = f.bin.toNat ∧ e.pattern.val = f.pattern.toNat ∧ e.good = decide (f.good.toNat = 1)

theorem binEntryOf_of_fits {f : BinFields} (h : binFits f) : ∃ e, binEntryOf f = some e ∧ fieldsDescribe f e := by
  obtain ⟨hbin, hpattern, hgood⟩ := h
  refine ⟨⟨⟨f.bin.toNat, hbin⟩, ⟨f.pattern.toNat, hpattern⟩, decide (f.good.toNat = 1)⟩, ?_, rfl, rfl, rfl⟩
  simp only [binEntryOf, boolOf_of_le hgood, dif_pos (And.intro hbin hpattern)]

theorem binEntryOf_of_not_fits {f : BinFields} (h : ¬binFits f) : binEntryOf f = none := by
  unfold binEntryOf
  rcases le_or_gt f.good.toNat 1 with hgood | hgood
  · have hcode : ¬(f.bin.toNat < 32 ∧ f.pattern.toNat < 64) := fun hc => h ⟨hc.1, hc.2, hgood⟩
    simp only [boolOf_of_le hgood, dif_neg hcode]
  · simp only [boolOf_of_lt hgood]

/-- R119: one entry outside its values refuses all of them. -/
theorem binEntriesOf_of_not_fits {fs : List BinFields} (h : ¬∀ f ∈ fs, binFits f) : binEntriesOf fs = none := by
  induction fs with
  | nil => simp at h
  | cons f rest ih =>
    by_cases hf : binFits f
    · have hrest : ¬∀ g ∈ rest, binFits g := fun hg => h (List.forall_mem_cons.2 ⟨hf, hg⟩)
      simp only [binEntriesOf, ih hrest]
      cases binEntryOf f <;> rfl
    · simp only [binEntriesOf, binEntryOf_of_not_fits hf]

/-- R119: entries that all fit are read in their order. -/
theorem binEntriesOf_of_fits {fs : List BinFields} (h : ∀ f ∈ fs, binFits f) :
    ∃ es, binEntriesOf fs = some es ∧ List.Forall₂ fieldsDescribe fs es := by
  induction fs with
  | nil => exact ⟨[], rfl, .nil⟩
  | cons f rest ih =>
    obtain ⟨hf, hrest⟩ := List.forall_mem_cons.1 h
    obtain ⟨e, he, hdescribes⟩ := binEntryOf_of_fits hf
    obtain ⟨es, hes, hall⟩ := ih hrest
    exact ⟨e :: es, by simp only [binEntriesOf, he, hes], .cons hdescribes hall⟩

/-! ### The named entries, their marks and their replacement (R119) -/

/-- R119: a named entry carries a frozen mark. -/
def namedFrozen (first count : Byte) (s : State) : Prop :=
  ∃ k : Fin 256, first.toNat ≤ k.val ∧ k.val < first.toNat + count.toNat ∧ s.ltc.binFrozen[k] = true

theorem binRangeOk_iff (first count : Byte) :
    binRangeOk first count = true ↔ 1 ≤ count.toNat ∧ count.toNat ≤ 8 ∧ first.toNat + count.toNat ≤ 256 :=
  decide_eq_true_iff

theorem binNamed_iff (first count : Byte) (k : Fin 256) :
    binNamed first count k = true ↔ first.toNat ≤ k.val ∧ k.val < first.toNat + count.toNat :=
  decide_eq_true_iff

theorem any_named_frozen_iff (first count : Byte) (s : State) :
    (List.finRange 256).any (fun k => binNamed first count k && s.ltc.binFrozen[k]) = true ↔ namedFrozen first count s := by
  simp [namedFrozen, binNamed_iff, and_assoc]

theorem writeBins_unnamed {first count : Byte} (es : List BinEntry) (s : State) {k : Fin 256}
    (h : k.val < first.toNat ∨ first.toNat + count.toNat ≤ k.val) :
    (writeBins first count es s).bmu.binMap[k] = s.bmu.binMap[k] := by
  have hk : binNamed first count k = false := by
    rw [← Bool.not_eq_true, binNamed_iff]; omega
  simp [writeBins, hk]

theorem writeBins_named {first count : Byte} {es : List BinEntry} (s : State) {k : Fin 256}
    (hlo : first.toNat ≤ k.val) (hhi : k.val < first.toNat + count.toNat) (hlen : k.val - first.toNat < es.length) :
    (writeBins first count es s).bmu.binMap[k] = es[k.val - first.toNat] := by
  have hk : binNamed first count k = true := (binNamed_iff first count k).2 ⟨hlo, hhi⟩
  simp [writeBins, hk, hlen]

/-- R119: with the fields its count calls for, each named entry becomes the one that its fields describe. -/
theorem writeBins_describes {first count : Byte} {fs : List BinFields} {es : List BinEntry} (s : State)
    (hall : List.Forall₂ fieldsDescribe fs es) (hlen : fs.length = count.toNat) {k : Fin 256} {f : BinFields}
    (hlo : first.toNat ≤ k.val) (hf : fs[k.val - first.toNat]? = some f) :
    fieldsDescribe f (writeBins first count es s).bmu.binMap[k] := by
  obtain ⟨hi, rfl⟩ := List.getElem?_eq_some_iff.1 hf
  have hes : k.val - first.toNat < es.length := hall.length_eq ▸ hi
  rw [writeBins_named s hlo (by omega) hes]
  exact hall.get hi hes

/-- R119: the second map has the entries that the fields describe at the named indices and those of the first map at
every other index. -/
def binsReplaced (first count : Byte) (fs : List BinFields) (old new : Vector BinEntry 256) : Prop :=
  ∀ k : Fin 256,
    (k.val < first.toNat ∨ first.toNat + count.toNat ≤ k.val → new[k] = old[k]) ∧
    ∀ f, first.toNat ≤ k.val → fs[k.val - first.toNat]? = some f → fieldsDescribe f new[k]

theorem writeBins_replaces {first count : Byte} {fs : List BinFields} {es : List BinEntry} (s : State)
    (hall : List.Forall₂ fieldsDescribe fs es) (hlen : fs.length = count.toNat) :
    ∃ m, writeBins first count es s = { s with bmu := { s.bmu with binMap := m } } ∧
      binsReplaced first count fs s.bmu.binMap m :=
  ⟨_, rfl, fun _ => ⟨writeBins_unnamed es s, fun _ => writeBins_describes s hall hlen⟩⟩

theorem length_of_binmapEntriesMatch {first count : Byte} {fs : List BinFields} (h : binmapEntriesMatch count fs = true)
    (hr : binRangeOk first count = true) : fs.length = count.toNat := by
  obtain ⟨hmin, hmax, -⟩ := (binRangeOk_iff first count).1 hr
  simpa [binmapEntriesMatch, hmin, hmax] using h

/-! ### The cases of R119 -/

theorem actWriteBinmap_no_range {first count : Byte} (fs : List BinFields) (s : State)
    (hr : ¬binRangeOk first count = true) : actWriteBinmap first count fs s = (Reply.bare .badParam, s) := by
  simp only [actWriteBinmap, Bool.eq_false_of_not_eq_true hr, Bool.not_false, Bool.true_or, if_true]

/-- R181: a payload of the length its count calls for is not short. -/
theorem not_refused_of_length {first count : Byte} {fs : List BinFields} (hr : binRangeOk first count = true)
    (hlen : fs.length = count.toNat) : ¬(!binRangeOk first count || decide (fs.length < count.toNat)) = true := by
  simp [hr, hlen]

theorem actWriteBinmap_frozen {first count : Byte} {fs : List BinFields} {s : State}
    (hr : binRangeOk first count = true) (hlen : fs.length = count.toNat) (hf : namedFrozen first count s) :
    actWriteBinmap first count fs s = (Reply.bare .frozen, s) := by
  rw [actWriteBinmap, if_neg (not_refused_of_length hr hlen), if_pos ((any_named_frozen_iff first count s).2 hf)]

theorem actWriteBinmap_unfit {first count : Byte} {fs : List BinFields} {s : State}
    (hr : binRangeOk first count = true) (hlen : fs.length = count.toNat) (hf : ¬namedFrozen first count s)
    (hes : binEntriesOf fs = none) : actWriteBinmap first count fs s = (Reply.bare .badParam, s) := by
  rw [actWriteBinmap, if_neg (not_refused_of_length hr hlen), if_neg (mt (any_named_frozen_iff first count s).1 hf),
    ← hlen, List.take_length, hes]

theorem actWriteBinmap_replaces {first count : Byte} {fs : List BinFields} {s : State} {es : List BinEntry}
    (hr : binRangeOk first count = true) (hlen : fs.length = count.toNat) (hf : ¬namedFrozen first count s)
    (hes : binEntriesOf fs = some es) :
    actWriteBinmap first count fs s = (Reply.bare .ok, writeBins first count es s) := by
  rw [actWriteBinmap, if_neg (not_refused_of_length hr hlen), if_neg (mt (any_named_frozen_iff first count s).1 hf),
    ← hlen, List.take_length, hes]

/-! ### The cases of R120 -/

/-- The stored entries from an index on, in index order. -/
theorem binMap_slice (s : State) {first count : Nat} (h : first + count ≤ 256) :
    (s.bmu.binMap.toList.drop first).take count = (List.range count).map (fun i => s.binEntry (first + i)) := by
  refine List.ext_getElem (by simp; omega) fun i hi _ => ?_
  have hmod : (first + i) % 256 = first + i := Nat.mod_eq_of_lt (by simp at hi; omega)
  simp [State.binEntry, hmod]

theorem actReadBinmap_no_range {first count : Byte} (s : State) (hr : ¬binRangeOk first count = true) :
    actReadBinmap first count s = (Reply.bare .badParam, s) := by
  simp only [actReadBinmap, if_neg hr]

theorem actReadBinmap_in_range {first count : Byte} (s : State) (hr : binRangeOk first count = true) :
    actReadBinmap first count s =
      (⟨.ok, [first, count] ++ (List.range count.toNat).flatMap (fun i => (s.binEntry (first.toNat + i)).bytes)⟩, s) := by
  obtain ⟨-, -, hend⟩ := (binRangeOk_iff first count).1 hr
  simp only [actReadBinmap, if_pos hr, binMap_slice s hend, List.flatMap_map]

/-! ### The two requests with an empty queue -/

theorem exec_writeBinmap_quiet {tag first count : Byte} {fs : List BinFields} {s t : State} {result : Result}
    (hq : s.quiet) (h : actWriteBinmap first count fs s = (Reply.bare result, t)) :
    exec (.writeBinmap tag first count fs) s = .next (t.replying 135 tag (byte result.code)) :=
  congrArg Outcome.next (arrive_quiet_of_eq hq h (Nat.zero_le 89))

theorem exec_readBinmap_quiet {tag first count : Byte} {s t : State} {reply : Reply} (hq : s.quiet)
    (h : actReadBinmap first count s = (reply, t)) (hlen : reply.content.length ≤ 89) :
    exec (.readBinmap tag first count) s = .next (t.replying 136 tag (byte reply.result.code ++ reply.content)) :=
  congrArg Outcome.next (arrive_quiet_of_eq hq h hlen)

/-! ### O8 and O11 -/

/-- Settles O8: the two cases of R120. The longest reply, of eight entries, still fits one cell. -/
theorem readBinmapAnswersStoredEntries : Obligations.ReadBinmapAnswersStoredEntries := by
  intro tag first count s hq
  refine ⟨fun h => ?refused, fun hmin hmax hend => ?answered⟩
  case refused =>
    have hr : ¬binRangeOk first count = true := by rw [binRangeOk_iff]; omega
    exact exec_readBinmap_quiet hq (actReadBinmap_no_range s hr) (Nat.zero_le 89)
  case answered =>
    have hr : binRangeOk first count = true := (binRangeOk_iff first count).2 ⟨hmin, hmax, hend⟩
    refine exec_readBinmap_quiet hq (actReadBinmap_in_range s hr) ?_
    simp
    omega

/-- Settles O11: R119 case by case, in the order of its checks; the map that the request leaves is the one that
replaces the named entries by those read from the fields. -/
theorem writeBinmapReplacesAllOrNothing : Obligations.WriteBinmapReplacesAllOrNothing := by
  intro tag first count fs s hq hmatch
  refine ⟨fun hr => ?noRange, fun hr hf => ?frozen, fun hr hf hfits => ?unfit, fun hr hf hfits => ?replaced⟩
  case noRange => exact exec_writeBinmap_quiet hq (actWriteBinmap_no_range fs s (mt (binRangeOk_iff first count).1 hr))
  all_goals
    replace hr := (binRangeOk_iff first count).2 hr
    have hlen := length_of_binmapEntriesMatch hmatch hr
  case frozen => exact exec_writeBinmap_quiet hq (actWriteBinmap_frozen hr hlen hf)
  case unfit =>
    exact exec_writeBinmap_quiet hq (actWriteBinmap_unfit hr hlen hf (binEntriesOf_of_not_fits hfits))
  case replaced =>
    obtain ⟨es, hes, hall⟩ := binEntriesOf_of_fits hfits
    obtain ⟨m, hm, hreplaced⟩ := writeBins_replaces s hall hlen
    have hact := actWriteBinmap_replaces hr hlen hf hes
    rw [hm] at hact
    exact ⟨m, exec_writeBinmap_quiet hq hact, hreplaced⟩

end Sys2Proof.Machine
end

section
/-! PROOFS. The balance of the yield counters (R139): the related counters one by one, the tally of a verdict, the
operations that count, and O58. -/

namespace Sys2Proof.Machine

open Sys2Proof Host

/-! ### Collections of counters -/

theorem vector_any_toList_iff {α : Type} {n : Nat} (v : Vector α n) (p : α → Bool) :
    v.toList.any p = true ↔ ∃ k : Fin n, p v[k] = true := by
  simp [Vector.any_eq_true, Fin.exists_iff]

theorem vector_sum_map_toList {α : Type} {n : Nat} (v : Vector α n) (f : α → Nat) :
    (v.toList.map f).sum = ∑ k : Fin n, f v[k] := by
  rw [← List.sum_ofFn]
  congr 1
  apply List.ext_getElem <;> simp

/-- A sum in which one term alone has gone up by 1. -/
theorem sum_succ_at {n : Nat} {f g : Fin n → Nat} (i : Fin n) (h : ∀ k, g k = if k = i then f k + 1 else f k) :
    ∑ k, g k = ∑ k, f k + 1 := by
  have hg : ∀ k, g k = f k + if k = i then 1 else 0 := fun k => by rw [h]; split <;> rfl
  simp [hg, Finset.sum_add_distrib]

theorem countUp_eq_succ {x : Nat} (h : x < Config.counterMax) : countUp x = x + 1 := by simp [countUp, h]

theorem le_countUp (x : Nat) : x ≤ countUp x := by unfold countUp; split <;> omega

/-! ### The counters that the law relates -/

/-- R139: the four counters of a nest that the law relates: TESTED, PASSED, REJECTED and ABORTED. -/
def NestCounters.related (x : NestCounters) : Nat × Nat × Nat × Nat := (x.tested, x.passed, x.rejected, x.aborted)

/-- R139: one of a nest's related counters has saturated. -/
def NestCounters.saturated (x : NestCounters) : Prop :=
  Config.counterMax ≤ x.tested ∨ Config.counterMax ≤ x.passed ∨ Config.counterMax ≤ x.rejected ∨
    Config.counterMax ≤ x.aborted

/-- R139: TESTED of a nest is the sum of its outcomes. -/
def NestCounters.balanced (x : NestCounters) : Prop := x.tested = x.passed + x.rejected + x.aborted

/-- R139: the counters balance, or one that the law relates has saturated. -/
def Counters.accounted (c : Counters) : Prop := c.saturated = true ∨ c.balanced

/-- R139: the law of the live counters and of the snapshot. -/
def Yield.accounted (y : Yield) : Prop := y.live.accounted ∧ y.snap.accounted

theorem yieldLaw_iff (s : State) : s.yieldLaw ↔ s.yct.accounted := Iff.rfl

theorem Counters.saturated_iff (c : Counters) :
    c.saturated = true ↔ (∃ k : Fin 32, Config.counterMax ≤ c.bins[k]) ∨ ∃ n, (c.nest n).saturated := by
  simp only [Counters.saturated, Bool.or_eq_true, vector_any_toList_iff, decide_eq_true_eq]
  rfl

theorem Counters.balanced_iff (c : Counters) :
    c.balanced ↔ ∑ k : Fin 32, c.bins[k] = ∑ n, (c.nest n).tested ∧ ∀ n, (c.nest n).balanced := by
  have hbins := vector_sum_map_toList c.bins id
  rw [List.map_id] at hbins
  rw [Counters.balanced, hbins, vector_sum_map_toList]
  rfl

/-- R139 reads the bins and the related counters of the nests, and nothing else. -/
theorem Counters.accounted_congr {c d : Counters} (hbins : d.bins = c.bins)
    (hnests : ∀ n, (d.nest n).related = (c.nest n).related) : d.accounted ↔ c.accounted := by
  simp only [NestCounters.related, Prod.mk.injEq] at hnests
  simp only [Counters.accounted, Counters.saturated_iff, Counters.balanced_iff, NestCounters.saturated,
    NestCounters.balanced, hbins, hnests]

theorem Counters.nest_setNest (c : Counters) (n m : NestId) (x : NestCounters) :
    (c.setNest n x).nest m = if m = n then x else c.nest m := by
  simp [Counters.nest, Counters.setNest, Vector.getElem_set, Fin.ext_iff, eq_comm]

/-- R139 does not see a change of MARGINAL, RETESTS or UNTALLIED of a nest. -/
theorem Counters.accounted_setNest (c : Counters) (n : NestId) {x : NestCounters} (h : x.related = (c.nest n).related) :
    (c.setNest n x).accounted ↔ c.accounted := by
  refine Counters.accounted_congr rfl fun m => ?_
  rw [Counters.nest_setNest]
  split
  next e => rw [e, h]
  next => rfl

/-! ### The tally of a verdict (R138) -/

theorem NestCounters.tested_tallied (x : NestCounters) (disp : FinalDisp) (marginal : Bool) :
    (x.tallied disp marginal).tested = countUp x.tested := by
  cases disp <;> rfl

theorem NestCounters.saturated_tallied {x : NestCounters} (disp : FinalDisp) (marginal : Bool) (h : x.saturated) :
    (x.tallied disp marginal).saturated := by
  have htested := le_countUp x.tested
  have hpassed := le_countUp x.passed
  have hrejected := le_countUp x.rejected
  have haborted := le_countUp x.aborted
  cases disp <;> simp only [NestCounters.saturated, NestCounters.tallied] at h ⊢ <;> omega

/-- R138: TESTED and the one counter of the outcome go up together. -/
theorem NestCounters.balanced_tallied {x : NestCounters} (disp : FinalDisp) (marginal : Bool) (hs : ¬x.saturated)
    (hb : x.balanced) : (x.tallied disp marginal).balanced := by
  simp only [NestCounters.saturated, not_or, Nat.not_le] at hs
  obtain ⟨htested, hpassed, hrejected, haborted⟩ := hs
  unfold NestCounters.balanced at hb ⊢
  rw [NestCounters.tested_tallied, countUp_eq_succ htested]
  cases disp with
  | pass => simp only [NestCounters.tallied, countUp_eq_succ hpassed]; omega
  | reject => simp only [NestCounters.tallied, countUp_eq_succ hrejected]; omega
  | abort => simp only [NestCounters.tallied, countUp_eq_succ haborted]; omega

section
variable (c : Counters) (n : NestId) (bin : Fin 32) (disp : FinalDisp) (marginal : Bool)

theorem Counters.bins_tally (k : Fin 32) :
    (c.tally n bin disp marginal).bins[k] = if k = bin then countUp c.bins[k] else c.bins[k] := by
  by_cases h : k = bin
  · subst h; simp [Counters.tally]
  · have hne : bin.val ≠ k.val := fun e => h (Fin.ext e.symm)
    simp [Counters.tally, Counters.setNest, h, hne]

theorem Counters.nest_tally (m : NestId) :
    (c.tally n bin disp marginal).nest m = if m = n then (c.nest m).tallied disp marginal else c.nest m := by
  refine (c.nest_setNest n m _).trans ?_
  split
  next e => rw [e]
  next => rfl

theorem Counters.saturated_tally (h : c.saturated = true) : (c.tally n bin disp marginal).saturated = true := by
  rw [Counters.saturated_iff] at h ⊢
  rcases h with ⟨k, hk⟩ | ⟨m, hm⟩
  · refine Or.inl ⟨k, ?_⟩
    rw [Counters.bins_tally]
    split
    · exact hk.trans (le_countUp _)
    · exact hk
  · refine Or.inr ⟨m, ?_⟩
    rw [Counters.nest_tally]
    split
    · exact NestCounters.saturated_tallied disp marginal hm
    · exact hm

/-- With no related counter saturated, one bin counter and the TESTED of one nest go up by 1 each. -/
theorem Counters.balanced_tally (hs : ¬c.saturated = true) (hb : c.balanced) : (c.tally n bin disp marginal).balanced := by
  rw [Counters.saturated_iff, not_or, not_exists, not_exists] at hs
  obtain ⟨hbins, hnests⟩ := hs
  rw [Counters.balanced_iff] at hb ⊢
  obtain ⟨hsum, hnest⟩ := hb
  have binUp : ∑ k : Fin 32, (c.tally n bin disp marginal).bins[k] = ∑ k : Fin 32, c.bins[k] + 1 :=
    sum_succ_at bin fun k => by rw [Counters.bins_tally, countUp_eq_succ (Nat.lt_of_not_le (hbins k))]
  have testedUp : ∑ m, ((c.tally n bin disp marginal).nest m).tested = ∑ m, (c.nest m).tested + 1 := by
    refine sum_succ_at n fun m => ?_
    have hm : (c.nest m).tested < Config.counterMax := Nat.lt_of_not_le fun h => hnests m (Or.inl h)
    rw [Counters.nest_tally, apply_ite NestCounters.tested, NestCounters.tested_tallied, countUp_eq_succ hm]
  refine ⟨by rw [binUp, testedUp, hsum], fun m => ?_⟩
  rw [Counters.nest_tally]
  split
  · exact NestCounters.balanced_tallied disp marginal (hnests m) (hnest m)
  · exact hnest m

theorem Counters.accounted_tally (h : c.accounted) : (c.tally n bin disp marginal).accounted := by
  by_cases hs : c.saturated = true
  · exact Or.inl (c.saturated_tally n bin disp marginal hs)
  · exact Or.inr (c.balanced_tally n bin disp marginal hs (h.resolve_left hs))

end

/-! ### Counters at 0, and the snapshot -/

theorem Counters.accounted_zero : Counters.zero.accounted := Or.inr (by decide)

/-- R142: LOT_OPEN leaves the related counters as a reset does. -/
theorem Counters.accounted_openLot (c : Counters) : c.openLot.accounted :=
  (Counters.accounted_congr (c := Counters.zero) rfl fun _ => rfl).2 Counters.accounted_zero

theorem Counters.accounted_untallied (c : Counters) (n : NestId) : (c.untallied n).accounted ↔ c.accounted :=
  c.accounted_setNest n rfl

theorem Yield.accounted_reset : Yield.reset.accounted := ⟨Counters.accounted_zero, Counters.accounted_zero⟩

/-- R143: page 0 copies the live counters, and sets them to 0 or leaves them. -/
theorem Yield.accounted_take {y : Yield} (clear : Bool) (h : y.accounted) : (y.take clear).accounted := by
  refine ⟨?_, h.1⟩
  cases clear
  · exact h.1
  · exact Counters.accounted_zero

/-! ### The operations that count (R138 to R142) -/

theorem State.accounted_setLive (s : State) (c : Counters) :
    (s.setLive c).yct.accounted ↔ c.accounted ∧ s.yct.snap.accounted := by
  rw [State.setLive_yct]; rfl

@[simp] theorem countTicket_accounted (s : State) : (countTicket s).yct.accounted ↔ s.yct.accounted :=
  State.accounted_setLive s _

@[simp] theorem countTrip_accounted (s : State) : (countTrip s).yct.accounted ↔ s.yct.accounted :=
  State.accounted_setLive s _

@[simp] theorem countVoid_accounted (s : State) : (countVoid s).yct.accounted ↔ s.yct.accounted :=
  State.accounted_setLive s _

@[simp] theorem countCellError_accounted (s : State) : (countCellError s).yct.accounted ↔ s.yct.accounted :=
  State.accounted_setLive s _

@[simp] theorem countRetest_accounted (n : NestId) (s : State) : (countRetest n s).yct.accounted ↔ s.yct.accounted :=
  (State.accounted_setLive s _).trans (and_congr_left' (s.yct.live.accounted_setNest n rfl))

theorem tallyVerdict_accounted (n : NestId) (t : Ticket) (f : Final) (e : BinEntry) (tallied : Bool) {s : State}
    (h : s.yct.accounted) : (tallyVerdict n t f e tallied s).yct.accounted := by
  obtain ⟨hlive, hsnap⟩ := h
  refine (State.accounted_setLive s _).2 ⟨?_, hsnap⟩
  cases tallied
  · exact (s.yct.live.accounted_untallied n).2 hlive
  · exact s.yct.live.accounted_tally n e.bin f.disp t.marginal hlive

/-! ### Tickets -/

@[simp] theorem openTicket_accounted (n : NestId) (b : Binding) (s : State) :
    (openTicket n b s).yct.accounted ↔ s.yct.accounted := by
  simp [openTicket]

@[simp] theorem startRetest_accounted (n : NestId) (b : Binding) (t : Ticket) (s : State) :
    (startRetest n b t s).yct.accounted ↔ s.yct.accounted := by
  simp [startRetest]

@[simp] theorem closeAttempt_accounted (n : NestId) (b : Binding) (s : State) :
    (closeAttempt n b s).yct.accounted ↔ s.yct.accounted := by
  unfold closeAttempt
  split
  · rfl
  · split <;> simp

/-- R108: of the parts of report-taken the tally alone counts. -/
theorem takeReport_accounted (n : NestId) (b : Binding) (t : Ticket) (f : Final) (e : BinEntry) {s : State}
    (h : s.yct.accounted) : (takeReport n b t f e s).yct.accounted := by
  have hyct : (takeReport n b t f e s).yct = (tallyVerdict n t f e (talliedAt f.stage b.tallyPoint) s).yct := by
    simp only [takeReport]
    split <;> simp
  rw [hyct]
  exact tallyVerdict_accounted n t f e _ h

/-! ### Guard blocks, records and sweeps -/

@[simp] theorem closeGuardBlock_accounted (s : State) : (closeGuardBlock s).yct.accounted ↔ s.yct.accounted := by
  simp only [closeGuardBlock]
  (repeat' split) <;> simp

@[simp] theorem countRecord_accounted (n : NestId) (mark : Mark) (s : State) :
    (countRecord n mark s).yct.accounted ↔ s.yct.accounted := by
  cases mark <;> simp [countRecord]

@[simp] theorem judgeByType_accounted (n : NestId) (l : LimitSet) (r : BlockRecord) (mark : Mark) (s : State) :
    (judgeByType n l r mark s).yct.accounted ↔ s.yct.accounted := by
  simp only [judgeByType]
  split <;> simp

@[simp] theorem judgeRecord_accounted (n : NestId) (r : BlockRecord) (s : State) :
    (judgeRecord n r s).yct.accounted ↔ s.yct.accounted := by
  simp only [judgeRecord]
  (repeat' split) <;> simp

@[simp] theorem departBlocks_accounted (n : NestId) (s : State) :
    (departBlocks n s).yct.accounted ↔ s.yct.accounted := by
  simp only [departBlocks]
  refine (iff_of_eq (foldl_field (p := fun u => u.yct.accounted) (fun u r => ?_) _ _)).trans (by simp)
  exact propext (judgeRecord_accounted n _ u)

@[simp] theorem considerNest_yct (n : NestId) (s : State) : (considerNest n s).yct = s.yct := by
  simp only [considerNest, beginSweep]
  (repeat' split) <;> simp

/-! ### Requests -/

theorem actLotOpen_accounted (f : LotFields) {s : State} (h : s.yct.accounted) :
    (actLotOpen f s).2.yct.accounted := by
  unfold actLotOpen
  split
  · exact h
  · split
    · exact h
    · exact (State.accounted_setLive s _).2 ⟨s.yct.live.accounted_openLot, h.2⟩

theorem actNestStart_accounted (nest : Byte) {s : State} (h : s.yct.accounted) :
    (actNestStart nest s).2.yct.accounted := by
  unfold actNestStart
  (repeat' split) <;> simpa using h

theorem actReadCounters_accounted (page flags : Byte) {s : State} (h : s.yct.accounted) :
    (actReadCounters page flags s).2.yct.accounted := by
  simp only [actReadCounters]
  split
  · exact h
  · split
    · exact Yield.accounted_take _ h
    · split <;> exact h

/-- R142, R143: LOT_OPEN, NEST_START and READ_COUNTERS are the requests that reach the counters. -/
theorem act_accounted (r : Request) {s : State} (h : s.yct.accounted) : (act r s).2.yct.accounted := by
  cases r
  case lotOpen f => exact actLotOpen_accounted f h
  case nestStart nest => exact actNestStart_accounted nest h
  case readCounters page flags => exact actReadCounters_accounted page flags h
  all_goals simpa [act] using h

theorem actParsed_accounted (p : Parsed) {s : State} (h : s.yct.accounted) : (actParsed p s).2.yct.accounted := by
  cases p with
  | unknown => exact h
  | short => exact h
  | request r => exact act_accounted r h

/-! ### Cells -/

theorem answer_accounted (type tag : Byte) (f : State → Reply × State) (s : State) :
    (answer type tag f s).yct.accounted ↔ (f s).2.yct.accounted := by
  simp [answer]

theorem takeCell_accounted (c : Machine.Cell) {s : State} (h : s.yct.accounted) : (takeCell c s).yct.accounted :=
  (answer_accounted _ _ _ _).2 (actParsed_accounted _ h)

/-- R180: an offered cell is refused with a fault, is taken, or waits. -/
theorem offerCell_accounted (c : Machine.Cell) {taken : State → State} {s : State} (h : s.yct.accounted)
    (htaken : (taken s).yct.accounted) : (offerCell c taken s).yct.accounted := by
  unfold offerCell
  split
  · simpa using h
  · split
    · exact htaken
    · simpa using h

theorem arrive_accounted (r : Request) (tag : Byte) {s : State} (h : s.yct.accounted) :
    (arrive r tag (act r) s).yct.accounted :=
  offerCell_accounted _ h ((answer_accounted _ _ _ _).2 (act_accounted r h))

@[simp] theorem cellError_accounted (cause : Nat) (s : State) : (cellError cause s).yct.accounted ↔ s.yct.accounted := by
  simp [cellError]

theorem checkCell_accounted (bytes : List Byte) (n : Nat) {s : State} (h : s.yct.accounted) :
    (checkCell bytes n s).yct.accounted := by
  unfold checkCell
  split
  · simpa using h
  · split
    · simpa using h
    · exact offerCell_accounted _ h (takeCell_accounted _ h)

/-- R177: a word that ends a cell has it checked; every other word is kept, passed over or an error. -/
theorem assemble_accounted (w : Word) {s : State} (h : s.yct.accounted) : (assemble w s).yct.accounted := by
  simp only [assemble]
  split
  -- The LAST word, and below it a MIDDLE word, of a cell in progress; the other branches do not split again.
  case h_8 =>
    split
    · simpa using h
    · exact checkCell_accounted _ _ (by simpa using h)
  case h_7 => split <;> simpa using h
  all_goals simpa using h

theorem takeWaiting_accounted {s : State} (h : s.yct.accounted) : (takeWaiting s).yct.accounted := by
  unfold takeWaiting
  split
  · exact takeCell_accounted _ (by simpa using h)
  · exact h

theorem endCell_accounted (src : UpSource) {s : State} (h : s.yct.accounted) : (endCell src s).yct.accounted := by
  cases src with
  | reply => simpa [endCell] using takeWaiting_accounted (s := s.setSvc (s.svc.sent .reply)) (by simpa using h)
  | notice => simpa [endCell] using h
  | report => simpa [endCell] using h

/-! ### The step -/

/-- R139: an outcome of a command taken in the state `s` keeps the law of the counters. -/
def KeepsAccount (s : State) (o : Outcome State Fault Refusal) : Prop :=
  ∀ t, o = .next t → s.yct.accounted → t.yct.accounted

theorem keepsAccount_next {s t : State} (h : s.yct.accounted → t.yct.accounted) : KeepsAccount s (.next t) := by
  rintro _ ⟨⟩
  exact h

/-- A command that leaves the counters alone keeps their law. -/
theorem keepsAccount_of_yct {s t : State} (h : t.yct = s.yct) : KeepsAccount s (.next t) :=
  keepsAccount_next fun hs => h ▸ hs

theorem keepsAccount_fault (s : State) (r : Fault) : KeepsAccount s (.fault r) := by
  rintro _ ⟨⟩

/-- A step that has no effect when it is not due. -/
theorem keepsAccount_ite {s : State} {c : Prop} [Decidable c] {o : Outcome State Fault Refusal} (h : KeepsAccount s o) :
    KeepsAccount s (if c then o else .next s) := by
  split
  · exact h
  · exact keepsAccount_of_yct rfl

theorem keepsAccount_arrive (r : Request) (tag : Byte) (s : State) :
    KeepsAccount s (.next (arrive r tag (act r) s)) :=
  keepsAccount_next (arrive_accounted r tag)

theorem execAnalysisBlockOpen_keepsAccount (n : NestId) (s : State) : KeepsAccount s (execAnalysisBlockOpen n s) := by
  simp only [execAnalysisBlockOpen]
  (repeat' split) <;> exact keepsAccount_of_yct (by simp)

theorem execAnalysisBlockComplete_keepsAccount (n : NestId) (s : State) :
    KeepsAccount s (execAnalysisBlockComplete n s) := by
  refine keepsAccount_ite ?_
  split
  · exact keepsAccount_of_yct (by simp)
  · exact keepsAccount_fault s _

theorem execDrainComplete_keepsAccount (n : NestId) (s : State) : KeepsAccount s (execDrainComplete n s) := by
  unfold execDrainComplete
  split
  · exact keepsAccount_ite (keepsAccount_next (by simp))
  · exact keepsAccount_of_yct rfl

theorem execReportTaken_keepsAccount (n : NestId) (s : State) : KeepsAccount s (execReportTaken n s) := by
  unfold execReportTaken
  split
  · split
    · split
      · exact keepsAccount_of_yct rfl
      · exact keepsAccount_next (takeReport_accounted n _ _ _ _)
    · exact keepsAccount_of_yct rfl
  · exact keepsAccount_of_yct rfl

theorem execReportStall_keepsAccount (n : NestId) (s : State) : KeepsAccount s (execReportStall n s) := by
  simp only [execReportStall]
  (repeat' split) <;> exact keepsAccount_of_yct (by simp)

theorem execNestStuck_keepsAccount (n : NestId) (s : State) : KeepsAccount s (execNestStuck n s) := by
  unfold execNestStuck
  split <;> exact keepsAccount_of_yct (by simp)

theorem execCloseEvent_keepsAccount (n : NestId) (s : State) : KeepsAccount s (execCloseEvent n s) := by
  refine keepsAccount_ite ?_
  (repeat' split) <;> exact keepsAccount_next (by simp)

theorem execOpenEvent_keepsAccount (n : NestId) (s : State) : KeepsAccount s (execOpenEvent n s) := by
  refine keepsAccount_ite ?_
  split <;> exact keepsAccount_of_yct (by simp)

theorem execMarkerStall_keepsAccount (s : State) : KeepsAccount s (execMarkerStall s) := by
  unfold execMarkerStall
  split <;> exact keepsAccount_of_yct (by simp)

theorem execManagementWord_keepsAccount (w : Word) (s : State) : KeepsAccount s (execManagementWord w s) :=
  keepsAccount_next fun h => by simpa using assemble_accounted w h

theorem execUpstreamCellEnd_keepsAccount (s : State) : KeepsAccount s (execUpstreamCellEnd s) := by
  unfold execUpstreamCellEnd
  split
  · split
    · exact keepsAccount_of_yct rfl
    · exact keepsAccount_next (endCell_accounted _)
  · exact keepsAccount_of_yct rfl

theorem execLineResetAction_keepsAccount (s : State) : KeepsAccount s (execLineResetAction s) := by
  unfold execLineResetAction
  (repeat' split) <;> exact keepsAccount_of_yct rfl

/-- R139 over every command, in the order of the opcode table. -/
theorem exec_keepsAccount (i : Instr) (s : State) : KeepsAccount s (exec i s) :=
  match i with
  | .powerOnReset => keepsAccount_next fun _ => Yield.accounted_reset
  | .warmReset => keepsAccount_next fun _ => Yield.accounted_reset
  | .upstreamFrontFrame _ _ _ => keepsAccount_of_yct (takeLink_yct _ _)
  | .frontLost => keepsAccount_ite (keepsAccount_of_yct (loseFront_yct s))
  | .globalBlockBoundary => keepsAccount_ite (keepsAccount_of_yct rfl)
  | .sweepStart _ => keepsAccount_ite (keepsAccount_of_yct (by simp))
  | .driveBlockEnd _ => keepsAccount_ite (keepsAccount_of_yct (by simp))
  | .analysisBlockOpen n => execAnalysisBlockOpen_keepsAccount n s
  | .analysisBlockComplete n => execAnalysisBlockComplete_keepsAccount n s
  | .blockDeparture _ => keepsAccount_ite (keepsAccount_next (by simp))
  | .drainComplete n => execDrainComplete_keepsAccount n s
  | .reportTaken n => execReportTaken_keepsAccount n s
  | .entryDelayExpiry n => keepsAccount_ite (keepsAccount_of_yct (startCheck_yct n s))
  | .retestDelayExpiry n => keepsAccount_ite (keepsAccount_of_yct (startCheck_yct n s))
  | .reportStall n => execReportStall_keepsAccount n s
  | .nestStuck n => execNestStuck_keepsAccount n s
  | .closeEvent n => execCloseEvent_keepsAccount n s
  | .openEvent n => execOpenEvent_keepsAccount n s
  | .guardBlockClose => keepsAccount_ite (keepsAccount_next (closeGuardBlock_accounted s).2)
  | .tripRecordRemoval => keepsAccount_ite (keepsAccount_of_yct (by simp))
  | .saturationEnd => keepsAccount_ite (keepsAccount_of_yct (by simp))
  | .guardConfigTakeEffect => keepsAccount_ite (keepsAccount_of_yct (by simp))
  | .tapChange => keepsAccount_ite (keepsAccount_of_yct (by simp))
  | .markerJobStart => keepsAccount_ite (keepsAccount_of_yct (by simp))
  | .markerStrobeStart => keepsAccount_ite (keepsAccount_of_yct (by simp))
  | .markerGapStart => keepsAccount_ite (keepsAccount_of_yct (by simp))
  | .markerJobRemove => keepsAccount_ite (keepsAccount_of_yct (by simp))
  | .markerStall => execMarkerStall_keepsAccount s
  | .managementWord w => execManagementWord_keepsAccount w s
  | .upstreamCellEnd => execUpstreamCellEnd_keepsAccount s
  | .status tag => keepsAccount_arrive .status tag s
  | .writeSegment tag index f => keepsAccount_arrive (.writeSegment index f) tag s
  | .readSegment tag index => keepsAccount_arrive (.readSegment index) tag s
  | .writeLimitHeader tag set f => keepsAccount_arrive (.writeLimitHeader set f) tag s
  | .writeBand tag set index f => keepsAccount_arrive (.writeBand set index f) tag s
  | .readLimit tag set selector => keepsAccount_arrive (.readLimit set selector) tag s
  | .writeBinmap tag first count es => keepsAccount_arrive (.writeBinmap first count es) tag s
  | .readBinmap tag first count => keepsAccount_arrive (.readBinmap first count) tag s
  | .writeNest tag nest f => keepsAccount_arrive (.writeNest nest f) tag s
  | .readNest tag nest => keepsAccount_arrive (.readNest nest) tag s
  | .writeLine tag f => keepsAccount_arrive (.writeLine f) tag s
  | .readLine tag => keepsAccount_arrive .readLine tag s
  | .lotOpen tag f => keepsAccount_arrive (.lotOpen f) tag s
  | .lotClose tag => keepsAccount_arrive .lotClose tag s
  | .lotAbort tag => keepsAccount_arrive .lotAbort tag s
  | .nestStart tag nest => keepsAccount_arrive (.nestStart nest) tag s
  | .nestEnable tag nest => keepsAccount_arrive (.nestEnable nest) tag s
  | .nestDisable tag nest => keepsAccount_arrive (.nestDisable nest) tag s
  | .releaseTicket tag nest => keepsAccount_arrive (.releaseTicket nest) tag s
  | .readTicket tag nest first count => keepsAccount_arrive (.readTicket nest first count) tag s
  | .readCounters tag page flags => keepsAccount_arrive (.readCounters page flags) tag s
  | .readFaults tag => keepsAccount_arrive .readFaults tag s
  | .clearFaults tag flags kinds => keepsAccount_arrive (.clearFaults flags kinds) tag s
  | .resumeLine tag => keepsAccount_arrive .resumeLine tag s
  | .setTap tag slot source nest => keepsAccount_arrive (.setTap slot source nest) tag s
  | .lineReset tag => keepsAccount_arrive .lineReset tag s
  | .lineResetAction => execLineResetAction_keepsAccount s
  | .unknownRequest _ _ _ => keepsAccount_next fun h => offerCell_accounted _ h (takeCell_accounted _ h)

/-- Settles O58 (R139): a step takes the command at the front of the queue, and every command keeps the law. -/
theorem stepKeepsYieldBalance : Obligations.StepKeepsYieldBalance := by
  intro s t hlaw hstep
  unfold step at hstep
  split at hstep
  · cases hstep
    exact hlaw
  next c rest _ => exact exec_keepsAccount c { s with pending := rest } t hstep hlaw

end Sys2Proof.Machine
end

section
/-! PROOFS. What READ_COUNTERS answers and leaves (R143, R144): the cases of the request, and O22. -/

namespace Sys2Proof.Machine

open Sys2Proof Host

/-! ### The pages (R144) -/

theorem byte_toNat (b : Byte) : byte b.toNat = [b] := by simp [byte]

theorem Counters.length_page_le (c : Counters) (page : Nat) : (c.page page).length ≤ 20 := by
  match page with
  | 0 => simp [Counters.page]
  | 1 => simp [Counters.page]
  | k + 2 =>
    simp only [Counters.page]
    rw [flatMap_length_const NestCounters.list 7 (fun _ => rfl)]
    simp
    omega

/-- R182: a page of the counters fits one cell. -/
theorem Yield.length_content_le (y : Yield) (page : Nat) : (y.content page).length ≤ 89 := by
  have h := y.snap.length_page_le page
  simp only [Yield.content, List.length_append, byte_length, List.length_cons, List.length_nil,
    flatMap_length_const bytes4 4 (fun _ => rfl)]
  omega

/-! ### The cases of R143 -/

theorem actReadCounters_badParam {page flags : Byte} (s : State)
    (h : 5 < page.toNat ∨ (flags.getLsbD 0 = true ∧ page ≠ 0)) :
    actReadCounters page flags s = (Reply.bare .badParam, s) := if_pos h

/-- R143: page 0 answers from the snapshot it takes. -/
theorem actReadCounters_takes (flags : Byte) (s : State) :
    actReadCounters 0 flags s =
      (⟨.ok, (s.yct.take (flags.getLsbD 0)).content 0⟩, s.setYct (s.yct.take (flags.getLsbD 0))) := by
  simp [actReadCounters]

/-- R143: pages 1 to 5 answer from the snapshot as it stands, once there is one. -/
theorem actReadCounters_reads {page flags : Byte} (s : State) (hmin : 1 ≤ page.toNat) (hmax : page.toNat ≤ 5)
    (hclear : flags.getLsbD 0 = false) :
    actReadCounters page flags s =
      if s.yct.present then (⟨.ok, s.yct.content page.toNat⟩, s) else (Reply.bare .badState, s) := by
  have hpage : page ≠ 0 := by rintro rfl; simp at hmin
  have hfits : ¬(5 < page.toNat ∨ (flags.getLsbD 0 = true ∧ page ≠ 0)) := by
    rw [hclear]
    rintro (h | ⟨h, -⟩)
    · omega
    · cases h
  simp only [actReadCounters, if_neg hfits, if_neg hpage]

theorem exec_readCounters_quiet {tag page flags : Byte} {s t : State} {reply : Reply} (hq : s.quiet)
    (h : actReadCounters page flags s = (reply, t)) (hlen : reply.content.length ≤ 89) :
    exec (.readCounters tag page flags) s =
      .next (t.replying 149 tag (byte reply.result.code ++ reply.content)) :=
  congrArg Outcome.next (arrive_quiet_of_eq hq h hlen)

/-! ### O22 -/

/-- Settles O22: the cases of R143. -/
theorem readCountersTakesSnapshot : Obligations.ReadCountersTakesSnapshot := by
  intro tag page flags s hq
  refine ⟨fun h => ?refused, fun hmin hmax hclear => ⟨fun hp => ?absent, fun hp => ?read⟩, ?taken⟩
  case refused => exact exec_readCounters_quiet hq (actReadCounters_badParam s h) (Nat.zero_le 89)
  case absent =>
    have hact := (actReadCounters_reads s hmin hmax hclear).trans (if_neg (by simp [hp]))
    exact exec_readCounters_quiet hq hact (Nat.zero_le 89)
  case read =>
    have hact := (actReadCounters_reads s hmin hmax hclear).trans (if_pos hp)
    rw [exec_readCounters_quiet hq hact (s.yct.length_content_le _), Yield.content, byte_toNat]
    rfl
  case taken =>
    rintro rfl
    rw [exec_readCounters_quiet hq (actReadCounters_takes flags s) (Yield.length_content_le _ 0)]
    rfl

end Sys2Proof.Machine
end

section
/-! PROOFS. The two requests about the fault log: what CLEAR_FAULTS removes and refuses (R172), when RESUME_LINE stops
the line again (R168), and O24 and O25. -/

namespace Sys2Proof.Machine

open Sys2Proof Host

/-! ### Sets of fault kinds -/

theorem and_ne_zero_iff_common_bit {w : Nat} (x y : BitVec w) :
    x &&& y ≠ 0 ↔ ∃ k, x.getLsbD k = true ∧ y.getLsbD k = true := by
  constructor
  · intro h
    by_contra hnone
    refine h (BitVec.eq_of_getLsbD_eq fun k _ => ?_)
    simpa using fun hx hy => hnone ⟨k, hx, hy⟩
  · rintro ⟨k, hx, hy⟩ h
    have hk : (x &&& y).getLsbD k = true := by rw [BitVec.getLsbD_and, hx, hy, Bool.and_self]
    rw [h] at hk
    simp at hk

/-- The places of a kind set that stand for no kind are 0 and those from 11 on. -/
theorem unlistedKinds_getLsbD {k : Nat} : (0xF801 : Half).getLsbD k = true ↔ k < 16 ∧ (k = 0 ∨ 11 ≤ k) := by
  by_cases hk : k < 16
  · interval_cases k <;> decide
  · rw [BitVec.getLsbD_of_ge _ _ (by omega)]
    simp [hk]

/-- R172: BAD_PARAM is answered exactly when a place that stands for no kind is set. -/
theorem kindSetInRange_iff (kinds : Half) :
    kindSetInRange kinds = true ↔ ∀ k, k = 0 ∨ 11 ≤ k → kinds.getLsbD k = false := by
  rw [kindSetInRange, beq_iff_eq, ← not_iff_not, ← ne_eq, and_ne_zero_iff_common_bit]
  push Not
  refine exists_congr fun k => ?_
  rw [unlistedKinds_getLsbD, Bool.ne_false_iff]
  exact ⟨fun ⟨hbit, _, hk⟩ => ⟨hk, hbit⟩, fun ⟨hk, hbit⟩ => ⟨hbit, BitVec.lt_of_getLsbD hbit, hk⟩⟩

/-! ### CLEAR_FAULTS (R172) -/

@[simp] theorem FaultLog.clearContent_length (f : FaultLog) : f.clearContent.length = 3 := rfl

theorem FaultLog.clear_next_getLsbD (f : FaultLog) (first : Bool) (kinds : Half) (k : Nat) :
    (f.clear first kinds).next.getLsbD k = (f.next.getLsbD k && !kinds.getLsbD k) := by
  rw [FaultLog.clear, BitVec.getLsbD_and, BitVec.getLsbD_not]
  by_cases hk : k < 16
  · simp [hk]
  · simp [BitVec.getLsbD_of_ge f.next k (by omega)]

theorem actClearFaults_out_of_range {flags : Byte} {kinds : Half} (s : State) (h : ¬kindSetInRange kinds = true) :
    actClearFaults flags kinds s = (⟨.badParam, s.flg.clearContent⟩, s) := by
  simp [actClearFaults, h]

theorem actClearFaults_held {flags : Byte} {kinds : Half} {s : State} (h : kindSetInRange kinds = true)
    (hfirst : flags.getLsbD 0 = true) (hheld : s.flg.held ≠ none) :
    actClearFaults flags kinds s = (⟨.badState, s.flg.clearContent⟩, s) := by
  simp [actClearFaults, h, hfirst, Option.isSome_iff_ne_none, hheld]

theorem actClearFaults_clears {flags : Byte} {kinds : Half} {s : State} (h : kindSetInRange kinds = true)
    (hfree : flags.getLsbD 0 = false ∨ s.flg.held = none) :
    actClearFaults flags kinds s =
      (⟨.ok, (s.flg.clear (flags.getLsbD 0) kinds).clearContent⟩, s.setFlg (s.flg.clear (flags.getLsbD 0) kinds)) := by
  have hnotHeld : (flags.getLsbD 0 && s.flg.held.isSome) = false := by
    rcases hfree with hfirst | hheld
    · rw [hfirst, Bool.false_and]
    · rw [hheld, Option.isSome_none, Bool.and_false]
  simp only [actClearFaults, h, hnotHeld, Bool.not_true, Bool.false_eq_true, if_false]

/-- R193: the reply to CLEAR_FAULTS fits one cell, whatever its result. -/
theorem exec_clearFaults_quiet {tag flags : Byte} {kinds : Half} {s t : State} {result : Result} {f : FaultLog}
    (hq : s.quiet) (h : actClearFaults flags kinds s = (⟨result, f.clearContent⟩, t)) :
    exec (.clearFaults tag flags kinds) s = .next (t.replying 151 tag (byte result.code ++ f.clearContent)) :=
  congrArg Outcome.next (arrive_quiet_of_eq hq h (by simp))

/-- Settles O24: the cases of R172. -/
theorem clearFaultsUnlessHeld : Obligations.ClearFaultsUnlessHeld := by
  intro tag flags kinds s hq
  simp only [← kindSetInRange_iff]
  refine ⟨fun h => ?badParam, fun h hfirst hheld => ?badState, fun h hfree => ?cleared⟩
  case badParam => exact exec_clearFaults_quiet hq (actClearFaults_out_of_range s h)
  case badState => exact exec_clearFaults_quiet hq (actClearFaults_held h hfirst hheld)
  case cleared =>
    exact ⟨s.flg.clear (flags.getLsbD 0) kinds, rfl, s.flg.clear_next_getLsbD (flags.getLsbD 0) kinds,
      exec_clearFaults_quiet hq (actClearFaults_clears h hfree)⟩

/-! ### RESUME_LINE (R168) -/

theorem FaultLog.stopLogged_iff (f : FaultLog) :
    f.stopLogged = true ↔ (∃ r, f.first = some r ∧ f.stopMask.getLsbD r.kind.code = true) ∨
      ∃ k, f.next.getLsbD k = true ∧ f.stopMask.getLsbD k = true := by
  rw [FaultLog.stopLogged, Bool.or_eq_true, Option.any_eq_true, bne_iff_ne, and_ne_zero_iff_common_bit]
  rfl

theorem FaultLog.resume_of_stopLogged {f : FaultLog} {b : Bool} (h : f.stopLogged = b) :
    f.resume = { f with lineStop := b, armed := !b } := by
  rw [FaultLog.resume, h]

theorem exec_resumeLine_quiet {tag : Byte} {s : State} {b : Bool} (hq : s.quiet) (h : s.flg.stopLogged = b) :
    exec (.resumeLine tag) s =
      .next ({ s with flg := { s.flg with lineStop := b, armed := !b } }.replying 152 tag
        (byte 0 ++ byte (flagByte [b, !b]))) := by
  have hact : actResumeLine s =
      (⟨.ok, byte (flagByte [b, !b])⟩, s.setFlg { s.flg with lineStop := b, armed := !b }) := by
    rw [actResumeLine, FaultLog.resume_of_stopLogged h]
  exact congrArg Outcome.next (arrive_quiet_of_eq hq hact (by simp))

/-- Settles O25: the test of R168 over the log, and the line stop that it leaves. -/
theorem resumeLineStopsAgainForLoggedKind : Obligations.ResumeLineStopsAgainForLoggedKind := by
  intro tag s hq
  simp only [← FaultLog.stopLogged_iff]
  exact ⟨fun h => exec_resumeLine_quiet hq h, fun h => exec_resumeLine_quiet hq (Bool.eq_false_iff.2 h)⟩

end Sys2Proof.Machine
end

section
/-! PROOFS. What a command can do, said once: the effects of the words and cells of the line link, the effects of every
other command, and the inversion of `exec` into them.  The laws that every step keeps follow from it case by case. -/

namespace Sys2Proof.Machine

open Sys2Proof Host

/-! ### The places of SVC -/

/-- R180, R182, R186, R187: the queue of requests, the reply slot and the two FIFOs lie within their places. -/
def Service.Within (v : Service) : Prop :=
  v.requests.length ≤ 4 ∧ v.reply.length ≤ 3 ∧ v.notices.length ≤ 8 ∧ v.reports.length ≤ 16

/-- A change of SVC that keeps it within its places. -/
def Service.Fits (v w : Service) : Prop := v.Within → w.Within

theorem Service.fits_refl (v : Service) : v.Fits v := id

/-- A change of the assembler or of the upstream word alone. -/
theorem Service.fits_of_places {v w : Service} (hq : w.requests = v.requests) (hr : w.reply = v.reply)
    (hn : w.notices = v.notices) (hp : w.reports = v.reports) : v.Fits w := by
  rintro ⟨h1, h2, h3, h4⟩
  exact ⟨hq ▸ h1, hr ▸ h2, hn ▸ h3, hp ▸ h4⟩

theorem Service.select_places (v : Service) : v.select.requests = v.requests ∧ v.select.reply = v.reply ∧
    v.select.notices = v.notices ∧ v.select.reports = v.reports := by
  unfold Service.select; split <;> exact ⟨rfl, rfl, rfl, rfl⟩

theorem Service.fits_select (v : Service) : v.Fits v.select := by
  obtain ⟨h1, h2, h3, h4⟩ := v.select_places
  exact Service.fits_of_places h1 h2 h3 h4

theorem Service.fits_choose (v : Service) : v.Fits v.choose := by
  unfold Service.choose
  split
  · exact v.fits_refl
  · split
    · exact v.fits_select
    · split
      · exact Service.fits_of_places rfl rfl rfl rfl
      · exact v.fits_refl

theorem Service.fits_sent (v : Service) (src : UpSource) : v.Fits (v.sent src) := by
  rintro ⟨h1, h2, h3, h4⟩
  cases src
  · exact ⟨h1, by simp only [Service.sent, List.length_tail]; omega, h3, h4⟩
  · exact ⟨h1, h2, by simp only [Service.sent, List.length_tail]; omega, h4⟩
  · exact ⟨h1, h2, h3, by simp only [Service.sent, List.length_tail]; omega⟩

/-- R182: a reply takes at most three places of the reply slot. -/
theorem Service.fits_reply (v : Service) (r : Reply) (type tag : Byte) :
    v.Fits { v with reply := r.cells type tag } := fun h =>
  ⟨h.1, (r.cells_length type tag).2, h.2.2⟩

/-! ### The effects of words and cells -/

/-- R175 to R181: what a management word, the end of an upstream cell or the arrival of a cell can do: move the words
and cells of SVC, raise a fault that captures nothing, with or without a count of CELL_ERRORS, or have one request
acted on. -/
inductive ServiceStep (s : State) : State → Prop
  | moved (v : Service) (fits : s.svc.Fits v) : ServiceStep s (s.setSvc v)
  | raised (r : FaultRecord) (v w : Service) (plain : r.kind.captures = false) (fits : s.svc.Fits v)
      (kept : (raiseFault r (s.setSvc v)).svc.Fits w) : ServiceStep s ((raiseFault r (s.setSvc v)).setSvc w)
  | wrong (r : FaultRecord) (v w : Service) (plain : r.kind.captures = false) (fits : s.svc.Fits v)
      (kept : (raiseFault r (s.setSvc v)).svc.Fits w) :
      ServiceStep s ((countCellError (raiseFault r (s.setSvc v))).setSvc w)
  | acted (r : Request) (v w : Service) (fits : s.svc.Fits v) (kept : (act r (s.setSvc v)).2.svc.Fits w) :
      ServiceStep s ((act r (s.setSvc v)).2.setSvc w)

theorem Service.Fits.trans {u v w : Service} (h : u.Fits v) (k : v.Fits w) : u.Fits w := fun hu => k (h hu)

/-- SVC may move its words and cells once more. -/
theorem ServiceStep.setSvc {s t : State} (h : ServiceStep s t) {w : Service} (fits : t.svc.Fits w) :
    ServiceStep s (t.setSvc w) := by
  cases h with
  | moved v hv => exact .moved w (hv.trans fits)
  | raised r v _ plain hv kept => exact .raised r v w plain hv (kept.trans fits)
  | wrong r v _ plain hv kept => exact .wrong r v w plain hv (kept.trans fits)
  | acted r v _ hv kept => exact .acted r v w hv (kept.trans fits)

/-- SVC may have moved its words and cells before. -/
theorem ServiceStep.of_setSvc {s t : State} {v : Service} (fits : s.svc.Fits v) (h : ServiceStep (s.setSvc v) t) :
    ServiceStep s t := by
  cases h with
  | moved w hw => exact .moved w (fits.trans hw)
  | raised r u w plain hu kept => exact .raised r u w plain (fits.trans hu) kept
  | wrong r u w plain hu kept => exact .wrong r u w plain (fits.trans hu) kept
  | acted r u w hu kept => exact .acted r u w (fits.trans hu) kept

theorem ServiceStep.refl (s : State) : ServiceStep s s := .moved s.svc s.svc.fits_refl

theorem serviceStep_raiseFault (r : FaultRecord) (s : State) (plain : r.kind.captures = false) :
    ServiceStep s (raiseFault r s) := .raised r s.svc _ plain s.svc.fits_refl (Service.fits_refl _)

theorem serviceStep_overrun (c : Machine.Cell) (s : State) : ServiceStep s (overrun c s) :=
  serviceStep_raiseFault _ s rfl

theorem serviceStep_cellError (cause : Nat) (s : State) : ServiceStep s (cellError cause s) :=
  .wrong _ s.svc _ rfl s.svc.fits_refl (Service.fits_refl _)

theorem serviceStep_act (r : Request) (type tag : Byte) (s : State) : ServiceStep s (answer type tag (act r) s) :=
  .acted r s.svc _ s.svc.fits_refl (Service.fits_reply _ _ type tag)

theorem serviceStep_takeCell (c : Machine.Cell) (s : State) : ServiceStep s (takeCell c s) := by
  unfold takeCell
  cases Request.parse c.type c.payload with
  | unknown => exact .moved _ (s.svc.fits_reply _ _ _)
  | short => exact .moved _ (s.svc.fits_reply _ _ _)
  | request r => exact serviceStep_act r c.type c.tag s

/-- R180: an offered cell is refused with REQUEST_OVERRUN, is taken, or waits. -/
theorem serviceStep_offerCell (c : Machine.Cell) {taken : State → State} {s : State} (h : ServiceStep s (taken s)) :
    ServiceStep s (offerCell c taken s) := by
  unfold offerCell
  split
  · exact serviceStep_overrun c s
  next hfull =>
    split
    · exact h
    · refine .moved _ fun ⟨_, h2, h3, h4⟩ => ⟨?_, h2, h3, h4⟩
      simp only [Config.requestPlaces] at hfull
      simp only [List.length_append, List.length_singleton]
      omega

theorem serviceStep_arrive (r : Request) (tag : Byte) (s : State) : ServiceStep s (arrive r tag (act r) s) :=
  serviceStep_offerCell _ (serviceStep_act r r.type tag s)

theorem serviceStep_checkCell (bytes : List Byte) (n : Nat) (s : State) : ServiceStep s (checkCell bytes n s) := by
  unfold checkCell
  split
  · exact serviceStep_cellError 5 s
  · split
    · exact serviceStep_cellError 1 s
    · exact serviceStep_offerCell _ (serviceStep_takeCell _ s)

/-- R177: a word that ends a cell has it checked; every other word is kept, passed over or an error. -/
theorem serviceStep_assemble (w : Word) (s : State) : ServiceStep s (assemble w s) := by
  have rest : ∀ st, s.svc.Fits (s.svc.rest st) := fun _ => Service.fits_of_places rfl rfl rfl rfl
  have begun : s.svc.Fits (s.svc.beginCell w) := Service.fits_of_places rfl rfl rfl rfl
  simp only [assemble]
  split
  case h_1 => exact .refl s
  case h_2 => exact .moved _ begun
  case h_3 => exact .of_setSvc (rest _) (serviceStep_cellError 3 _)
  case h_4 => exact serviceStep_cellError 3 s
  case h_5 => exact .refl s
  case h_6 => exact .of_setSvc begun (serviceStep_cellError 2 _)
  case h_7 =>
    split
    · exact .of_setSvc (rest _) (serviceStep_cellError 4 _)
    · exact .moved _ (Service.fits_of_places rfl rfl rfl rfl)
  case h_8 =>
    split
    · exact .of_setSvc (rest _) (serviceStep_cellError 4 _)
    · exact .of_setSvc (rest _) (serviceStep_checkCell _ _ _)
  case h_9 => exact .refl s
  case h_10 => exact .moved _ begun
  case h_11 => exact .refl s
  case h_12 => exact .moved _ (rest _)

theorem serviceStep_takeWaiting (s : State) : ServiceStep s (takeWaiting s) := by
  unfold takeWaiting
  split
  next c rest _ hq =>
    refine .of_setSvc (v := { s.svc with requests := rest }) (fun ⟨h1, h2, h3, h4⟩ => ⟨?_, h2, h3, h4⟩)
      (serviceStep_takeCell c _)
    rw [hq, List.length_cons] at h1
    exact Nat.le_of_succ_le h1
  · exact .refl s

theorem serviceStep_endCell (src : UpSource) (s : State) : ServiceStep s (endCell src s) := by
  cases src with
  | reply =>
    exact .of_setSvc (s.svc.fits_sent .reply) ((serviceStep_takeWaiting _).setSvc (Service.fits_select _))
  | notice => exact .moved _ ((s.svc.fits_sent .notice).trans (Service.fits_select _))
  | report => exact .moved _ ((s.svc.fits_sent .report).trans (Service.fits_select _))

/-! ### The effects of every command -/

/-- What a command other than a power-on reset can do, with the conditions under which it does it. -/
inductive Effect (s : State) : State → Prop
  | idle : Effect s s
  | warm : Effect s (warmReset s)
  | frame (f : Option UpstreamFrame) (sensors : Byte) (ready : Bool) :
      Effect s (takeLink s.fli.link (frameEnd f sensors ready s))
  | frontLost : Effect s (loseFront s)
  | timers : Effect s (countTimers s)
  | sweepStart (n : NestId) : Effect s ((considerNest n s.markBoundary).setProcessed n)
  | blockEnd (n : NestId) : Effect s ((endBlock n s.markBoundary).setProcessed n)
  | analysis (n : NestId) (a : Analysis) (history : a.history = (s.ana n).history)
      (queue : a.queue = (s.ana n).queue ∨ a.queue.length ≤ 8) : Effect s (s.setAna n a)
  | departure (n : NestId) : Effect s (departBlocks n s.markBoundary)
  | drained (n : NestId) (b : Binding) (lot : s.lot = some b) (due : s.drainDone n = true) :
      Effect s (closeAttempt n b (review n b s))
  | reported (n : NestId) (b : Binding) (x : Ticket) (f : Final) (e : BinEntry) (lot : s.lot = some b)
      (state : (s.nest n).state = .report) (ticket : (s.nest n).ticket = some x) (reports : s.reportsFull = false)
      (marker : s.markerFull e = false) : Effect s (takeReport n b x f e s)
  | checked (n : NestId) : Effect s (startCheck n s)
  | reportStall (n : NestId) (r : FaultRecord) (plain : r.kind.captures = false) :
      Effect s (raiseFault r (s.setNest n { s.nest n with expiry := none }))
  | stuck (n : NestId) (g : Nat) (x : Ticket) (state : (s.nest n).state = .unload) (ticket : (s.nest n).ticket = some x) :
      Effect s (raiseStuck n g x.serial s)
  | settled (n : NestId) (level : Level) : Effect s (s.setNest n ((s.nest n).settle level))
  | closed (n : NestId) (b : Binding) (lot : s.lot = some b) (state : (s.nest n).state = .vacant)
      (line : s.ltc.line = .opened) : Effect s (openTicket n b (s.setNest n ((s.nest n).settle .closed)))
  | opened (n : NestId) : Effect s (openEffect n (s.setNest n ((s.nest n).settle .opened)))
  | guardClose : Effect s (closeGuardBlock s)
  | guardBoundary (g : GuardMon) (trips : g.trips.length ≤ s.gdm.trips.length) : Effect s (s.markBoundary.setGdm g)
  | taps : Effect s (s.markBoundary.setFli s.fli.applyTaps)
  | marker (b : BinMarker) (map : b.binMap = s.bmu.binMap) (queue : b.queue.length ≤ s.bmu.queue.length) :
      Effect s (s.setBmu b)
  | markerStall (r : FaultRecord) (plain : r.kind.captures = false) :
      Effect s (raiseFault r (s.setBmu { s.bmu with expiry := none }))
  | service (t : State) (step : ServiceStep s t) : Effect s t
  | lineReset : Effect s (lineReset s)

/-- Every state that an outcome answers is an effect of the command. -/
def Effects (s : State) (o : Outcome State Fault Refusal) : Prop := ∀ t, o = .next t → Effect s t

theorem effects_next {s t : State} (h : Effect s t) : Effects s (.next t) := by
  rintro _ ⟨⟩
  exact h

theorem effects_idle (s : State) : Effects s (.next s) := effects_next .idle

theorem effects_fault (s : State) (r : Fault) : Effects s (.fault r) := by
  rintro _ ⟨⟩

/-- A step not due has no effect. -/
theorem effects_ite {s : State} {c : Prop} [Decidable c] {o : Outcome State Fault Refusal} (h : c → Effects s o) :
    Effects s (if c then o else .next s) := by
  split
  next hc => exact h hc
  next => exact effects_idle s

theorem effects_service {s t : State} (h : ServiceStep s t) : Effects s (.next t) := effects_next (.service t h)

theorem effects_arrive (r : Request) (tag : Byte) (s : State) : Effects s (.next (arrive r tag (act r) s)) :=
  effects_service (serviceStep_arrive r tag s)

theorem execAnalysisBlockOpen_effects (n : NestId) (s : State) : Effects s (execAnalysisBlockOpen n s) := by
  simp only [execAnalysisBlockOpen]
  split
  · exact effects_ite fun _ => effects_next (.analysis n _ rfl (Or.inl rfl))
  · exact effects_idle s

theorem execAnalysisBlockComplete_effects (n : NestId) (s : State) : Effects s (execAnalysisBlockComplete n s) := by
  refine effects_ite fun _ => ?_
  split
  next h =>
    refine effects_next (.analysis n _ rfl (Or.inr ?_))
    simp only [Config.pendingPlaces] at h
    simp only [Analysis.complete, List.length_append, List.length_singleton]
    omega
  next => exact effects_fault s _

theorem execDrainComplete_effects (n : NestId) (s : State) : Effects s (execDrainComplete n s) := by
  unfold execDrainComplete
  split
  next b hb => exact effects_ite fun hd => effects_next (.drained n b hb hd)
  next => exact effects_idle s

theorem execReportTaken_effects (n : NestId) (s : State) : Effects s (execReportTaken n s) := by
  unfold execReportTaken
  split
  next b x hb hstate hx =>
    split
    next f e _ _ =>
      split
      next => exact effects_idle s
      next hspace =>
        rw [Bool.or_eq_true, not_or, Bool.not_eq_true, Bool.not_eq_true] at hspace
        exact effects_next (.reported n b x f e hb hstate hx hspace.1 hspace.2)
    next => exact effects_idle s
  next => exact effects_idle s

theorem execReportStall_effects (n : NestId) (s : State) : Effects s (execReportStall n s) := by
  simp only [execReportStall]
  split
  · split
    · split
      · exact effects_idle s
      · exact effects_next (.reportStall n _ rfl)
    · exact effects_idle s
  · exact effects_idle s

theorem execNestStuck_effects (n : NestId) (s : State) : Effects s (execNestStuck n s) := by
  unfold execNestStuck
  split
  next g x hstate _ hx => exact effects_next (.stuck n g x hstate hx)
  next => exact effects_idle s

theorem execCloseEvent_effects (n : NestId) (s : State) : Effects s (execCloseEvent n s) := by
  refine effects_ite fun _ => ?_
  split
  next b hb =>
    split
    next hopens => exact effects_next (.closed n b hb hopens.1 hopens.2.2.2)
    next => exact effects_next (.settled n .closed)
  next => exact effects_next (.settled n .closed)

theorem execOpenEvent_effects (n : NestId) (s : State) : Effects s (execOpenEvent n s) := by
  refine effects_ite fun _ => ?_
  split
  · exact effects_next (.opened n)
  · exact effects_next (.settled n .opened)

theorem BinMarker.takeUp_places (b : BinMarker) (t : Nat) :
    (b.takeUp t).binMap = b.binMap ∧ (b.takeUp t).queue = b.queue := by
  unfold BinMarker.takeUp; split <;> exact ⟨rfl, rfl⟩

theorem execMarkerJobStart_effects (s : State) : Effects s (execMarkerJobStart s) :=
  effects_ite fun _ => by
    obtain ⟨hmap, hqueue⟩ := s.bmu.takeUp_places s.lastFrame
    exact effects_next (.marker _ hmap (Nat.le_of_eq (congrArg _ hqueue)))

theorem execMarkerJobRemove_effects (s : State) : Effects s (execMarkerJobRemove s) :=
  effects_ite fun _ => by
    obtain ⟨hmap, hqueue⟩ :=
      BinMarker.takeUp_places { s.bmu with queue := s.bmu.queue.tail, port := .idle } s.lastFrame
    refine effects_next (.marker _ hmap ?_)
    rw [BinMarker.removeJob, hqueue, List.length_tail]
    omega

theorem execMarkerStall_effects (s : State) : Effects s (execMarkerStall s) := by
  unfold execMarkerStall
  split
  · exact effects_next (.markerStall _ rfl)
  · exact effects_idle s

theorem execUpstreamCellEnd_effects (s : State) : Effects s (execUpstreamCellEnd s) := by
  unfold execUpstreamCellEnd
  split
  · split
    · exact effects_idle s
    · exact effects_service (serviceStep_endCell _ s)
  · exact effects_idle s

theorem execLineResetAction_effects (s : State) : Effects s (execLineResetAction s) := by
  unfold execLineResetAction
  split
  · split
    · exact effects_next .lineReset
    · exact effects_idle s
  · exact effects_idle s

theorem GuardMon.removeOld_length (g : GuardMon) (t : Nat) : (g.removeOld t).trips.length ≤ g.trips.length :=
  (List.dropWhile_sublist _).length_le

theorem GuardMon.applyConfig_trips (g : GuardMon) : g.applyConfig.trips = g.trips := by rw [GuardMon.applyConfig_eq]

/-- The effects of every command but POWER_ON_RESET, in the order of the opcode table. -/
theorem exec_effects (i : Instr) (s : State) (h : i ≠ .powerOnReset) : Effects s (exec i s) :=
  match i with
  | .powerOnReset => absurd rfl h
  | .warmReset => effects_next .warm
  | .upstreamFrontFrame f sensors ready => effects_next (.frame f sensors ready)
  | .frontLost => effects_ite fun _ => effects_next .frontLost
  | .globalBlockBoundary => effects_ite fun _ => effects_next .timers
  | .sweepStart n => effects_ite fun _ => effects_next (.sweepStart n)
  | .driveBlockEnd n => effects_ite fun _ => effects_next (.blockEnd n)
  | .analysisBlockOpen n => execAnalysisBlockOpen_effects n s
  | .analysisBlockComplete n => execAnalysisBlockComplete_effects n s
  | .blockDeparture n => effects_ite fun _ => effects_next (.departure n)
  | .drainComplete n => execDrainComplete_effects n s
  | .reportTaken n => execReportTaken_effects n s
  | .entryDelayExpiry n => effects_ite fun _ => effects_next (.checked n)
  | .retestDelayExpiry n => effects_ite fun _ => effects_next (.checked n)
  | .reportStall n => execReportStall_effects n s
  | .nestStuck n => execNestStuck_effects n s
  | .closeEvent n => execCloseEvent_effects n s
  | .openEvent n => execOpenEvent_effects n s
  | .guardBlockClose => effects_ite fun _ => effects_next .guardClose
  | .tripRecordRemoval => effects_ite fun _ => effects_next (.guardBoundary _ (s.gdm.removeOld_length _))
  | .saturationEnd => effects_ite fun _ => effects_next
      (.guardBoundary _ (by rw [GuardMon.checkSaturation_trips]; exact s.gdm.removeOld_length _))
  | .guardConfigTakeEffect => effects_ite fun _ => effects_next
      (.guardBoundary _ (Nat.le_of_eq (congrArg _ s.gdm.applyConfig_trips)))
  | .tapChange => effects_ite fun _ => effects_next .taps
  | .markerJobStart => execMarkerJobStart_effects s
  | .markerStrobeStart => effects_ite fun _ => effects_next (.marker _ rfl (Nat.le_refl _))
  | .markerGapStart => effects_ite fun _ => effects_next (.marker _ rfl (Nat.le_refl _))
  | .markerJobRemove => execMarkerJobRemove_effects s
  | .markerStall => execMarkerStall_effects s
  | .managementWord w => effects_service ((serviceStep_assemble w s).setSvc (Service.fits_choose _))
  | .upstreamCellEnd => execUpstreamCellEnd_effects s
  | .status tag => effects_arrive .status tag s
  | .writeSegment tag index f => effects_arrive (.writeSegment index f) tag s
  | .readSegment tag index => effects_arrive (.readSegment index) tag s
  | .writeLimitHeader tag set f => effects_arrive (.writeLimitHeader set f) tag s
  | .writeBand tag set index f => effects_arrive (.writeBand set index f) tag s
  | .readLimit tag set selector => effects_arrive (.readLimit set selector) tag s
  | .writeBinmap tag first count es => effects_arrive (.writeBinmap first count es) tag s
  | .readBinmap tag first count => effects_arrive (.readBinmap first count) tag s
  | .writeNest tag nest f => effects_arrive (.writeNest nest f) tag s
  | .readNest tag nest => effects_arrive (.readNest nest) tag s
  | .writeLine tag f => effects_arrive (.writeLine f) tag s
  | .readLine tag => effects_arrive .readLine tag s
  | .lotOpen tag f => effects_arrive (.lotOpen f) tag s
  | .lotClose tag => effects_arrive .lotClose tag s
  | .lotAbort tag => effects_arrive .lotAbort tag s
  | .nestStart tag nest => effects_arrive (.nestStart nest) tag s
  | .nestEnable tag nest => effects_arrive (.nestEnable nest) tag s
  | .nestDisable tag nest => effects_arrive (.nestDisable nest) tag s
  | .releaseTicket tag nest => effects_arrive (.releaseTicket nest) tag s
  | .readTicket tag nest first count => effects_arrive (.readTicket nest first count) tag s
  | .readCounters tag page flags => effects_arrive (.readCounters page flags) tag s
  | .readFaults tag => effects_arrive .readFaults tag s
  | .clearFaults tag flags kinds => effects_arrive (.clearFaults flags kinds) tag s
  | .resumeLine tag => effects_arrive .resumeLine tag s
  | .setTap tag slot source nest => effects_arrive (.setTap slot source nest) tag s
  | .lineReset tag => effects_arrive .lineReset tag s
  | .lineResetAction => execLineResetAction_effects s
  | .unknownRequest type tag payload =>
    effects_service (serviceStep_offerCell _ (serviceStep_takeCell ⟨type, tag, payload⟩ s))

/-- What a step can do: idle on an empty queue, reset at power-on, or one of the effects of the command at the front. -/
theorem step_cases {s t : State} (h : step s = .next t) :
    t = s ∨ (s.pending.head? = some .powerOnReset ∧ ∃ rest, t = powerOn { s with pending := rest }) ∨
      ∃ rest, Effect { s with pending := rest } t := by
  unfold step at h
  split at h
  · cases h
    exact Or.inl rfl
  next c rest hp =>
    by_cases hc : c = .powerOnReset
    · subst hc
      cases h
      exact Or.inr (Or.inl ⟨by rw [hp]; rfl, rest, rfl⟩)
    · exact Or.inr (Or.inr ⟨rest, exec_effects c _ hc t h⟩)

end Sys2Proof.Machine
end

section
/-! PROOFS. What a proposal, drive-ended and the checks of a waiting ticket do to a nest (R97 to R102), and what carries
a ticket along: the test of a ticket goes on, within one attempt and along the disposition order. -/

namespace Sys2Proof.Machine

open Sys2Proof Host

/-! ### Updates that change nothing, and updates of one nest in turn -/

@[simp] theorem State.setNest_same (s : State) (n : NestId) : s.setNest n (s.nest n) = s := by
  simp [State.setNest, State.nest]

@[simp] theorem State.setCtx_same (s : State) (n : NestId) : s.setCtx n (s.ctx n) = s := by
  simp [State.setCtx, State.ctx]

@[simp] theorem State.setNest_setCtx_same (s : State) (n m : NestId) (x : Nest) :
    (s.setNest n x).setCtx m (s.ctx m) = s.setNest n x := (s.setNest n x).setCtx_same m

@[simp] theorem State.setNest_setNest (s : State) (n : NestId) (x y : Nest) :
    (s.setNest n x).setNest n y = s.setNest n y := by
  simp [State.setNest]

/-- An operation on each nest in turn keeps a relation that is reflexive and transitive and that it keeps at each. -/
theorem eachNest_rel {R : State → State → Prop} {f : NestId → State → State} (refl : ∀ s, R s s)
    (trans : ∀ {a b c}, R a b → R b c → R a c) (h : ∀ n s, R s (f n s)) (s : State) : R s (State.eachNest f s) := by
  have run : ∀ (l : List NestId) (s : State), R s (l.foldl (fun s n => f n s) s) := by
    intro l
    induction l with
    | nil => exact refl
    | cons n rest ih => exact fun s => trans (h n s) (ih (f n s))
  unfold State.eachNest
  exact run allNests s

/-! ### A proposal (R99, R100, R102) -/

/-- R102: the proposal is an ABORT of a ticket that waits for its sweep. -/
def Nest.abortsWaiting (x : Nest) (p : Proposal) : Bool :=
  p.disp == .abort && (x.state == .entry || x.state == .retestWait)

/-- R100, R102: the proposal sends a stop request. -/
def Nest.stopsFor (x : Nest) (t : Ticket) (p : Proposal) (early : Bool) : Bool :=
  if x.abortsWaiting p then x.drive == .starting
  else x.state == .sweep && (p.disp == .abort || (p.disp == .reject && (t.take p).disp != t.disp && early))

/-- R99 to R102: the nest after a proposal to its ticket t; `ended` says that the stop request met an ARMED context, which
reports drive-ended at once. -/
def Nest.proposed (x : Nest) (t : Ticket) (p : Proposal) (ended : Bool) : Nest :=
  if x.abortsWaiting p || ended then
    { x.enter .drain 0 with
      drive := if ended then .idle else x.drive, ticket := some { t.take p with lastDriven := none } }
  else { x with ticket := some (t.take p) }

/-- R21: a stop request changes an ARMED or RUNNING context, and ends an ARMED one. -/
theorem stopSweep_eq (n : NestId) (s : State) :
    stopSweep n s =
      if (s.ctx n).state = .armed then driveEnded n none (s.setCtx n (s.ctx n).stop) else s.setCtx n (s.ctx n).stop := rfl

/-- R21, R101: a stop request to an ARMED context of a nest in DRAIN whose sweep is not an old one. -/
theorem stopSweep_armed_drain {n : NestId} {s : State} (ha : (s.ctx n).state = .armed) (hs : (s.nest n).state = .drain)
    (hd : (s.nest n).drive ≠ .running) :
    stopSweep n s = (s.setNest n { s.nest n with
      drive := .idle, ticket := (s.nest n).ticket.map (fun t => { t with lastDriven := none }) }).setCtx n
      (s.ctx n).stop := by
  rw [stopSweep_eq, if_pos ha, driveEnded_drain n none (s.setCtx n (s.ctx n).stop) hs, State.setCtx_nest, if_neg hd]
  rfl

/-- R21, R101: a stop request to an ARMED context of a nest in SWEEP. -/
theorem stopSweep_armed_sweep {n : NestId} {s : State} (ha : (s.ctx n).state = .armed) (hs : (s.nest n).state = .sweep) :
    stopSweep n s = (s.setNest n { (s.nest n).enter .drain 0 with
      drive := .idle, ticket := (s.nest n).ticket.map (fun t => { t with lastDriven := none }) }).setCtx n
      (s.ctx n).stop := by
  rw [stopSweep_eq, if_pos ha, driveEnded_sweep n none (s.setCtx n (s.ctx n).stop) hs]
  rfl

theorem propose_none {n : NestId} (p : Proposal) {s : State} (h : (s.nest n).ticket = none) : propose n p s = s := by
  simp only [propose, h]

section
variable {n : NestId} {t : Ticket} {p : Proposal} {s : State}

/-- R102: an ABORT of a ticket that waits for its sweep. -/
theorem propose_abortsWaiting (h : (s.nest n).ticket = some t) (hw : (s.nest n).abortsWaiting p = true) :
    propose n p s =
      (s.setNest n ((s.nest n).proposed t p
        ((s.nest n).drive == .starting && (s.ctx n).state == .armed))).setCtx n
        (if (s.nest n).drive = .starting then (s.ctx n).stop else s.ctx n) := by
  have hw' : p.disp = .abort ∧ ((s.nest n).state = .entry ∨ (s.nest n).state = .retestWait) := by
    simpa [Nest.abortsWaiting] using hw
  simp only [propose, h, if_pos hw', Nest.proposed, hw, Bool.true_or, if_true]
  by_cases hd : (s.nest n).drive = .starting
  · rw [if_pos hd, if_pos hd, hd]
    by_cases ha : (s.ctx n).state = .armed
    · rw [stopSweep_armed_drain (s := s.setNest n _) ha (by simp [Nest.enter]) (by simp [Nest.enter, hd])]
      simp [ha, Nest.enter]
    · rw [stopSweep_of_not_armed n (s.setNest n _) ha]
      simp [ha, Nest.enter, hd]
  · simp [hd, Nest.enter]

/-- R99, R100: every other proposal, which a nest in SWEEP may answer with a stop request. -/
theorem propose_not_abortsWaiting (h : (s.nest n).ticket = some t) (hw : (s.nest n).abortsWaiting p = false) :
    propose n p s =
      (s.setNest n ((s.nest n).proposed t p
        ((s.nest n).stopsFor t p s.earlyOut && (s.ctx n).state == .armed))).setCtx n
        (if (s.nest n).stopsFor t p s.earlyOut then (s.ctx n).stop else s.ctx n) := by
  have hw' : ¬(p.disp = .abort ∧ ((s.nest n).state = .entry ∨ (s.nest n).state = .retestWait)) := by
    simpa [Nest.abortsWaiting] using hw
  have hstops : (s.nest n).stopsFor t p s.earlyOut = true ↔ (s.nest n).state = .sweep ∧
      (p.disp = .abort ∨ (p.disp = .reject ∧ (t.take p).disp ≠ t.disp ∧ s.earlyOut = true)) := by
    simp [Nest.stopsFor, hw, and_assoc]
  simp only [propose, h, if_neg hw', ← hstops, Nest.proposed, hw, Bool.false_or]
  by_cases hs : (s.nest n).stopsFor t p s.earlyOut = true
  · have hsweep := (hstops.1 hs).1
    rw [hs]
    by_cases ha : (s.ctx n).state = .armed
    · rw [if_pos rfl, stopSweep_armed_sweep (s := s.setNest n _) ha (by simp [hsweep])]
      simp [ha, Nest.enter]
    · rw [if_pos rfl, stopSweep_of_not_armed n (s.setNest n _) ha]
      simp [ha]
  · rw [Bool.not_eq_true] at hs
    simp [hs]

/-- R99 to R102: a proposal replaces the nest and the sweep context of its ticket, and nothing else. -/
theorem propose_eq (p : Proposal) (h : (s.nest n).ticket = some t) :
    propose n p s =
      (s.setNest n ((s.nest n).proposed t p
        ((s.nest n).stopsFor t p s.earlyOut && (s.ctx n).state == .armed))).setCtx n
        (if (s.nest n).stopsFor t p s.earlyOut then (s.ctx n).stop else s.ctx n) := by
  by_cases hw : (s.nest n).abortsWaiting p = true
  · have hstops : (s.nest n).stopsFor t p s.earlyOut = ((s.nest n).drive == .starting) := by simp [Nest.stopsFor, hw]
    rw [propose_abortsWaiting h hw, hstops]
    simp only [beq_iff_eq]
  · exact propose_not_abortsWaiting h (Bool.eq_false_iff.2 hw)

end

/-! ### A ticket goes on within its attempt -/

/-- R99: the ticket goes on within one attempt and along the disposition order, and no proposal but RETEST leaves it at
RETEST. -/
def Ticket.Continues (t u : Ticket) : Prop :=
  u.serial = t.serial ∧ u.attempt = t.attempt ∧ t.disp.mayBecome u.disp = true ∧ (u.disp = .retest → t.disp = .retest)

theorem Disp.mayBecome_refl (d : Disp) : d.mayBecome d = true := by cases d <;> rfl

theorem Disp.mayBecome_trans {a b c : Disp} (h : a.mayBecome b = true) (k : b.mayBecome c = true) :
    a.mayBecome c = true := by
  cases a <;> cases b <;> cases c <;> revert h k <;> decide

theorem Disp.mayBecome_resolve (d p : Disp) : d.mayBecome (d.resolve p) = true := by
  cases d <;> cases p <;> rfl

theorem Disp.resolve_retest {d p : Disp} (hp : p ≠ .retest) (h : d.resolve p = .retest) : d = .retest := by
  cases d <;> cases p <;> simp_all [Disp.resolve]

theorem Ticket.Continues.refl (t : Ticket) : t.Continues t := ⟨rfl, rfl, t.disp.mayBecome_refl, id⟩

theorem Ticket.Continues.trans {t u v : Ticket} (h : t.Continues u) (k : u.Continues v) : t.Continues v := by
  obtain ⟨hs, ha, hd, hr⟩ := h
  obtain ⟨ks, ka, kd, kr⟩ := k
  exact ⟨ks.trans hs, ka.trans ha, Disp.mayBecome_trans hd kd, hr ∘ kr⟩

theorem Ticket.take_spec (t : Ticket) (p : Proposal) :
    (t.take p).serial = t.serial ∧ (t.take p).attempt = t.attempt ∧ (t.take p).disp = t.disp.resolve p.disp := by
  have hd : ∀ d, (t.takeDefect d).serial = t.serial ∧ (t.takeDefect d).attempt = t.attempt ∧
      (t.takeDefect d).disp = t.disp := by
    rintro (_ | d) <;> exact ⟨rfl, rfl, rfl⟩
  obtain ⟨h1, h2, h3⟩ := hd p.defect
  simp only [Ticket.take]
  (repeat' split) <;> simp_all

theorem Ticket.continues_take (t : Ticket) {p : Proposal} (hp : p.disp ≠ .retest) : t.Continues (t.take p) := by
  obtain ⟨hs, ha, hd⟩ := t.take_spec p
  refine ⟨hs, ha, ?_, fun h => ?_⟩
  · rw [hd]; exact Disp.mayBecome_resolve _ _
  · rw [hd] at h; exact Disp.resolve_retest hp h

/-- The last driven block and the block judged last do not matter to the disposition. -/
theorem Ticket.continues_of_disp {t u : Ticket} (hs : u.serial = t.serial) (ha : u.attempt = t.attempt)
    (hd : u.disp = t.disp) : t.Continues u :=
  ⟨hs, ha, hd ▸ t.disp.mayBecome_refl, fun h => hd ▸ h⟩

/-! ### A nest carries its ticket -/

/-- The nest keeps its state and ticket, or is under test and goes on with it. -/
def Nest.Carries (x y : Nest) : Prop :=
  (y.state = x.state ∧ y.ticket = x.ticket) ∨
    (x.state.underTest = true ∧ y.state.underTest = true ∧ Option.Rel Ticket.Continues x.ticket y.ticket)

/-- Every nest carries its ticket. -/
def State.Carries (s t : State) : Prop := ∀ n, (s.nest n).Carries (t.nest n)

theorem Nest.Carries.refl (x : Nest) : x.Carries x := Or.inl ⟨rfl, rfl⟩

theorem rel_continues_refl (a : Option Ticket) : Option.Rel Ticket.Continues a a := by
  cases a with
  | none => exact .none
  | some t => exact .some (.refl t)

theorem rel_continues_trans {a b c : Option Ticket} (h : Option.Rel Ticket.Continues a b)
    (k : Option.Rel Ticket.Continues b c) : Option.Rel Ticket.Continues a c := by
  cases h with
  | none => exact k
  | some h => cases k with | some k => exact .some (h.trans k)

theorem Nest.Carries.trans {x y z : Nest} (h : x.Carries y) (k : y.Carries z) : x.Carries z := by
  rcases h with ⟨hs, ht⟩ | ⟨hx, hy, ht⟩
  · rcases k with ⟨ks, kt⟩ | ⟨ky, kz, kt⟩
    · exact Or.inl ⟨ks.trans hs, kt.trans ht⟩
    · exact Or.inr ⟨hs ▸ ky, kz, ht ▸ kt⟩
  · rcases k with ⟨ks, kt⟩ | ⟨ky, kz, kt⟩
    · exact Or.inr ⟨hx, ks ▸ hy, kt ▸ ht⟩
    · exact Or.inr ⟨hx, kz, rel_continues_trans ht kt⟩

theorem rel_continues_isSome {a b : Option Ticket} (h : Option.Rel Ticket.Continues a b) : b.isSome = a.isSome := by
  cases h <;> rfl

theorem rel_continues_some {a : Option Ticket} {u : Ticket} (h : Option.Rel Ticket.Continues a (some u)) :
    ∃ t, a = some t ∧ t.Continues u := by
  cases h with | some h => exact ⟨_, rfl, h⟩

/-- A nest under test stays under test as long as it carries its ticket. -/
theorem Nest.Carries.underTest {x y : Nest} (h : x.Carries y) (hx : x.state.underTest = true) :
    y.state.underTest = true := by
  rcases h with ⟨hs, _⟩ | ⟨_, hy, _⟩
  · rw [hs, hx]
  · exact hy

theorem State.Carries.refl (s : State) : s.Carries s := fun _ => .refl _

theorem State.Carries.trans {s t u : State} (h : s.Carries t) (k : t.Carries u) : s.Carries u := fun n => (h n).trans (k n)

/-- An update of the state that leaves every nest's state and ticket alone. -/
theorem carries_of_same {s t : State} (h : ∀ m, (t.nest m).state = (s.nest m).state ∧ (t.nest m).ticket = (s.nest m).ticket) :
    s.Carries t := fun m => Or.inl (h m)

theorem carries_of_nests {s t : State} (h : ∀ m, t.nest m = s.nest m) : s.Carries t :=
  carries_of_same fun m => by rw [h m]; exact ⟨rfl, rfl⟩

theorem carries_of_tkc {s t : State} (h : t.tkc = s.tkc) : s.Carries t :=
  carries_of_nests fun m => by rw [State.nest, State.nest, h]

/-- An operation on one nest. -/
theorem carries_of_one {s t : State} (n : NestId) (other : ∀ m, m ≠ n → t.nest m = s.nest m)
    (own : (s.nest n).Carries (t.nest n)) : s.Carries t := by
  intro m
  by_cases hm : m = n
  · exact hm ▸ own
  · rw [other m hm]
    exact .refl _

theorem setNest_carries {n : NestId} {x : Nest} {s : State} (h : (s.nest n).Carries x) : s.Carries (s.setNest n x) :=
  carries_of_one n (fun m hm => by simp [hm]) (by rwa [State.setNest_nest_self])

theorem eachNest_carries {f : NestId → State → State} (h : ∀ n (s : State), s.Carries (f n s)) (s : State) :
    s.Carries (State.eachNest f s) :=
  eachNest_rel (R := State.Carries) State.Carries.refl (fun h k => h.trans k) h s

/-! ### The operations that carry every ticket -/

theorem startCheck_nest_state (n : NestId) (s : State) (m : NestId) :
    ((startCheck n s).nest m).state = (s.nest m).state ∧ ((startCheck n s).nest m).ticket = (s.nest m).ticket := by
  by_cases hm : m = n
  · subst hm
    rw [startCheck_nest]
    split <;> exact ⟨rfl, rfl⟩
  · rw [startCheck_nest_other n s hm]
    exact ⟨rfl, rfl⟩

theorem startCheck_carries (n : NestId) (s : State) : s.Carries (startCheck n s) :=
  carries_of_same (startCheck_nest_state n s)

theorem rel_continues_map (x : Option Ticket) {f : Ticket → Ticket} (h : ∀ t : Ticket, t.Continues (f t)) :
    Option.Rel Ticket.Continues x (x.map f) := by
  cases x with
  | none => exact .none
  | some t => exact .some (h t)

theorem driveEnded_carries (n : NestId) (last : Option Nat) (s : State) : s.Carries (driveEnded n last s) := by
  have driven : ∀ t : Ticket, t.Continues { t with lastDriven := last } := fun t => Ticket.continues_of_disp rfl rfl rfl
  have idle : s.Carries (s.setNest n { s.nest n with drive := .idle }) := setNest_carries (Or.inl ⟨rfl, rfl⟩)
  cases hs : (s.nest n).state
  case sweep =>
    rw [driveEnded_sweep n last s hs]
    exact setNest_carries (Or.inr ⟨by rw [hs]; rfl, rfl, rel_continues_map _ driven⟩)
  case drain =>
    rw [driveEnded_drain n last s hs]
    refine setNest_carries ?_
    split
    · exact Or.inl ⟨rfl, rfl⟩
    · exact Or.inr ⟨by rw [hs]; rfl, by dsimp only; rw [hs]; rfl, rel_continues_map _ driven⟩
  case entry => rw [driveEnded_waiting n last s (Or.inl hs)]; exact idle.trans (startCheck_carries n _)
  case retestWait => rw [driveEnded_waiting n last s (Or.inr hs)]; exact idle.trans (startCheck_carries n _)
  all_goals rw [driveEnded_other n last s (by rw [hs]; rfl)]; exact idle

/-- R99 to R102: a proposal other than RETEST to a nest under test. -/
theorem propose_carries {n : NestId} {p : Proposal} {s : State} (hn : (s.nest n).state.underTest = true)
    (hp : p.disp ≠ .retest) : s.Carries (propose n p s) := by
  cases ht : (s.nest n).ticket with
  | none => rw [propose_none p ht]; exact .refl s
  | some t =>
    rw [propose_eq p ht]
    refine (setNest_carries ?_).trans (carries_of_nests fun _ => rfl)
    have took := t.continues_take hp
    rw [Nest.proposed]
    split
    · exact Or.inr ⟨hn, rfl, by rw [ht]; exact .some (took.trans (Ticket.continues_of_disp rfl rfl rfl))⟩
    · exact Or.inr ⟨hn, hn, by rw [ht]; exact .some took⟩

theorem abortTicket_carries {n : NestId} {s : State} (hn : (s.nest n).state.underTest = true) :
    s.Carries (abortTicket n s) := propose_carries hn (by simp)

theorem lotAbortNest_carries (n : NestId) (s : State) : s.Carries (lotAbortNest n s) := by
  unfold lotAbortNest
  split
  next hn => exact abortTicket_carries hn
  next => exact .refl s

theorem frontLostAbort_carries (n : NestId) (s : State) : s.Carries (frontLostAbort n s) := by
  unfold frontLostAbort
  split
  case h_1 hs => exact abortTicket_carries (by rw [hs]; rfl)
  case h_2 hs => exact abortTicket_carries (by rw [hs]; rfl)
  case h_3 hs => exact abortTicket_carries (by rw [hs]; rfl)
  all_goals exact .refl s

theorem loseFront_carries (s : State) : s.Carries (loseFront s) := by
  have raised : ∀ r, s.Carries (raiseFault r (s.setFli { s.fli with lossStamp := none, absentCount := 0 })) :=
    fun r => carries_of_tkc (by simp)
  simp only [loseFront]
  split
  · exact (raised _).trans (eachNest_carries frontLostAbort_carries _)
  · exact raised _

theorem takeLink_carries (before : LinkState) (s : State) : s.Carries (takeLink before s) := by
  unfold takeLink
  split
  · exact State.Carries.trans (t := { s with tkc := { s.tkc with linkView := .locked } })
      (carries_of_nests fun _ => rfl) (eachNest_carries startCheck_carries _)
  all_goals exact carries_of_nests fun _ => rfl

theorem Nest.sense_state (x : Nest) (first : Bool) (raw : Level) :
    (x.sense first raw).state = x.state ∧ (x.sense first raw).ticket = x.ticket := by
  unfold Nest.sense
  split
  · exact ⟨rfl, rfl⟩
  · split <;> exact ⟨rfl, rfl⟩

theorem frameEnd_nest (f : Option UpstreamFrame) (sensors : Byte) (ready : Bool) (s : State) (n : NestId) :
    (frameEnd f sensors ready s).nest n = (s.nest n).sense (!s.tmb.framed) (levelOfBit (sensors.getLsbD n)) := by
  simp [frameEnd, State.nest]

theorem frame_carries (f : Option UpstreamFrame) (sensors : Byte) (ready : Bool) (s : State) :
    s.Carries (takeLink s.fli.link (frameEnd f sensors ready s)) := by
  refine State.Carries.trans (carries_of_same fun m => ?_) (takeLink_carries _ _)
  rw [frameEnd_nest]
  exact Nest.sense_state _ _ _

theorem countTimers_nest (s : State) (n : NestId) : (countTimers s).nest n = (s.nest n).count s.tmb.stamp := by
  simp [countTimers, State.nest]

theorem countTimers_carries (s : State) : s.Carries (countTimers s) :=
  carries_of_same fun m => by rw [countTimers_nest]; exact ⟨rfl, rfl⟩

theorem sweepStarted_carries (n : NestId) (s : State) : s.Carries (sweepStarted n s) := by
  simp only [sweepStarted]
  split
  next h =>
    refine setNest_carries (Or.inr ⟨?_, rfl, ?_⟩)
    · rcases h with h | h <;> rw [h] <;> rfl
    · exact rel_continues_refl _
  next => exact setNest_carries (Or.inl ⟨rfl, rfl⟩)

theorem considerNest_carries (n : NestId) (s : State) : s.Carries (considerNest n s) := by
  unfold considerNest
  split
  · split
    · exact State.Carries.trans (carries_of_tkc (by simp)) (sweepStarted_carries n _)
    · exact .refl s
  · exact .refl s

theorem endSweep_carries (n : NestId) (c : SweepCtx) (s : State) : s.Carries (endSweep n c s) :=
  State.Carries.trans (t := s.setCtx n { c with state := .idle, stopRequested := false })
    (carries_of_nests fun _ => rfl) (driveEnded_carries n _ _)

theorem endBlock_carries (n : NestId) (s : State) : s.Carries (endBlock n s) := by
  simp only [endBlock]
  split
  · exact endSweep_carries n _ s
  · split
    · exact carries_of_tkc (by simp)
    · split
      · exact carries_of_tkc (by simp)
      · exact endSweep_carries n _ s

/-! ### The judgement of a record carries every ticket -/

theorem judgePresence_carries {n : NestId} (h : LimitHeader) (r : BlockRecord) (mark : Mark) {s : State}
    (hn : (s.nest n).state.underTest = true) : s.Carries (judgePresence n h r mark s) := by
  simp only [judgePresence]
  split
  · exact State.Carries.trans (t := s.setTally n _) (carries_of_nests fun _ => rfl) (propose_carries hn (by simp))
  · exact carries_of_nests fun _ => rfl

theorem judgePolarity_carries {n : NestId} (h : LimitHeader) (r : BlockRecord) (mark : Mark) {s : State}
    (hn : (s.nest n).state.underTest = true) : s.Carries (judgePolarity n h r mark s) := by
  simp only [judgePolarity]
  split
  · split
    · exact State.Carries.trans (t := s.setTally n _) (carries_of_nests fun _ => rfl) (propose_carries hn (by simp))
    · exact carries_of_nests fun _ => rfl
  · exact .refl s

theorem rejectCheck_carries {n : NestId} (k : Fin 32) (b : Band) (r : BlockRecord) {s : State} (c : Check)
    (hn : (s.nest n).state.underTest = true) : s.Carries (rejectCheck n k b r s c) := by
  simp only [rejectCheck]
  split
  · exact State.Carries.trans (t := s.setBand n k _) (carries_of_nests fun _ => rfl) (propose_carries hn (by simp))
  · exact .refl s

theorem rejectChecks_carries {n : NestId} (k : Fin 32) (b : Band) (r : BlockRecord) (l : List Check) {s : State}
    (hn : (s.nest n).state.underTest = true) : s.Carries (l.foldl (rejectCheck n k b r) s) := by
  induction l generalizing s with
  | nil => exact .refl s
  | cons c rest ih =>
    have one := rejectCheck_carries k b r c hn
    exact one.trans (ih ((one n).underTest hn))

theorem judgeBand_carries {n : NestId} (k : Fin 32) (b : Band) (r : BlockRecord) {s : State}
    (hn : (s.nest n).state.underTest = true) : s.Carries (judgeBand n k b r s) := by
  have checks : ∀ t, s.Carries ([Check.response, .distortion, .rub].foldl (rejectCheck n k b r) (s.setBand n k t)) :=
    fun t => State.Carries.trans (t := s.setBand n k t) (carries_of_nests fun _ => rfl) (rejectChecks_carries k b r _ hn)
  simp only [judgeBand]
  split
  · exact (checks _).trans (propose_carries ((checks _ n).underTest hn) (by simp))
  · exact checks _

theorem judgeMeasure_carries {n : NestId} (l : LimitSet) (r : BlockRecord) (mark : Mark) {s : State}
    (hn : (s.nest n).state.underTest = true) : s.Carries (judgeMeasure n l r mark s) := by
  simp only [judgeMeasure]
  split
  · exact carries_of_nests fun _ => rfl
  · cases mark
    · exact judgeBand_carries _ _ r hn
    · exact carries_of_nests fun _ => rfl

theorem judgeByType_carries {n : NestId} (l : LimitSet) (r : BlockRecord) (mark : Mark) {s : State}
    (hn : (s.nest n).state.underTest = true) : s.Carries (judgeByType n l r mark s) := by
  have counted : s.Carries (countRecord n mark s) := carries_of_nests fun _ => by simp
  have hc := (counted n).underTest hn
  simp only [judgeByType]
  split
  · exact counted.trans (judgePresence_carries _ r mark hc)
  · exact counted.trans (judgePolarity_carries _ r mark hc)
  · exact counted.trans (judgeMeasure_carries l r mark hc)
  all_goals exact counted

theorem blockJudged_carries (n : NestId) (index : Nat) (s : State) : s.Carries (blockJudged n index s) := by
  simp only [blockJudged]
  split
  next h =>
    have hn : (s.nest n).state.underTest = true := by rcases h with h | h <;> rw [h] <;> rfl
    exact setNest_carries (Or.inr ⟨hn, hn, rel_continues_map _ fun t => Ticket.continues_of_disp rfl rfl rfl⟩)
  next => exact .refl s

theorem judgeRecord_carries (n : NestId) (r : BlockRecord) (s : State) : s.Carries (judgeRecord n r s) := by
  simp only [judgeRecord]
  split
  · split
    next h =>
      have hn : (s.nest n).state.underTest = true := by rcases h with h | h <;> rw [h] <;> rfl
      refine State.Carries.trans ?_ (blockJudged_carries n _ _)
      split
      · exact .refl s
      · exact judgeByType_carries _ r _ hn
    next => exact .refl s
  · exact .refl s

theorem departBlocks_carries (n : NestId) (s : State) : s.Carries (departBlocks n s) := by
  have run : ∀ (g : GuardMon) (l : List BlockRecord) (s : State),
      s.Carries (l.foldl (fun s r => judgeRecord n { r with mark := some (releaseMark g r) } s) s) := by
    intro g l
    induction l with
    | nil => exact .refl
    | cons r rest ih => exact fun s => (judgeRecord_carries n _ s).trans (ih _)
  exact State.Carries.trans (carries_of_nests fun _ => rfl) (run _ _ _)

end Sys2Proof.Machine
end

section
/-! PROOFS. The law of the lot and its tickets (R91, R93, R105, R148, R154): the number of tickets, the operations that
open, close and retire one, the requests of LTC, and O55. -/

namespace Sys2Proof.Machine

open Sys2Proof Host

/-! ### The number of tickets (R154) -/

theorem holders_eq_card (s : State) :
    s.holders = (Finset.univ.filter fun n : NestId => (s.nest n).ticket.isSome = true).card := by
  simp only [State.holders, allNests, ← List.countP_eq_length_filter, List.countP_cons, List.countP_nil,
    Finset.card_filter, Fin.sum_univ_eight]
  omega

theorem holders_congr {s t : State} (h : ∀ n, (t.nest n).ticket.isSome = (s.nest n).ticket.isSome) :
    t.holders = s.holders := by
  simp only [State.holders, h]

/-- A ticket opens in a nest without one. -/
theorem holders_succ {s t : State} (n : NestId) (hs : (s.nest n).ticket = none) (ht : (t.nest n).ticket.isSome = true)
    (other : ∀ m, m ≠ n → t.nest m = s.nest m) : t.holders = s.holders + 1 := by
  have hinsert : (Finset.univ.filter fun m : NestId => (t.nest m).ticket.isSome = true) =
      insert n (Finset.univ.filter fun m : NestId => (s.nest m).ticket.isSome = true) := by
    ext m
    by_cases hm : m = n
    · subst hm; simp [ht]
    · simp [other m hm, hm]
  rw [holders_eq_card, holders_eq_card, hinsert, Finset.card_insert_of_notMem (by simp [hs])]

theorem holders_eq_zero_iff (s : State) : s.holders = 0 ↔ ∀ n, (s.nest n).ticket = none := by
  rw [holders_eq_card, Finset.card_eq_zero, Finset.filter_eq_empty_iff]
  simp [Finset.mem_univ]

/-! ### When the law holds -/

/-- R147 to R151: no ticket stands and the lot is as after a reset. -/
theorem lotLaw_of_reset {s : State} (h : ∀ n, (s.nest n).ticket = none ∧ (s.nest n).state.holdsTicket = false)
    (hltc : s.ltc = LotCtl.reset) : s.lotLaw := by
  have hz := (holders_eq_zero_iff s).2 fun n => (h n).1
  refine ⟨fun n => ?_, by rw [hltc, hz]; rfl, by rw [hltc]; exact iff_of_true rfl rfl, fun _ => hz, ?_, fun n => ?_⟩
  · rw [(h n).1, (h n).2]; rfl
  · rw [hltc]; rintro b ⟨⟩
  · rw [(h n).1]; rfl

/-- The same nests hold tickets, each still sound for its lot, and the lot is the same. -/
theorem lotLaw_of_tickets {s t : State} (h : s.lotLaw) (hltc : t.ltc = s.ltc)
    (hold : ∀ n, (t.nest n).state.holdsTicket = (s.nest n).state.holdsTicket)
    (stays : ∀ n, (t.nest n).ticket.isSome = (s.nest n).ticket.isSome)
    (sound : ∀ n u, (t.nest n).ticket = some u → s.ltc.binding.any u.sound = true) : t.lotLaw := by
  obtain ⟨hticket, hcount, hnone, hno, hlimit, _⟩ := h
  have hh := holders_congr stays
  refine ⟨fun n => ?_, by rw [hltc, hh, hcount], by rw [hltc]; exact hnone, by rw [hltc, hh]; exact hno,
    by rw [hltc]; exact hlimit, fun n => ?_⟩
  · rw [stays, hold]; exact hticket n
  · rw [hltc]
    cases hu : (t.nest n).ticket with
    | none => rfl
    | some u => exact sound n u hu

/-- R93, R105: what the law says of one ticket. -/
theorem lotLaw_sound {s : State} (h : s.lotLaw) {n : NestId} {x : Ticket} (hx : (s.nest n).ticket = some x) :
    ∃ b, s.ltc.binding = some b ∧ 1 ≤ x.attempt ∧ x.attempt ≤ b.attemptLimit ∧ x.disp ≠ .retest := by
  obtain ⟨-, -, -, -, -, hsound⟩ := h
  have hn := hsound n
  rw [hx, Option.all_some, Option.any_eq_true] at hn
  obtain ⟨b, hb, hs⟩ := hn
  simp only [Ticket.sound, Bool.and_eq_true, decide_eq_true_eq, bne_iff_ne] at hs
  exact ⟨b, hb, hs.1.1, hs.1.2, hs.2⟩

theorem sound_of {b : Option Binding} {c : Binding} {u : Ticket} (hb : b = some c) (h1 : 1 ≤ u.attempt)
    (h2 : u.attempt ≤ c.attemptLimit) (h3 : u.disp ≠ .retest) : b.any u.sound = true := by
  simp [hb, Ticket.sound, h1, h2, h3]

theorem NestState.holdsTicket_of_underTest {x : NestState} (h : x.underTest = true) : x.holdsTicket = true :=
  match x, h with
  | .entry, _ => rfl
  | .sweep, _ => rfl
  | .drain, _ => rfl
  | .retestWait, _ => rfl

/-- R91, R99: a nest that carries its ticket keeps it, and keeps it sound. -/
theorem lotLaw_of_carries {s t : State} (h : s.lotLaw) (hc : s.Carries t) (hltc : t.ltc = s.ltc) : t.lotLaw := by
  refine lotLaw_of_tickets h hltc (fun n => ?_) (fun n => ?_) fun n u hu => ?_
  · rcases hc n with ⟨hs, -⟩ | ⟨hx, hy, -⟩
    · rw [hs]
    · rw [NestState.holdsTicket_of_underTest hx, NestState.holdsTicket_of_underTest hy]
  · rcases hc n with ⟨-, ht⟩ | ⟨-, -, ht⟩
    · rw [ht]
    · exact rel_continues_isSome ht
  · rcases hc n with ⟨-, ht⟩ | ⟨-, -, ht⟩
    · obtain ⟨b, hb, h1, h2, h3⟩ := lotLaw_sound h (ht ▸ hu)
      exact sound_of hb h1 h2 h3
    · obtain ⟨x, hx, -, ha, -, hr⟩ := rel_continues_some (hu ▸ ht)
      obtain ⟨b, hb, h1, h2, h3⟩ := lotLaw_sound h hx
      exact sound_of hb (ha ▸ h1) (ha ▸ h2) (h3 ∘ hr)

/-- Every nest keeps its ticket, and holds one by its state as before. -/
theorem lotLaw_of_same {s t : State} (h : s.lotLaw) (hltc : t.ltc = s.ltc)
    (hold : ∀ n, (t.nest n).state.holdsTicket = (s.nest n).state.holdsTicket)
    (same : ∀ n, (t.nest n).ticket = (s.nest n).ticket) : t.lotLaw :=
  lotLaw_of_tickets h hltc hold (fun n => by rw [same]) fun n u hu => by
    obtain ⟨b, hb, h1, h2, h3⟩ := lotLaw_sound h (same n ▸ hu)
    exact sound_of hb h1 h2 h3

theorem lotLaw_of_tkc {s t : State} (h : s.lotLaw) (htkc : t.tkc = s.tkc) (hltc : t.ltc = s.ltc) : t.lotLaw :=
  lotLaw_of_carries h (carries_of_tkc htkc) hltc

/-- A nest that holds a ticket enters another state of one that does. -/
theorem setNest_lotLaw {n : NestId} {x : Nest} {s : State} (h : s.lotLaw)
    (hold : x.state.holdsTicket = (s.nest n).state.holdsTicket) (ht : x.ticket = (s.nest n).ticket) :
    (s.setNest n x).lotLaw := by
  refine lotLaw_of_same h rfl (fun m => ?_) (fun m => ?_) <;> rw [State.setNest_nest] <;> split
  · next e => rw [e, hold]
  · rfl
  · next e => rw [e, ht]
  · rfl

/-! ### Ticket open (R94) -/

theorem openTicket_ltc (n : NestId) (b : Binding) (s : State) : (openTicket n b s).ltc = s.ltc.openTicket b := by
  simp [openTicket]

/-- R94: the nest in which a ticket opens. -/
theorem openTicket_nest_state (n : NestId) (b : Binding) (s : State) :
    ((openTicket n b s).nest n).state = .entry ∧ ((openTicket n b s).nest n).ticket = some (Ticket.opened b) := by
  simp only [openTicket]
  exact ⟨(startCheck_nest_state n _ n).1.trans (by simp [Nest.enter]), (startCheck_nest_state n _ n).2.trans (by simp)⟩

theorem openTicket_lotLaw {n : NestId} {b : Binding} {s : State} (h : s.lotLaw) (hb : s.ltc.binding = some b)
    (hs : (s.nest n).state = .vacant) (hl : s.ltc.line = .opened) : (openTicket n b s).lotLaw := by
  obtain ⟨hticket, hcount, hnone, hno, hlimit, hsound⟩ := h
  obtain ⟨hstate, hnew⟩ := openTicket_nest_state n b s
  have hempty : (s.nest n).ticket = none := by
    have := hticket n
    rw [hs] at this
    exact Option.not_isSome_iff_eq_none.1 (by rw [this]; decide)
  have other : ∀ m, m ≠ n → (openTicket n b s).nest m = s.nest m := fun m hm => openTicket_nest_other n b s hm
  have hholders := holders_succ (t := openTicket n b s) n hempty (by rw [hnew]; rfl) other
  have hltc := openTicket_ltc n b s
  refine ⟨fun m => ?_, ?_, ?_, ?_, ?_, fun m => ?_⟩
  · by_cases hm : m = n
    · subst hm; rw [hstate, hnew]; rfl
    · rw [other m hm]; exact hticket m
  · rw [hltc, hholders, ← hcount]; rfl
  · rw [hltc]; simp [LotCtl.openTicket, hl]
  · rw [hltc]; simp [LotCtl.openTicket, hl, LineState.hasTickets]
  · rw [hltc]; rintro c ⟨⟩; exact hlimit b hb
  · rw [hltc]
    by_cases hm : m = n
    · subst hm
      rw [hnew]
      exact sound_of (c := { b with nextSerial := (b.nextSerial + 1) % 2 ^ 32 }) rfl (Nat.le_refl 1) (hlimit b hb)
        (by simp [Ticket.opened])
    · rw [other m hm]
      have hm' := hsound m
      rwa [hb] at hm'

/-! ### The drain of a lot and the retire of a ticket (R112, R154, R156) -/

/-- R154: the line drains in CLOSING with no ticket left, and otherwise stays. -/
theorem drainCheck_ltc (s : State) : (drainCheck s).ltc = s.ltc ∨
    (s.ltc.line = .closing ∧ s.ltc.ticketCount = 0 ∧ (∃ b, s.ltc.binding = some b) ∧
      (drainCheck s).ltc = { s.ltc.thaw with line := .closed }) := by
  unfold drainCheck
  split
  next b hl hc hb => exact Or.inr ⟨hl, hc, ⟨b, hb⟩, by simp⟩
  next => exact Or.inl rfl

theorem drainCheck_lotLaw {s : State} (h : s.lotLaw) : (drainCheck s).lotLaw := by
  rcases drainCheck_ltc s with hltc | ⟨-, hc, ⟨b, hb⟩, hltc⟩
  · exact lotLaw_of_carries h (carries_of_nests fun _ => by simp) hltc
  · obtain ⟨hticket, hcount, hnone, hno, hlimit, hsound⟩ := h
    have hh : (drainCheck s).holders = s.holders := holders_congr fun n => by simp
    have hz : s.holders = 0 := by rw [← hcount, hc]
    refine ⟨fun n => by simpa using hticket n, ?_, ?_, fun _ => by rw [hh, hz], ?_, fun n => ?_⟩
    · rw [hltc, hh]; exact hcount
    · rw [hltc]; simp [LotCtl.thaw, hb]
    · rw [hltc]; exact hlimit
    · rw [hltc]; simpa [LotCtl.thaw] using hsound n

theorem Nest.retired_state (x : Nest) : x.retired.state.holdsTicket = false ∧ x.retired.ticket = none := by
  refine ⟨?_, rfl⟩
  show (if x.disablePending = true then NestState.disabled else .vacant).holdsTicket = false
  split <;> rfl

theorem retireTicket_lotLaw {n : NestId} {s : State} (h : s.lotLaw) (hn : (s.nest n).state.holdsTicket = true) :
    (retireTicket n s).lotLaw := by
  obtain ⟨hticket, hcount, hnone, hno, hlimit, hsound⟩ := h
  refine drainCheck_lotLaw ?_
  obtain ⟨hstate, hgone⟩ := (s.nest n).retired_state
  have hholders := holders_succ (s := (s.setNest n (s.nest n).retired).setLtc
      { s.ltc with ticketCount := s.ltc.ticketCount - 1 }) (t := s) n (by simpa using hgone) (by rw [hticket, hn])
    (fun m hm => by simp [hm])
  refine ⟨fun m => ?_, ?_, ?_, fun hl => ?_, ?_, fun m => ?_⟩
  · by_cases hm : m = n
    · subst hm; simp [hstate, hgone]
    · simpa [hm] using hticket m
  · simp only [State.setNest_ltc, State.setLtc_ltc] at *
    omega
  · simpa using hnone
  · have hz := hno (by simpa using hl)
    simp only [State.setNest_ltc] at *
    omega
  · simpa using hlimit
  · by_cases hm : m = n
    · subst hm; simp [hgone]
    · simpa [hm] using hsound m

theorem enterUnload_lotLaw {n : NestId} {s : State} (h : s.lotLaw) (hn : (s.nest n).state.holdsTicket = true) :
    (enterUnload n s).lotLaw := by
  have hentered : (s.setNest n ((s.nest n).enter .unload s.tkc.unloadLimit)).lotLaw :=
    setNest_lotLaw h (by rw [hn]; rfl) rfl
  simp only [enterUnload]
  split
  · exact retireTicket_lotLaw hentered (by simp [Nest.enter, NestState.holdsTicket])
  · exact hentered

/-! ### Review and close (R103, R104, R105) -/

/-- R99: a proposal in DRAIN changes the ticket alone. -/
theorem propose_drain {n : NestId} {t : Ticket} {s : State} (p : Proposal) (hs : (s.nest n).state = .drain)
    (ht : (s.nest n).ticket = some t) : propose n p s = s.setNest n { s.nest n with ticket := some (t.take p) } := by
  have hw : (s.nest n).abortsWaiting p = false := by simp [Nest.abortsWaiting, hs]
  have hstops : (s.nest n).stopsFor t p s.earlyOut = false := by simp [Nest.stopsFor, hw, hs]
  rw [propose_eq p ht, hstops]
  simp [Nest.proposed, hw]

/-- R103: what REVIEW proposes for a void band. -/
def Ticket.reviewProposal (t : Ticket) (b : Binding) : Proposal :=
  ⟨if t.attempt < b.attemptLimit then .retest else .reject, .review, .void, none⟩

/-- R103: REVIEW proposes for a void band, and changes the ticket alone. -/
theorem review_eq {n : NestId} {t : Ticket} {s : State} (b : Binding) (hs : (s.nest n).state = .drain)
    (ht : (s.nest n).ticket = some t) : review n b s =
      if (t.disp = .opened ∨ t.disp = .marginal) ∧ s.hasVoidBand n (b.activeSet t.attempt) = true then
        s.setNest n { s.nest n with ticket := some (t.take (t.reviewProposal b)) }
      else s := by
  simp only [review, ht]
  rw [← propose_drain (t.reviewProposal b) hs ht]
  rfl

theorem enterReport_nest (n : NestId) (b : Binding) (t : Ticket) (f : Final) (s : State) :
    (enterReport n b t f s).nest n = { (s.nest n).enter .report s.tkc.reportWait with
      ticket := some { t with final := some f, entry := some (s.binEntry (binIndex b f.cls n t.attempt)) } } := by
  simp [enterReport]

/-- R105: the nest in which a retest starts. -/
theorem startRetest_nest_state (n : NestId) (b : Binding) (t : Ticket) (s : State) :
    ((startRetest n b t s).nest n).state = .retestWait ∧ ((startRetest n b t s).nest n).ticket = some t.retested := by
  simp only [startRetest]
  obtain ⟨hs, ht⟩ := startCheck_nest_state n ((countRetest n (s.setTally n Tally.zero)).setNest n
    { ((countRetest n (s.setTally n Tally.zero)).nest n).enter .retestWait b.retestDelay with ticket := some t.retested }) n
  exact ⟨hs.trans (by simp [Nest.enter]), ht.trans (by simp)⟩

/-- R104: the ticket after CLOSE stands in REPORT with its disposition, or begins a new attempt after RETEST. -/
theorem closeAttempt_ticket {n : NestId} {t : Ticket} {s : State} (b : Binding) (ht : (s.nest n).ticket = some t) :
    ∃ u, ((closeAttempt n b s).nest n).ticket = some u ∧
      ((t.disp ≠ .retest ∧ u.attempt = t.attempt ∧ u.disp = t.disp ∧ ((closeAttempt n b s).nest n).state = .report) ∨
        (t.disp = .retest ∧ u.attempt = t.attempt + 1 ∧ u.disp = .opened ∧
          ((closeAttempt n b s).nest n).state = .retestWait)) := by
  simp only [closeAttempt, ht]
  cases hd : t.disp
  case marginal =>
    exact ⟨_, congrArg Nest.ticket (enterReport_nest n b _ _ s), Or.inl ⟨by decide, rfl, rfl,
      congrArg Nest.state (enterReport_nest n b _ _ s)⟩⟩
  case retest =>
    obtain ⟨hs, hu⟩ := startRetest_nest_state n b t s
    exact ⟨_, hu, Or.inr ⟨rfl, rfl, rfl, hs⟩⟩
  all_goals
    exact ⟨_, congrArg Nest.ticket (enterReport_nest n b _ _ s), Or.inl ⟨by decide, rfl, hd,
      congrArg Nest.state (enterReport_nest n b _ _ s)⟩⟩

/-- The ticket that REVIEW hands to CLOSE: the nest's own, or that with the proposal of a void band. -/
theorem review_ticket {n : NestId} {t : Ticket} {s : State} (b : Binding) (hs : (s.nest n).state = .drain)
    (ht : (s.nest n).ticket = some t) : ∃ u, ((review n b s).nest n).ticket = some u ∧ u.attempt = t.attempt ∧
      (u.disp = t.disp ∨ ((t.disp = .opened ∨ t.disp = .marginal) ∧
        ((t.attempt < b.attemptLimit ∧ u.disp = .retest) ∨ u.disp = .reject))) := by
  rw [review_eq b hs ht]
  split
  next hv =>
    obtain ⟨-, ha, hd⟩ := t.take_spec (t.reviewProposal b)
    refine ⟨_, by rw [State.setNest_nest_self], ha, Or.inr ⟨hv.1, ?_⟩⟩
    rw [hd, Ticket.reviewProposal]
    split
    next hl => left; refine ⟨hl, ?_⟩; rcases hv.1 with h | h <;> rw [h] <;> rfl
    next => right; rcases hv.1 with h | h <;> rw [h] <;> rfl
  next => exact ⟨t, ht, rfl, Or.inl rfl⟩

theorem drainDone_iff (n : NestId) (s : State) : s.drainDone n = true ↔ (s.nest n).state = .drain ∧
    (s.nest n).drive = .idle ∧ ∃ t, (s.nest n).ticket = some t ∧ (t.lastDriven = none ∨ t.lastJudged = t.lastDriven) := by
  simp [State.drainDone, and_assoc, Option.any_eq_true]

theorem drained_lotLaw {n : NestId} {b : Binding} {s : State} (h : s.lotLaw) (hb : s.lot = some b)
    (due : s.drainDone n = true) : (closeAttempt n b (review n b s)).lotLaw := by
  obtain ⟨hstate, -, t, ht, -⟩ := (drainDone_iff n s).1 due
  obtain ⟨c, hc, h1, h2, h3⟩ := lotLaw_sound h ht
  have hcb : c = b := Option.some.inj (hc.symm.trans hb)
  subst hcb
  obtain ⟨u, hu, hua, hud⟩ := review_ticket c hstate ht
  obtain ⟨v, hv, hclose⟩ := closeAttempt_ticket c hu
  have other : ∀ m, m ≠ n → (closeAttempt n c (review n c s)).nest m = s.nest m := fun m hm => by simp [hm]
  have hsound : 1 ≤ v.attempt ∧ v.attempt ≤ c.attemptLimit ∧ v.disp ≠ .retest := by
    rcases hclose with ⟨hne, hva, hvd, -⟩ | ⟨hre, hva, hvd, -⟩
    · exact ⟨by omega, by omega, by rw [hvd]; exact hne⟩
    · have hlt : t.attempt < c.attemptLimit := by
        rcases hud with hud | ⟨-, ⟨hlt, -⟩ | hud⟩
        · exact absurd (hud.symm.trans hre) h3
        · exact hlt
        · rw [hre] at hud; cases hud
      exact ⟨by omega, by omega, by rw [hvd]; decide⟩
  refine lotLaw_of_tickets h (by simp) (fun m => ?_) (fun m => ?_) fun m w hw => ?_
  · by_cases hm : m = n
    · subst hm
      rw [hstate]
      rcases hclose with ⟨-, -, -, hs⟩ | ⟨-, -, -, hs⟩ <;> rw [hs] <;> rfl
    · rw [other m hm]
  · by_cases hm : m = n
    · subst hm; rw [hv, ht]; rfl
    · rw [other m hm]
  · by_cases hm : m = n
    · subst hm
      rw [hv] at hw
      cases hw
      exact sound_of hc hsound.1 hsound.2.1 hsound.2.2
    · rw [other m hm] at hw
      obtain ⟨d, hd, k1, k2, k3⟩ := lotLaw_sound h hw
      exact sound_of hd k1 k2 k3

/-! ### Report-taken, NEST_STUCK and the open event (R106 to R110) -/

/-- R108: all of report-taken before HELD or UNLOAD. -/
def State.reportedOn (s : State) (n : NestId) (b : Binding) (t : Ticket) (f : Final) (e : BinEntry) : State :=
  let tallied := talliedAt f.stage b.tallyPoint
  let s := tallyVerdict n t f e tallied s
  let s := queueReport (reportPayload n t f e tallied (s.tally n)) s
  let s := queueJob n t.serial e s
  updateRun n b t f.disp tallied (s.setNest n { s.nest n with verdict := e.good })

/-- R108: report-taken ends with HELD for a held ticket and with UNLOAD for every other. -/
theorem takeReport_eq (n : NestId) (b : Binding) (t : Ticket) (f : Final) (e : BinEntry) (s : State) :
    takeReport n b t f e s =
      if (s.reportedOn n b t f e).isHeld n t.serial then
        (s.reportedOn n b t f e).setNest n (((s.reportedOn n b t f e).nest n).enter .held 0)
      else enterUnload n (s.reportedOn n b t f e) := rfl

theorem updateRun_nest_state (n : NestId) (b : Binding) (t : Ticket) (disp : FinalDisp) (tallied : Bool) (s : State)
    (m : NestId) : ((updateRun n b t disp tallied s).nest m).state = (s.nest m).state ∧
      ((updateRun n b t disp tallied s).nest m).ticket = (s.nest m).ticket := by
  by_cases hm : m = n
  · subst hm
    simp only [updateRun]
    split <;> simp
  · simp [hm]

theorem reportedOn_carries (n : NestId) (b : Binding) (t : Ticket) (f : Final) (e : BinEntry) (s : State) :
    s.Carries (s.reportedOn n b t f e) := by
  refine State.Carries.trans ?_ (carries_of_same (updateRun_nest_state n b t f.disp _ _))
  refine State.Carries.trans ?_ (setNest_carries (Or.inl ⟨rfl, rfl⟩))
  exact carries_of_tkc (by simp)

theorem reportedOn_ltc (n : NestId) (b : Binding) (t : Ticket) (f : Final) (e : BinEntry) (s : State) :
    (s.reportedOn n b t f e).ltc = s.ltc := by simp [State.reportedOn]

theorem takeReport_lotLaw {n : NestId} {b : Binding} {t : Ticket} {f : Final} {e : BinEntry} {s : State} (h : s.lotLaw)
    (hs : (s.nest n).state = .report) : (takeReport n b t f e s).lotLaw := by
  have hu := lotLaw_of_carries h (reportedOn_carries n b t f e s) (reportedOn_ltc n b t f e s)
  have hstate : ((s.reportedOn n b t f e).nest n).state = .report := by
    rcases reportedOn_carries n b t f e s n with ⟨h1, -⟩ | ⟨h1, -⟩
    · rw [h1, hs]
    · rw [hs] at h1; cases h1
  rw [takeReport_eq]
  split
  · exact setNest_lotLaw hu (by rw [hstate]; rfl) rfl
  · exact enterUnload_lotLaw hu (by rw [hstate]; rfl)

theorem raiseFault_lotLaw (r : FaultRecord) {s : State} (h : s.lotLaw) : (raiseFault r s).lotLaw :=
  lotLaw_of_tkc h (by simp) (by simp)

theorem raiseStuck_lotLaw {n : NestId} (g serial : Nat) {s : State} (h : s.lotLaw) (hs : (s.nest n).state = .unload) :
    (raiseStuck n g serial s).lotLaw := by
  simp only [raiseStuck]
  refine raiseFault_lotLaw _ (setNest_lotLaw h ?_ ?_) <;> split <;> simp [Nest.enter, NestState.holdsTicket, hs]

theorem pullUnit_nest_state (n : NestId) (b : Binding) (t : Ticket) (stage : Stage) (s : State) :
    ∃ f e, ((pullUnit n b t stage s).nest n).state = .report ∧ ((pullUnit n b t stage s).nest n).ticket =
      some { t.take ⟨.abort, stage, .abort, none⟩ with final := some f, entry := some e } := by
  simp only [pullUnit, enterReport_nest]
  exact ⟨_, _, rfl, rfl⟩

theorem pullUnit_lotLaw {n : NestId} (b : Binding) {t : Ticket} (stage : Stage) {s : State} (h : s.lotLaw)
    (hs : (s.nest n).state.holdsTicket = true) (ht : (s.nest n).ticket = some t) : (pullUnit n b t stage s).lotLaw := by
  obtain ⟨f, e, hstate, hticket⟩ := pullUnit_nest_state n b t stage s
  obtain ⟨-, ha, -, hr⟩ := t.continues_take (p := ⟨.abort, stage, .abort, none⟩) (by simp)
  have other : ∀ m, m ≠ n → (pullUnit n b t stage s).nest m = s.nest m := fun m hm => by simp [hm]
  refine lotLaw_of_tickets h (by simp) (fun m => ?_) (fun m => ?_) fun m u hu => ?_
  · by_cases hm : m = n
    · subst hm; rw [hstate, hs]; rfl
    · rw [other m hm]
  · by_cases hm : m = n
    · subst hm; rw [hticket, ht]; rfl
    · rw [other m hm]
  · by_cases hm : m = n
    · subst hm
      rw [hticket] at hu
      cases hu
      obtain ⟨c, hc, h1, h2, h3⟩ := lotLaw_sound h ht
      exact sound_of hc (ha ▸ h1) (ha ▸ h2) (h3 ∘ hr)
    · rw [other m hm] at hu
      obtain ⟨c, hc, h1, h2, h3⟩ := lotLaw_sound h hu
      exact sound_of hc h1 h2 h3

theorem openEffect_lotLaw {n : NestId} {s : State} (h : s.lotLaw) : (openEffect n s).lotLaw := by
  simp only [openEffect]
  split
  case h_1 t b hs ht _ => exact pullUnit_lotLaw b _ h (by rw [hs]; rfl) ht
  case h_2 t b hs ht _ => exact pullUnit_lotLaw b _ h (by rw [hs]; rfl) ht
  case h_3 t b hs ht _ => exact pullUnit_lotLaw b _ h (by rw [hs]; rfl) ht
  case h_4 t b hs ht _ => exact pullUnit_lotLaw b _ h (by rw [hs]; rfl) ht
  case h_5 hs => exact retireTicket_lotLaw h (by rw [hs]; rfl)
  case h_6 => exact h

theorem settled_lotLaw {n : NestId} (level : Level) {s : State} (h : s.lotLaw) :
    (s.setNest n ((s.nest n).settle level)).lotLaw := setNest_lotLaw h rfl rfl

/-! ### The requests that reach the lot or a nest -/

/-- R148: the parameters of a LOT_OPEN allow at least one attempt. -/
theorem lotParamsOf_attemptLimit {f : LotFields} {b : Binding} (h : lotParamsOf f = some b) : 1 ≤ b.attemptLimit := by
  unfold lotParamsOf at h
  split at h
  · split at h
    next hr =>
      cases h
      rw [Bool.and_eq_true, inRange_iff] at hr
      exact_mod_cast hr.1.1
    next => cases h
  · cases h

/-- R150: the validations keep the parameters. -/
theorem checkLot_attemptLimit {f : LotFields} {s : State} {b : Binding} (h : checkLot f s = .ok b) : 1 ≤ b.attemptLimit := by
  unfold checkLot at h
  split at h
  next => cases h
  next p hp =>
    unfold validateLot at h
    split at h
    · cases h
    · (repeat' split at h) <;> cases h
      exact lotParamsOf_attemptLimit (b := p) hp

theorem acceptLot_nest (b : Binding) (s : State) (n : NestId) :
    (acceptLot b s).nest n = { s.nest n with rejectRun := 0 } := by
  simp [acceptLot, State.nest]

theorem acceptLot_ltc (b : Binding) (s : State) : (acceptLot b s).ltc = s.ltc.accept b := rfl

theorem actLotOpen_lotLaw (f : LotFields) {s : State} (h : s.lotLaw) : (actLotOpen f s).2.lotLaw := by
  unfold actLotOpen
  split
  · exact h
  next hno =>
    split
    next => exact h
    next b hb =>
      obtain ⟨hticket, -, -, hz, -, -⟩ := h
      have hempty := (holders_eq_zero_iff s).1 (hz (Bool.eq_false_iff.2 hno))
      have hnone : ∀ n, ((acceptLot b s).nest n).ticket = none := fun n => by rw [acceptLot_nest]; exact hempty n
      have hh := (holders_eq_zero_iff _).2 hnone
      refine ⟨fun n => ?_, hh.symm, by rw [acceptLot_ltc]; simp [LotCtl.accept], fun _ => hh, ?_, fun n => ?_⟩
      · rw [acceptLot_nest]; exact hticket n
      · rw [acceptLot_ltc]; rintro c ⟨⟩; exact checkLot_attemptLimit hb
      · show Option.all _ ((acceptLot b s).nest n).ticket = true
        rw [hnone n]; rfl

/-- R155, R157: a line that can hold tickets goes to CLOSING. -/
theorem closing_lotLaw {s : State} (h : s.lotLaw) (hl : s.ltc.line.hasTickets = true) (aborted : Bool) :
    (s.setLtc { s.ltc with line := .closing, aborted := aborted }).lotLaw := by
  obtain ⟨hticket, hcount, hnone, -, hlimit, hsound⟩ := h
  have hb : s.ltc.binding ≠ none := fun e => by rw [hnone.2 e] at hl; cases hl
  refine ⟨hticket, hcount, ?_, ?_, hlimit, hsound⟩
  · simpa using hb
  · simp [LineState.hasTickets]

theorem actLotClose_lotLaw {s : State} (h : s.lotLaw) : (actLotClose s).2.lotLaw := by
  unfold actLotClose
  split
  next hl => exact drainCheck_lotLaw (closing_lotLaw h (by rw [hl]; rfl) s.ltc.aborted)
  all_goals exact h

theorem actLotAbort_lotLaw {s : State} (h : s.lotLaw) : (actLotAbort s).2.lotLaw := by
  unfold actLotAbort
  split
  next hl =>
    have hmarked : (s.setLtc { s.ltc with aborted := true }).lotLaw := h
    have heach := lotLaw_of_carries hmarked (eachNest_carries lotAbortNest_carries _) (by simp)
    refine drainCheck_lotLaw (closing_lotLaw heach ?_ _)
    simpa using hl
  · exact h

theorem actNestStart_lotLaw (nest : Byte) {s : State} (h : s.lotLaw) : (actNestStart nest s).2.lotLaw := by
  unfold actNestStart
  split
  · exact h
  · split
    next b hb =>
      split
      next hopens => exact openTicket_lotLaw h hb hopens.2.1 hopens.2.2
      next => exact h
    next => exact h

theorem Nest.enable_state (x : Nest) : x.enable.state.holdsTicket = x.state.holdsTicket ∧ x.enable.ticket = x.ticket := by
  unfold Nest.enable
  split
  next h => rw [h]; exact ⟨rfl, rfl⟩
  next => split <;> exact ⟨rfl, rfl⟩

theorem Nest.disable_state (x : Nest) : x.disable.state.holdsTicket = x.state.holdsTicket ∧ x.disable.ticket = x.ticket := by
  unfold Nest.disable
  split
  next h => rw [h]; exact ⟨rfl, rfl⟩
  next => split <;> exact ⟨rfl, rfl⟩

theorem actNestEnable_lotLaw (nest : Byte) {s : State} (h : s.lotLaw) : (actNestEnable nest s).2.lotLaw := by
  unfold actNestEnable
  split
  · exact h
  · exact setNest_lotLaw h (Nest.enable_state _).1 (Nest.enable_state _).2

theorem actNestDisable_lotLaw (nest : Byte) {s : State} (h : s.lotLaw) : (actNestDisable nest s).2.lotLaw := by
  unfold actNestDisable
  split
  · exact h
  · exact setNest_lotLaw h (Nest.disable_state _).1 (Nest.disable_state _).2

theorem actWriteNest_lotLaw (nest : Byte) (f : NestFields) {s : State} (h : s.lotLaw) :
    (actWriteNest nest f s).2.lotLaw := by
  unfold actWriteNest
  split
  · dsimp only
    split
    · exact h
    · exact setNest_lotLaw h rfl rfl
  · exact h

theorem actReleaseTicket_lotLaw (nest : Byte) {s : State} (h : s.lotLaw) : (actReleaseTicket nest s).2.lotLaw := by
  unfold actReleaseTicket
  split
  · exact h
  · split
    · exact h
    · split
      · dsimp only [releaseNest]
        split
        next hs => exact enterUnload_lotLaw (lotLaw_of_tkc h rfl rfl) (by rw [hs]; rfl)
        next => exact lotLaw_of_tkc h rfl rfl
      · exact h

theorem actWriteLine_lotLaw (f : LineFields) {s : State} (h : s.lotLaw) : (actWriteLine f s).2.lotLaw := by
  unfold actWriteLine
  split <;> exact h

/-- The requests of LTC, of the nests and of the line configuration reach what the law reads; no other does. -/
theorem act_lotLaw (r : Request) {s : State} (h : s.lotLaw) : (act r s).2.lotLaw := by
  cases r
  case lotOpen f => exact actLotOpen_lotLaw f h
  case lotClose => exact actLotClose_lotLaw h
  case lotAbort => exact actLotAbort_lotLaw h
  case nestStart nest => exact actNestStart_lotLaw nest h
  case nestEnable nest => exact actNestEnable_lotLaw nest h
  case nestDisable nest => exact actNestDisable_lotLaw nest h
  case writeNest nest f => exact actWriteNest_lotLaw nest f h
  case writeLine f => exact actWriteLine_lotLaw f h
  case releaseTicket nest => exact actReleaseTicket_lotLaw nest h
  all_goals exact lotLaw_of_tkc h (by simp [act]) (by simp [act])

/-! ### The step -/

theorem serviceStep_lotLaw {s t : State} (step : ServiceStep s t) (h : s.lotLaw) : t.lotLaw := by
  cases step with
  | moved v _ => exact h
  | raised r v w _ _ _ => exact lotLaw_of_tkc h (by simp) (by simp)
  | wrong r v w _ _ _ => exact lotLaw_of_tkc h (by simp) (by simp)
  | acted r v w _ _ => exact lotLaw_of_tkc (act_lotLaw r (s := s.setSvc v) h) rfl rfl

theorem considerNest_ltc (n : NestId) (s : State) : (considerNest n s).ltc = s.ltc := by
  simp only [considerNest, beginSweep]
  (repeat' split) <;> simp

theorem effect_lotLaw {s t : State} (effect : Effect s t) (h : s.lotLaw) : t.lotLaw := by
  cases effect with
  | idle => exact h
  | warm => exact lotLaw_of_reset (fun n => by simp [warmReset, powerOn, State.nest, State.reset, Nest.reset, NestState.holdsTicket]) rfl
  | frame f sensors ready => exact lotLaw_of_carries h (frame_carries f sensors ready s) (by simp [frameEnd])
  | frontLost => exact lotLaw_of_carries h (loseFront_carries s) (by simp)
  | timers => exact lotLaw_of_carries h (countTimers_carries s) rfl
  | sweepStart n => exact lotLaw_of_carries h (considerNest_carries n s.markBoundary) (considerNest_ltc n _)
  | blockEnd n => exact lotLaw_of_carries h (endBlock_carries n s.markBoundary) (by simp)
  | analysis n a _ _ => exact h
  | departure n => exact lotLaw_of_carries h (departBlocks_carries n s.markBoundary) (by simp)
  | drained n b hb due => exact drained_lotLaw h hb due
  | reported n b x f e _ hs _ _ _ => exact takeReport_lotLaw h hs
  | checked n => exact lotLaw_of_carries h (startCheck_carries n s) (by simp)
  | reportStall n r _ => exact raiseFault_lotLaw r (setNest_lotLaw h rfl rfl)
  | stuck n g x hs _ => exact raiseStuck_lotLaw g x.serial h hs
  | settled n level => exact settled_lotLaw level h
  | closed n b hb hs hl => exact openTicket_lotLaw (settled_lotLaw .closed h) hb (by simpa [Nest.settle] using hs) hl
  | opened n => exact openEffect_lotLaw (settled_lotLaw .opened h)
  | guardClose => exact lotLaw_of_tkc h (by simp) (by simp)
  | guardBoundary g _ => exact h
  | taps => exact h
  | marker b _ _ => exact h
  | markerStall r _ => exact raiseFault_lotLaw r h
  | service _ step => exact serviceStep_lotLaw step h
  | lineReset =>
    refine lotLaw_of_reset (fun n => ?_) rfl
    have hn : (lineReset s).nest n = (s.nest n).lineReset := by simp [lineReset, State.nest]
    rw [hn]
    refine ⟨rfl, ?_⟩
    show (if (s.nest n).state = .disabled then NestState.disabled else .vacant).holdsTicket = false
    split <;> rfl

theorem powerOn_lotLaw (s : State) : (powerOn s).lotLaw :=
  lotLaw_of_reset (fun n => by simp [powerOn, State.nest, State.reset, Nest.reset, NestState.holdsTicket]) rfl

/-- Settles O55: every effect of a command keeps the law of the lot and its tickets. -/
theorem stepKeepsLotAndTicketLaw : Obligations.StepKeepsLotAndTicketLaw := by
  intro s t h hstep
  rcases step_cases hstep with rfl | ⟨-, rest, rfl⟩ | ⟨rest, effect⟩
  · exact h
  · exact powerOn_lotLaw _
  · exact effect_lotLaw effect h

end Sys2Proof.Machine
end

section
/-! PROOFS. The disposition order within one attempt (R99): where the tickets after a step come from, and O56. -/

namespace Sys2Proof.Machine

open Sys2Proof Host

/-! ### The ticket after a step and the ticket before it -/

/-- R99, R105: the ticket u is a later standing of t: further along the disposition order in the same attempt, or in a
later attempt. -/
def Ticket.Succeeds (t u : Ticket) : Prop :=
  (u.attempt = t.attempt ∧ t.disp.mayBecome u.disp = true) ∨ t.attempt < u.attempt

/-- Every ticket after the step was there before it, in the same nest. -/
def State.Succeeds (s t : State) : Prop :=
  ∀ n u, (t.nest n).ticket = some u → ∃ x, (s.nest n).ticket = some x ∧ x.Succeeds u

theorem Ticket.Succeeds.refl (t : Ticket) : t.Succeeds t := Or.inl ⟨rfl, t.disp.mayBecome_refl⟩

theorem Ticket.Succeeds.trans {t u v : Ticket} (h : t.Succeeds u) (k : u.Succeeds v) : t.Succeeds v := by
  rcases h with ⟨ha, hd⟩ | ha
  · rcases k with ⟨ka, kd⟩ | ka
    · exact Or.inl ⟨ka.trans ha, Disp.mayBecome_trans hd kd⟩
    · exact Or.inr (by omega)
  · rcases k with ⟨ka, -⟩ | ka <;> exact Or.inr (by omega)

theorem State.Succeeds.trans {s t u : State} (h : s.Succeeds t) (k : t.Succeeds u) : s.Succeeds u := by
  intro n z hz
  obtain ⟨y, hy, hyz⟩ := k n z hz
  obtain ⟨x, hx, hxy⟩ := h n y hy
  exact ⟨x, hx, hxy.trans hyz⟩

theorem keepsOrder_of_succeeds {s t : State} (h : s.Succeeds t) : s.keepsOrder t := by
  intro n x y hx hy hattempt
  obtain ⟨z, hz, hsucc⟩ := h n y hy
  obtain rfl : x = z := Option.some.inj (hx.symm.trans hz)
  rcases hsucc with ⟨-, hd⟩ | hlt
  · exact hd
  · omega

/-- A nest keeps its ticket or loses it. -/
theorem succeeds_of_kept {s t : State} (h : ∀ n, (t.nest n).ticket = (s.nest n).ticket ∨ (t.nest n).ticket = none) :
    s.Succeeds t := by
  intro n u hu
  rcases h n with he | he
  · exact ⟨u, he ▸ hu, .refl u⟩
  · rw [he] at hu; cases hu

theorem succeeds_of_empty {s t : State} (h : ∀ n, (t.nest n).ticket = none) : s.Succeeds t :=
  succeeds_of_kept fun n => Or.inr (h n)

theorem succeeds_of_nests {s t : State} (h : ∀ n, (t.nest n).ticket = (s.nest n).ticket) : s.Succeeds t :=
  succeeds_of_kept fun n => Or.inl (h n)

theorem succeeds_of_tkc {s t : State} (h : t.tkc = s.tkc) : s.Succeeds t :=
  succeeds_of_nests fun n => by rw [State.nest, State.nest, h]

theorem State.Succeeds.refl (s : State) : s.Succeeds s := succeeds_of_nests fun _ => rfl

theorem succeeds_of_carries {s t : State} (h : s.Carries t) : s.Succeeds t := by
  intro n u hu
  rcases h n with ⟨-, ht⟩ | ⟨-, -, ht⟩
  · exact ⟨u, ht ▸ hu, .refl u⟩
  · obtain ⟨x, hx, -, ha, hd, -⟩ := rel_continues_some (hu ▸ ht)
    exact ⟨x, hx, Or.inl ⟨ha, hd⟩⟩

/-- An operation on one nest. -/
theorem succeeds_of_one {s t : State} (n : NestId) (other : ∀ m, m ≠ n → t.nest m = s.nest m)
    (own : ∀ u, (t.nest n).ticket = some u → ∃ x, (s.nest n).ticket = some x ∧ x.Succeeds u) : s.Succeeds t := by
  intro m u hu
  by_cases hm : m = n
  · subst hm; exact own u hu
  · rw [other m hm] at hu; exact ⟨u, hu, .refl u⟩

theorem setNest_succeeds {n : NestId} {x : Nest} {s : State} (h : x.ticket = (s.nest n).ticket) :
    s.Succeeds (s.setNest n x) :=
  succeeds_of_nests fun m => by
    rw [State.setNest_nest]
    split
    next e => rw [e, h]
    next => rfl

/-! ### The operations on tickets -/

theorem retireTicket_nest_own (n : NestId) (s : State) : (retireTicket n s).nest n = (s.nest n).retired := by
  simp [retireTicket]

theorem retireTicket_succeeds (n : NestId) (s : State) : s.Succeeds (retireTicket n s) :=
  succeeds_of_one n (fun m hm => retireTicket_nest_other n s hm) fun u hu => by
    rw [retireTicket_nest_own, (s.nest n).retired_state.2] at hu
    cases hu

theorem enterUnload_succeeds (n : NestId) (s : State) : s.Succeeds (enterUnload n s) := by
  have entered : s.Succeeds (s.setNest n ((s.nest n).enter .unload s.tkc.unloadLimit)) := setNest_succeeds rfl
  simp only [enterUnload]
  split
  · exact entered.trans (retireTicket_succeeds n _)
  · exact entered

theorem takeReport_succeeds (n : NestId) (b : Binding) (t : Ticket) (f : Final) (e : BinEntry) (s : State) :
    s.Succeeds (takeReport n b t f e s) := by
  have reported := succeeds_of_carries (reportedOn_carries n b t f e s)
  rw [takeReport_eq]
  split
  · exact reported.trans (setNest_succeeds rfl)
  · exact reported.trans (enterUnload_succeeds n _)

theorem raiseStuck_succeeds (n : NestId) (g serial : Nat) (s : State) : s.Succeeds (raiseStuck n g serial s) := by
  have entered : ∀ y : Nest, y.ticket = (s.nest n).ticket → ∀ r, s.Succeeds (raiseFault r (s.setNest n y)) :=
    fun y hy r => (setNest_succeeds hy).trans (succeeds_of_tkc (raiseFault_tkc r _))
  simp only [raiseStuck]
  exact entered _ (by split <;> rfl) _

/-- R101, R103, R104: the ticket of a drained nest stands at its disposition, at that of a void band, or in a new
attempt. -/
theorem drained_succeeds {n : NestId} {b : Binding} {s : State} (due : s.drainDone n = true) :
    s.Succeeds (closeAttempt n b (review n b s)) := by
  obtain ⟨hstate, -, t, ht, -⟩ := (drainDone_iff n s).1 due
  obtain ⟨u, hu, hua, hud⟩ := review_ticket b hstate ht
  obtain ⟨v, hv, hclose⟩ := closeAttempt_ticket b hu
  refine succeeds_of_one n (fun m hm => by simp [hm]) fun w hw => ⟨t, ht, ?_⟩
  obtain rfl : v = w := Option.some.inj (hv.symm.trans hw)
  rcases hclose with ⟨-, hva, hvd, -⟩ | ⟨-, hva, -, -⟩
  · refine Or.inl ⟨hva.trans hua, ?_⟩
    rw [hvd]
    rcases hud with hud | ⟨ht, ⟨-, hud⟩ | hud⟩
    · rw [hud]; exact t.disp.mayBecome_refl
    · rw [hud]; rcases ht with ht | ht <;> rw [ht] <;> rfl
    · rw [hud]; rcases ht with ht | ht <;> rw [ht] <;> rfl
  · exact Or.inr (by omega)

theorem pullUnit_succeeds {n : NestId} (b : Binding) {t : Ticket} (stage : Stage) {s : State}
    (ht : (s.nest n).ticket = some t) : s.Succeeds (pullUnit n b t stage s) := by
  obtain ⟨f, e, -, hticket⟩ := pullUnit_nest_state n b t stage s
  obtain ⟨-, ha, hd, -⟩ := t.continues_take (p := ⟨.abort, stage, .abort, none⟩) (by simp)
  refine succeeds_of_one n (fun m hm => by simp [hm]) fun u hu => ⟨t, ht, ?_⟩
  rw [hticket] at hu
  cases hu
  exact Or.inl ⟨ha, hd⟩

theorem openEffect_succeeds (n : NestId) (s : State) : s.Succeeds (openEffect n s) := by
  simp only [openEffect]
  split
  case h_1 t b _ ht _ => exact pullUnit_succeeds b _ ht
  case h_2 t b _ ht _ => exact pullUnit_succeeds b _ ht
  case h_3 t b _ ht _ => exact pullUnit_succeeds b _ ht
  case h_4 t b _ ht _ => exact pullUnit_succeeds b _ ht
  case h_5 => exact retireTicket_succeeds n s
  case h_6 => exact .refl s

/-- R94: a ticket opens in a nest that holds none. -/
theorem openTicket_keepsOrder {n : NestId} {b : Binding} {s : State} (h : s.ticketLaw) (hs : (s.nest n).state = .vacant) :
    s.keepsOrder (openTicket n b s) := by
  intro m x y hx hy _
  by_cases hm : m = n
  · subst hm
    have := h m
    rw [hs, hx] at this
    cases this
  · rw [openTicket_nest_other n b s hm, hx] at hy
    cases hy
    exact x.disp.mayBecome_refl

/-! ### The requests -/

theorem drainCheck_succeeds (s : State) : s.Succeeds (drainCheck s) := succeeds_of_nests fun n => by simp

theorem actLotOpen_succeeds (f : LotFields) (s : State) : s.Succeeds (actLotOpen f s).2 := by
  unfold actLotOpen
  split
  · exact .refl s
  · split
    · exact .refl s
    · exact succeeds_of_nests fun n => by rw [acceptLot_nest]

theorem actLotAbort_succeeds (s : State) : s.Succeeds (actLotAbort s).2 := by
  unfold actLotAbort
  split
  · have aborted := eachNest_carries lotAbortNest_carries (s.setLtc { s.ltc with aborted := true })
    exact State.Succeeds.trans (succeeds_of_carries aborted)
      (State.Succeeds.trans (succeeds_of_nests fun _ => rfl) (drainCheck_succeeds _))
  · exact .refl s

theorem actLotClose_succeeds (s : State) : s.Succeeds (actLotClose s).2 := by
  unfold actLotClose
  split
  · exact State.Succeeds.trans (succeeds_of_nests fun _ => rfl) (drainCheck_succeeds _)
  all_goals exact .refl s

theorem actNestEnable_succeeds (nest : Byte) (s : State) : s.Succeeds (actNestEnable nest s).2 := by
  unfold actNestEnable
  split
  · exact .refl s
  · exact setNest_succeeds (Nest.enable_state _).2

theorem actNestDisable_succeeds (nest : Byte) (s : State) : s.Succeeds (actNestDisable nest s).2 := by
  unfold actNestDisable
  split
  · exact .refl s
  · exact setNest_succeeds (Nest.disable_state _).2

theorem actWriteNest_succeeds (nest : Byte) (f : NestFields) (s : State) : s.Succeeds (actWriteNest nest f s).2 := by
  unfold actWriteNest
  split
  · dsimp only
    split
    · exact .refl s
    · exact setNest_succeeds rfl
  · exact .refl s

theorem actReleaseTicket_succeeds (nest : Byte) (s : State) : s.Succeeds (actReleaseTicket nest s).2 := by
  unfold actReleaseTicket
  split
  · exact .refl s
  · split
    · exact .refl s
    · split
      · dsimp only [releaseNest]
        split
        · exact State.Succeeds.trans (succeeds_of_nests fun _ => rfl) (enterUnload_succeeds _ _)
        · exact succeeds_of_nests fun _ => rfl
      · exact .refl s

theorem actWriteLine_succeeds (f : LineFields) (s : State) : s.Succeeds (actWriteLine f s).2 := by
  unfold actWriteLine
  split
  · exact succeeds_of_nests fun _ => rfl
  · exact .refl s

theorem actNestStart_keepsOrder (nest : Byte) {s : State} (h : s.ticketLaw) : s.keepsOrder (actNestStart nest s).2 := by
  unfold actNestStart
  split
  · exact keepsOrder_of_succeeds (.refl s)
  · split
    · split
      next hopens => exact openTicket_keepsOrder h hopens.2.1
      next => exact keepsOrder_of_succeeds (.refl s)
    · exact keepsOrder_of_succeeds (.refl s)

/-- NEST_START alone opens a ticket; every other request leaves, advances or retires those that stand. -/
theorem act_keepsOrder (r : Request) {s : State} (h : s.ticketLaw) : s.keepsOrder (act r s).2 := by
  cases r
  case nestStart nest => exact actNestStart_keepsOrder nest h
  case lotOpen f => exact keepsOrder_of_succeeds (actLotOpen_succeeds f s)
  case lotClose => exact keepsOrder_of_succeeds (actLotClose_succeeds s)
  case lotAbort => exact keepsOrder_of_succeeds (actLotAbort_succeeds s)
  case nestEnable nest => exact keepsOrder_of_succeeds (actNestEnable_succeeds nest s)
  case nestDisable nest => exact keepsOrder_of_succeeds (actNestDisable_succeeds nest s)
  case writeNest nest f => exact keepsOrder_of_succeeds (actWriteNest_succeeds nest f s)
  case writeLine f => exact keepsOrder_of_succeeds (actWriteLine_succeeds f s)
  case releaseTicket nest => exact keepsOrder_of_succeeds (actReleaseTicket_succeeds nest s)
  all_goals exact keepsOrder_of_succeeds (succeeds_of_tkc (by simp [act]))

/-! ### The step -/

theorem serviceStep_keepsOrder {s t : State} (step : ServiceStep s t) (h : s.ticketLaw) : s.keepsOrder t := by
  cases step with
  | moved v _ => exact keepsOrder_of_succeeds (.refl s)
  | raised r v w _ _ _ => exact keepsOrder_of_succeeds (succeeds_of_tkc (by simp))
  | wrong r v w _ _ _ => exact keepsOrder_of_succeeds (succeeds_of_tkc (by simp))
  | acted r v w _ _ => exact act_keepsOrder r (s := s.setSvc v) h

theorem effect_keepsOrder {s t : State} (effect : Effect s t) (h : s.ticketLaw) : s.keepsOrder t := by
  have carried : s.Carries t → s.keepsOrder t := fun hc => keepsOrder_of_succeeds (succeeds_of_carries hc)
  cases effect with
  | idle => exact carried (.refl s)
  | warm =>
    exact keepsOrder_of_succeeds (succeeds_of_empty fun n => by
      simp [warmReset, powerOn, State.nest, State.reset, Nest.reset])
  | frame f sensors ready => exact carried (frame_carries f sensors ready s)
  | frontLost => exact carried (loseFront_carries s)
  | timers => exact carried (countTimers_carries s)
  | sweepStart n => exact carried (considerNest_carries n s.markBoundary)
  | blockEnd n => exact carried (endBlock_carries n s.markBoundary)
  | analysis n a _ _ => exact carried (.refl s)
  | departure n => exact carried (departBlocks_carries n s.markBoundary)
  | drained n b _ due => exact keepsOrder_of_succeeds (drained_succeeds due)
  | reported n b x f e _ _ _ _ _ => exact keepsOrder_of_succeeds (takeReport_succeeds n b x f e s)
  | checked n => exact carried (startCheck_carries n s)
  | reportStall n r _ =>
    exact keepsOrder_of_succeeds ((setNest_succeeds (x := { s.nest n with expiry := none }) rfl).trans
      (succeeds_of_tkc (by simp)))
  | stuck n g x _ _ => exact keepsOrder_of_succeeds (raiseStuck_succeeds n g x.serial s)
  | settled n level => exact keepsOrder_of_succeeds (setNest_succeeds rfl)
  | closed n b _ hs _ =>
    have hlaw : (s.setNest n ((s.nest n).settle .closed)).ticketLaw := fun m => by
      rw [State.setNest_nest]
      split
      next e => exact e ▸ h m
      next => exact h m
    intro m x y hx hy
    refine openTicket_keepsOrder hlaw (by simpa [Nest.settle] using hs) m x y ?_ hy
    rw [State.setNest_nest]
    split
    next e => exact e ▸ hx
    next => exact hx
  | opened n =>
    exact keepsOrder_of_succeeds ((setNest_succeeds (x := (s.nest n).settle .opened) rfl).trans (openEffect_succeeds n _))
  | guardClose => exact keepsOrder_of_succeeds (succeeds_of_tkc (by simp))
  | guardBoundary g _ => exact carried (.refl s)
  | taps => exact carried (.refl s)
  | marker b _ _ => exact carried (.refl s)
  | markerStall r _ => exact keepsOrder_of_succeeds (succeeds_of_tkc (by simp))
  | service _ step => exact serviceStep_keepsOrder step h
  | lineReset =>
    exact keepsOrder_of_succeeds (succeeds_of_empty fun n => by simp [lineReset, State.nest, Nest.lineReset])

/-- Settles O56: every effect of a command keeps the disposition order within one attempt. -/
theorem stepKeepsDispositionOrder : Obligations.StepKeepsDispositionOrder := by
  intro s t h hstep
  rcases step_cases hstep with rfl | ⟨-, rest, rfl⟩ | ⟨rest, effect⟩
  · exact keepsOrder_of_succeeds (.refl _)
  · exact keepsOrder_of_succeeds (succeeds_of_empty fun n => by simp [powerOn, State.nest, State.reset, Nest.reset])
  · exact effect_keepsOrder (s := { s with pending := rest }) effect h

end Sys2Proof.Machine
end

section
/-! PROOFS. The laws of the fault log (R163, R167): what an arrival keeps and what it captures, the nests whose ticket
may be held, and O57. -/

namespace Sys2Proof.Machine

open Sys2Proof Host

/-! ### An arrival at the log -/

/-- The log g keeps the held-ticket reference and the first record of f, and the line-stop law when f meets it. -/
def FaultLog.Keeps (f g : FaultLog) : Prop :=
  g.held = f.held ∧ (∀ r, f.first = some r → g.first = some r) ∧
    ((f.lineStop = true → f.armed = false) → g.lineStop = true → g.armed = false)

theorem FaultLog.Keeps.refl (f : FaultLog) : f.Keeps f := ⟨rfl, fun _ h => h, fun h => h⟩

theorem FaultLog.Keeps.trans {f g h : FaultLog} (hfg : f.Keeps g) (hgh : g.Keeps h) : f.Keeps h := by
  obtain ⟨h1, h2, h3⟩ := hfg
  obtain ⟨k1, k2, k3⟩ := hgh
  exact ⟨k1.trans h1, fun r hr => k2 r (h2 r hr), fun hf => k3 (h3 hf)⟩

theorem FaultLog.keeps_of_eq {f g : FaultLog} (h : g = f) : f.Keeps g := h ▸ .refl f

/-- R167: the line stop changes neither the first record nor the held ticket, and leaves no armed stop asserted. -/
theorem FaultLog.stop_keeps (f : FaultLog) (k : FaultKind) : f.Keeps (f.stop k) := by
  unfold FaultLog.stop
  split
  · exact ⟨rfl, fun _ h => h, fun _ _ => rfl⟩
  · exact .refl f

theorem FaultLog.log_keeps (f : FaultLog) (r : FaultRecord) : f.Keeps (f.log r) := by
  unfold FaultLog.log
  split
  next hc =>
    simp only [FaultLog.clean, Bool.and_eq_true, Option.isNone_iff_eq_none] at hc
    exact ⟨rfl, fun r hr => absurd (hc.1.symm.trans hr) nofun, fun h => h⟩
  next => exact ⟨rfl, fun _ h => h, fun h => h⟩

theorem logArrival_keeps {r : FaultRecord} {s : State} (h : captureOf r s = none) : s.flg.Keeps (logArrival r s).flg := by
  have hlog : (logArrival r s).flg = (s.flg.log r).stop r.kind := by simp [logArrival, h]
  rw [hlog]
  exact (s.flg.log_keeps r).trans (FaultLog.stop_keeps _ _)

theorem queueNotice_keeps (type : Byte) (payload : List Byte) (s : State) :
    s.flg.Keeps (queueNotice type payload s).flg := FaultLog.keeps_of_eq (queueNotice_flg type payload s)

/-- R186: a notice that is lost raises NOTICE_OVERFLOW, which captures nothing. -/
theorem offerNotice_keeps (type : Byte) (payload : List Byte) (detail : Half) (stamp : Nat) (s : State) :
    s.flg.Keeps (offerNotice type payload detail stamp s).flg := by
  unfold offerNotice
  split
  · exact queueNotice_keeps type payload s
  · refine (queueNotice_keeps type payload s).trans ?_
    rw [raiseOverflow, queueNotice_flg]
    exact logArrival_keeps rfl

theorem raiseFault_keeps {r : FaultRecord} {s : State} (h : captureOf r s = none) : s.flg.Keeps (raiseFault r s).flg :=
  (logArrival_keeps h).trans (offerNotice_keeps _ _ _ _ _)

/-- R163: a kind that is neither NEST_STUCK nor UNIT_PULLED captures nothing. -/
theorem captureOf_plain {r : FaultRecord} (s : State) (plain : r.kind.captures = false) : captureOf r s = none := by
  unfold captureOf
  split
  · rw [if_neg (by simp [plain])]
  · rfl

theorem raiseFault_plain_keeps {r : FaultRecord} (s : State) (plain : r.kind.captures = false) :
    s.flg.Keeps (raiseFault r s).flg := raiseFault_keeps (captureOf_plain s plain)

/-- R163: the test of a capture reads the log and the nests alone. -/
theorem captureOf_congr {s u : State} (r : FaultRecord) (hf : u.flg = s.flg)
    (hn : ∀ n serial, u.holdsSerial n serial = s.holdsSerial n serial) : captureOf r u = captureOf r s := by
  simp only [captureOf, hf, hn]

/-- R163: a capture finds the log clean, holds the ticket named, and has the arrival as its first record. -/
theorem captureOf_some {r : FaultRecord} {s : State} {c : HeldRef} (h : captureOf r s = some c) :
    r.nest = some c.nest ∧ r.serial = some c.serial ∧ s.flg.clean = true := by
  unfold captureOf at h
  split at h
  next n serial hn hs =>
    split at h
    next hc =>
      cases h
      simp only [Bool.and_eq_true] at hc
      exact ⟨hn, hs, hc.1.1⟩
    next => cases h
  next => cases h

theorem FaultLog.first_of_clean {f : FaultLog} (h : f.clean = true) : f.first = none := by
  rw [FaultLog.clean, Bool.and_eq_true, Option.isNone_iff_eq_none] at h
  exact h.1

theorem raiseFault_captured {r : FaultRecord} {s : State} {c : HeldRef} (h : captureOf r s = some c) :
    (raiseFault r s).flg.held = some c ∧ (raiseFault r s).flg.first = some r ∧
      (s.stopLaw → (raiseFault r s).stopLaw) := by
  have hclean := (captureOf_some h).2.2
  have hlog : (logArrival r s).flg = FaultLog.stop { s.flg with first := some r, held := some c } r.kind := by
    simp [logArrival, h, FaultLog.log, hclean]
  have offered := offerNotice_keeps 65 (faultNoticePayload r s) (BitVec.ofNat 16 r.kind.code) r.stamp (logArrival r s)
  obtain ⟨hheld, hfirst, hstop⟩ :=
    (FaultLog.stop_keeps { s.flg with first := some r, held := some c } r.kind).trans (hlog ▸ offered)
  exact ⟨hheld, hfirst r rfl, hstop⟩

/-! ### When the laws hold -/

/-- R110, R163: the nest holds a ticket with this serial in REPORT or HELD. -/
def State.Holds (s : State) (n : NestId) (serial : Nat) : Prop :=
  ((s.nest n).state = .report ∨ (s.nest n).state = .held) ∧ ∃ t, (s.nest n).ticket = some t ∧ t.serial = serial

/-- R163, R167: the laws of the fault log. -/
def State.FaultLaw (s : State) : Prop := s.heldLaw ∧ s.stopLaw

theorem heldLaw_iff (s : State) : s.heldLaw ↔ ∀ h, s.flg.held = some h →
    s.Holds h.nest h.serial ∧ ∃ r, s.flg.first = some r ∧ r.nest = some h.nest ∧ r.serial = some h.serial := by
  simp only [State.heldLaw, State.Holds]
  cases s.flg.held <;> simp [State.heldSound, Option.any_eq_true, and_assoc]

/-- R163, R174: with no ticket held the first law says nothing. -/
theorem faultLaw_of_none {s : State} (h : s.flg.held = none) (hs : s.stopLaw) : s.FaultLaw :=
  ⟨by rw [State.heldLaw, h]; rfl, hs⟩

/-- The log keeps what it holds and the nest it names keeps its ticket. -/
theorem faultLaw_of_keeps {s t : State} (h : s.FaultLaw) (keeps : s.flg.Keeps t.flg)
    (nests : ∀ c, s.flg.held = some c → s.Holds c.nest c.serial → t.Holds c.nest c.serial) : t.FaultLaw := by
  obtain ⟨hheld, hstop⟩ := h
  obtain ⟨hsame, hfirst, hkept⟩ := keeps
  refine ⟨(heldLaw_iff t).2 fun c hc => ?_, hkept hstop⟩
  obtain ⟨hholds, r, hr, hnest, hserial⟩ := (heldLaw_iff s).1 hheld c (hsame ▸ hc)
  exact ⟨nests c (hsame ▸ hc) hholds, r, hfirst r hr, hnest, hserial⟩

theorem holds_congr {s t : State} {n : NestId} {serial : Nat} (hs : (t.nest n).state = (s.nest n).state)
    (ht : (t.nest n).ticket = (s.nest n).ticket) (h : s.Holds n serial) : t.Holds n serial := by
  rw [State.Holds, hs, ht]
  exact h

/-- No nest under test holds back its ticket, so a nest that carries its ticket keeps what is held. -/
theorem faultLaw_of_carries {s t : State} (h : s.FaultLaw) (carries : s.Carries t) (keeps : s.flg.Keeps t.flg) :
    t.FaultLaw :=
  faultLaw_of_keeps h keeps fun c _ hc => by
    rcases carries c.nest with ⟨hs, ht⟩ | ⟨hx, -, -⟩
    · exact holds_congr hs ht hc
    · rcases hc.1 with hs | hs <;> rw [hs] at hx <;> cases hx

theorem faultLaw_of_tkc {s t : State} (h : s.FaultLaw) (htkc : t.tkc = s.tkc) (keeps : s.flg.Keeps t.flg) :
    t.FaultLaw := faultLaw_of_carries h (carries_of_tkc htkc) keeps

/-- An operation on one nest, whose ticket is not held. -/
theorem faultLaw_of_one {s t : State} (n : NestId) (h : s.FaultLaw) (other : ∀ m, m ≠ n → t.nest m = s.nest m)
    (own : ∀ serial, s.Holds n serial → s.flg.held ≠ some ⟨n, serial⟩) (keeps : s.flg.Keeps t.flg) : t.FaultLaw :=
  faultLaw_of_keeps h keeps fun c hc hholds => by
    have hm : c.nest ≠ n := fun e => own c.serial (e ▸ hholds) (by rw [hc, ← e])
    exact holds_congr (by rw [other _ hm]) (by rw [other _ hm]) hholds

/-- R110: only a nest in REPORT or HELD has its ticket held. -/
theorem not_held_of_state {s : State} {n : NestId} (h1 : (s.nest n).state ≠ .report) (h2 : (s.nest n).state ≠ .held)
    (serial : Nat) (h : s.Holds n serial) : s.flg.held ≠ some ⟨n, serial⟩ := by
  rcases h.1 with hs | hs
  · exact absurd hs h1
  · exact absurd hs h2

/-- An update of a nest that keeps its state and ticket. -/
theorem setNest_faultLaw {s : State} {n : NestId} {x : Nest} (h : s.FaultLaw) (hs : x.state = (s.nest n).state)
    (ht : x.ticket = (s.nest n).ticket) : (s.setNest n x).FaultLaw :=
  faultLaw_of_carries h (setNest_carries (Or.inl ⟨hs, ht⟩)) (.refl _)

/-! ### Capturing kinds (R110) -/

/-- R110, R163: an arrival that names the ticket of nest n, which is not held before: either it captures nothing, or the
nest stands in REPORT or HELD with that ticket afterwards. -/
theorem faultLaw_of_raise {r : FaultRecord} {n : NestId} {serial : Nat} {s u t : State} (h : s.FaultLaw)
    (hn : r.nest = some n) (hr : r.serial = some serial) (hflg : u.flg = s.flg) (raised : t.flg = (raiseFault r u).flg)
    (other : ∀ m, m ≠ n → t.nest m = s.nest m) (own : ∀ k, s.Holds n k → s.flg.held ≠ some ⟨n, k⟩)
    (holds : (captureOf r u).isSome = true → t.Holds n serial) : t.FaultLaw := by
  cases hc : captureOf r u with
  | none => exact faultLaw_of_one n h other own (by rw [raised, ← hflg]; exact raiseFault_keeps hc)
  | some c =>
    obtain ⟨cn, cs⟩ := c
    obtain ⟨hcn, hcs, -⟩ := captureOf_some hc
    obtain rfl : n = cn := Option.some.inj (hn.symm.trans hcn)
    obtain rfl : serial = cs := Option.some.inj (hr.symm.trans hcs)
    obtain ⟨hheld, hfirst, hstop⟩ := raiseFault_captured hc
    refine ⟨(heldLaw_iff t).2 fun d hd => ?_, ?_⟩
    · rw [raised, hheld] at hd
      cases hd
      exact ⟨holds (by rw [hc]; rfl), r, raised ▸ hfirst, hn, hr⟩
    · rw [State.stopLaw, raised]
      exact hstop (by rw [State.stopLaw, hflg]; exact h.2)

theorem raiseStuck_faultLaw {n : NestId} (g : Nat) {x : Ticket} {s : State} (h : s.FaultLaw)
    (hs : (s.nest n).state = .unload) (hx : (s.nest n).ticket = some x) : (raiseStuck n g x.serial s).FaultLaw := by
  have hsame : ∀ y : Nest, y.state.holdsTicket = true → y.ticket = some x → ∀ r,
      captureOf r (s.setNest n y) = captureOf r s := fun y hy ht r =>
    captureOf_congr r rfl fun m serial => by
      simp only [State.holdsSerial, State.setNest_nest]
      split
      next e => rw [e, hy, ht, hs, hx]; rfl
      next => rfl
  have raised : ∀ y : Nest, y.state.holdsTicket = true → y.ticket = some x → ∀ r : FaultRecord, r.nest = some n →
      r.serial = some x.serial → (isCaptured r s = true → y.state = .held) →
      (raiseFault r (s.setNest n y)).FaultLaw := fun y hy ht r hn hr hheld =>
    faultLaw_of_raise (u := s.setNest n y) h hn hr rfl rfl (fun m hm => by simp [hm])
      (not_held_of_state (by simp [hs]) (by simp [hs])) fun hc => by
        rw [hsame y hy ht] at hc
        rw [State.Holds, raiseFault_nest, State.setNest_nest_self]
        exact ⟨Or.inr (hheld hc), x, ht, rfl⟩
  simp only [raiseStuck]
  refine raised _ ?_ ?_ _ rfl rfl fun hc => by rw [if_pos hc]; rfl
  · split
    · rfl
    · rw [hs]; rfl
  · split <;> exact hx

/-- R106, R110: what the pull of a unit does to the log. -/
theorem pullUnit_raised (n : NestId) (b : Binding) (t : Ticket) (stage : Stage) (s : State) :
    ∃ u r, u.flg = s.flg ∧ r.nest = some n ∧ r.serial = some t.serial ∧
      (pullUnit n b t stage s).flg = (raiseFault r u).flg := by
  simp only [pullUnit, enterReport_flg, State.setNest_flg]
  refine ⟨_, _, ?_, ?_, ?_, rfl⟩
  · split <;> rfl
  · rfl
  · rfl

theorem pullUnit_faultLaw {n : NestId} (b : Binding) {t : Ticket} (stage : Stage) {s : State} (h : s.FaultLaw)
    (hs : (s.nest n).state.underTest = true) : (pullUnit n b t stage s).FaultLaw := by
  obtain ⟨u, r, hflg, hn, hr, raised⟩ := pullUnit_raised n b t stage s
  obtain ⟨f, e, hstate, hticket⟩ := pullUnit_nest_state n b t stage s
  refine faultLaw_of_raise h hn hr hflg raised (fun m hm => by simp [hm])
    (not_held_of_state (fun e => by rw [e] at hs; cases hs) (fun e => by rw [e] at hs; cases hs)) fun _ => ?_
  exact ⟨Or.inl hstate, _, hticket, (t.take_spec _).1⟩

/-! ### The end of a ticket (R108 to R112) -/

theorem drainCheck_keeps (s : State) : s.flg.Keeps (drainCheck s).flg := by
  unfold drainCheck
  split
  · exact offerNotice_keeps _ _ _ _ (s.setLtc { s.ltc.thaw with line := .closed })
  · exact .refl _

theorem drainCheck_faultLaw {s : State} (h : s.FaultLaw) : (drainCheck s).FaultLaw :=
  faultLaw_of_tkc h (by simp) (drainCheck_keeps s)

theorem retireTicket_keeps (n : NestId) (s : State) : s.flg.Keeps (retireTicket n s).flg := drainCheck_keeps _

theorem enterUnload_keeps (n : NestId) (s : State) : s.flg.Keeps (enterUnload n s).flg := by
  simp only [enterUnload]
  split
  · exact retireTicket_keeps n (s.setNest n ((s.nest n).enter .unload s.tkc.unloadLimit))
  · exact .refl _

theorem retireTicket_faultLaw {n : NestId} {s : State} (h : s.FaultLaw) (hs : (s.nest n).state = .unload) :
    (retireTicket n s).FaultLaw :=
  faultLaw_of_one n h (fun _ hm => retireTicket_nest_other n s hm)
    (not_held_of_state (by simp [hs]) (by simp [hs])) (retireTicket_keeps n s)

/-- R108, R111: a ticket that is not held goes to UNLOAD. -/
theorem enterUnload_faultLaw {n : NestId} {s : State} (h : s.FaultLaw)
    (hfree : ∀ k, s.Holds n k → s.flg.held ≠ some ⟨n, k⟩) : (enterUnload n s).FaultLaw :=
  faultLaw_of_one n h (fun _ hm => enterUnload_nest_other n s hm) hfree (enterUnload_keeps n s)

theorem updateRun_keeps (n : NestId) (b : Binding) (t : Ticket) (disp : FinalDisp) (tallied : Bool) (s : State) :
    s.flg.Keeps (updateRun n b t disp tallied s).flg := by
  simp only [updateRun]
  split
  · exact raiseFault_plain_keeps (s.setNest n _) rfl
  · exact .refl _

theorem reportedOn_keeps (n : NestId) (b : Binding) (t : Ticket) (f : Final) (e : BinEntry) (s : State) :
    s.flg.Keeps (s.reportedOn n b t f e).flg :=
  (FaultLog.keeps_of_eq (by simp)).trans (updateRun_keeps n b t f.disp _ _)

theorem takeReport_faultLaw {n : NestId} (b : Binding) {t : Ticket} (f : Final) (e : BinEntry) {s : State}
    (h : s.FaultLaw) (hs : (s.nest n).state = .report) (ht : (s.nest n).ticket = some t) :
    (takeReport n b t f e s).FaultLaw := by
  have hu := faultLaw_of_carries h (reportedOn_carries n b t f e s) (reportedOn_keeps n b t f e s)
  obtain ⟨hstate, hticket⟩ : ((s.reportedOn n b t f e).nest n).state = .report ∧
      ((s.reportedOn n b t f e).nest n).ticket = some t := by
    rcases reportedOn_carries n b t f e s n with ⟨h1, h2⟩ | ⟨h1, -, -⟩
    · exact ⟨h1.trans hs, h2.trans ht⟩
    · rw [hs] at h1; cases h1
  rw [takeReport_eq]
  generalize s.reportedOn n b t f e = u at hu hstate hticket
  split
  · refine faultLaw_of_keeps hu (.refl _) fun c _ hc => ?_
    by_cases hm : c.nest = n
    · rw [State.Holds, hm, State.setNest_nest_self]
      exact ⟨Or.inr rfl, hm ▸ hc.2⟩
    · exact holds_congr (by simp [hm]) (by simp [hm]) hc
  next hfree =>
    refine enterUnload_faultLaw hu ?_
    rintro k ⟨-, z, hz, hk⟩ hheld
    obtain rfl : t = z := Option.some.inj (hticket.symm.trans hz)
    rw [State.isHeld, hheld, hk] at hfree
    simp at hfree

theorem openEffect_faultLaw {n : NestId} {s : State} (h : s.FaultLaw) : (openEffect n s).FaultLaw := by
  simp only [openEffect]
  split
  case h_1 hs _ _ => exact pullUnit_faultLaw _ _ h (by rw [hs]; rfl)
  case h_2 hs _ _ => exact pullUnit_faultLaw _ _ h (by rw [hs]; rfl)
  case h_3 hs _ _ => exact pullUnit_faultLaw _ _ h (by rw [hs]; rfl)
  case h_4 hs _ _ => exact pullUnit_faultLaw _ _ h (by rw [hs]; rfl)
  case h_5 hs => exact retireTicket_faultLaw h hs
  case h_6 => exact h

theorem drained_faultLaw {n : NestId} {b : Binding} {s : State} (h : s.FaultLaw) (due : s.drainDone n = true) :
    (closeAttempt n b (review n b s)).FaultLaw := by
  have hs := ((drainDone_iff n s).1 due).1
  exact faultLaw_of_one n h (fun m hm => by simp [hm])
    (not_held_of_state (by simp [hs]) (by simp [hs])) (FaultLog.keeps_of_eq (by simp))

theorem openTicket_faultLaw {n : NestId} (b : Binding) {s : State} (h : s.FaultLaw) (hs : (s.nest n).state = .vacant) :
    (openTicket n b s).FaultLaw :=
  faultLaw_of_one n h (fun m hm => openTicket_nest_other n b s hm) (not_held_of_state (by simp [hs]) (by simp [hs]))
    (FaultLog.keeps_of_eq (by simp))

/-! ### The requests -/

/-- R92: NEST_ENABLE and NEST_DISABLE change the state of a nest without a ticket alone. -/
theorem Nest.enable_held (x : Nest) (h : x.state = .report ∨ x.state = .held) :
    x.enable.state = x.state ∧ x.enable.ticket = x.ticket := by
  rcases h with hs | hs <;> simp [Nest.enable, hs, NestState.holdsTicket]

theorem Nest.disable_held (x : Nest) (h : x.state = .report ∨ x.state = .held) :
    x.disable.state = x.state ∧ x.disable.ticket = x.ticket := by
  rcases h with hs | hs <;> simp [Nest.disable, hs, NestState.holdsTicket]

theorem setNest_faultLaw_of_held {s : State} {n : NestId} {x : Nest} (h : s.FaultLaw)
    (own : (s.nest n).state = .report ∨ (s.nest n).state = .held →
      x.state = (s.nest n).state ∧ x.ticket = (s.nest n).ticket) : (s.setNest n x).FaultLaw :=
  faultLaw_of_keeps h (.refl _) fun c _ hc => by
    by_cases hm : c.nest = n
    · obtain ⟨h1, h2⟩ := own (hm ▸ hc.1)
      exact holds_congr (by rw [hm]; simpa using h1) (by rw [hm]; simpa using h2) hc
    · exact holds_congr (by simp [hm]) (by simp [hm]) hc

theorem actLotOpen_faultLaw (f : LotFields) {s : State} (h : s.FaultLaw) : (actLotOpen f s).2.FaultLaw := by
  unfold actLotOpen
  split
  · exact h
  · split
    · exact h
    · exact faultLaw_of_carries h (carries_of_same fun n => by rw [acceptLot_nest]; exact ⟨rfl, rfl⟩)
        (FaultLog.keeps_of_eq (by simp))

theorem actLotClose_faultLaw {s : State} (h : s.FaultLaw) : (actLotClose s).2.FaultLaw := by
  unfold actLotClose
  split
  · exact drainCheck_faultLaw (s := s.setLtc { s.ltc with line := .closing }) h
  all_goals exact h

theorem actLotAbort_faultLaw {s : State} (h : s.FaultLaw) : (actLotAbort s).2.FaultLaw := by
  unfold actLotAbort
  split
  · have aborted : (State.eachNest lotAbortNest (s.setLtc { s.ltc with aborted := true })).FaultLaw :=
      faultLaw_of_carries (s := s.setLtc { s.ltc with aborted := true }) h (eachNest_carries lotAbortNest_carries _)
        (FaultLog.keeps_of_eq (by simp))
    exact drainCheck_faultLaw (s := (State.eachNest lotAbortNest _).setLtc _) aborted
  · exact h

theorem actNestStart_faultLaw (nest : Byte) {s : State} (h : s.FaultLaw) : (actNestStart nest s).2.FaultLaw := by
  unfold actNestStart
  split
  · exact h
  · split
    · split
      next hopens => exact openTicket_faultLaw _ h hopens.2.1
      next => exact h
    · exact h

theorem actNestEnable_faultLaw (nest : Byte) {s : State} (h : s.FaultLaw) : (actNestEnable nest s).2.FaultLaw := by
  unfold actNestEnable
  split
  · exact h
  · exact setNest_faultLaw_of_held h (Nest.enable_held _)

theorem actNestDisable_faultLaw (nest : Byte) {s : State} (h : s.FaultLaw) : (actNestDisable nest s).2.FaultLaw := by
  unfold actNestDisable
  split
  · exact h
  · exact setNest_faultLaw_of_held h (Nest.disable_held _)

theorem actWriteNest_faultLaw (nest : Byte) (f : NestFields) {s : State} (h : s.FaultLaw) :
    (actWriteNest nest f s).2.FaultLaw := by
  unfold actWriteNest
  split
  · dsimp only
    split
    · exact h
    · exact setNest_faultLaw h rfl rfl
  · exact h

theorem actWriteLine_faultLaw (f : LineFields) {s : State} (h : s.FaultLaw) : (actWriteLine f s).2.FaultLaw := by
  unfold actWriteLine
  split
  · exact faultLaw_of_carries h (carries_of_nests fun _ => rfl) ⟨rfl, fun _ hr => hr, fun hf => hf⟩
  · exact h

/-- R171: the reference is cleared before the nest goes on. -/
theorem actReleaseTicket_faultLaw (nest : Byte) {s : State} (h : s.FaultLaw) : (actReleaseTicket nest s).2.FaultLaw := by
  unfold actReleaseTicket
  split
  · exact h
  · split
    · exact h
    · split
      next n _ _ _ _ =>
        have cleared : (s.setFlg { s.flg with held := none }).FaultLaw := faultLaw_of_none rfl h.2
        dsimp only [releaseNest]
        split
        · exact enterUnload_faultLaw cleared fun _ _ => by simp
        · exact cleared
      · exact h

/-- R172: the first record is not cleared while a ticket is held. -/
theorem actClearFaults_faultLaw (flags : Byte) (kinds : Half) {s : State} (h : s.FaultLaw) :
    (actClearFaults flags kinds s).2.FaultLaw := by
  simp only [actClearFaults]
  split
  · exact h
  · split
    · exact h
    next hheld =>
      rw [Bool.and_eq_true, not_and, Bool.not_eq_true, Option.isSome_eq_false_iff, Option.isNone_iff_eq_none] at hheld
      by_cases hf : flags.getLsbD 0 = true
      · exact faultLaw_of_none (hheld hf) h.2
      · exact faultLaw_of_tkc h rfl ⟨rfl, fun r hr => (if_neg hf).trans hr, fun hs => hs⟩

theorem actResumeLine_faultLaw {s : State} (h : s.FaultLaw) : (actResumeLine s).2.FaultLaw :=
  faultLaw_of_tkc h rfl ⟨rfl, fun _ hr => hr, fun _ hs => by
    simp only [actResumeLine, State.setFlg_flg, FaultLog.resume] at hs ⊢
    rw [hs]; rfl⟩

theorem act_faultLaw (r : Request) {s : State} (h : s.FaultLaw) : (act r s).2.FaultLaw := by
  cases r
  case lotOpen f => exact actLotOpen_faultLaw f h
  case lotClose => exact actLotClose_faultLaw h
  case lotAbort => exact actLotAbort_faultLaw h
  case nestStart nest => exact actNestStart_faultLaw nest h
  case nestEnable nest => exact actNestEnable_faultLaw nest h
  case nestDisable nest => exact actNestDisable_faultLaw nest h
  case writeNest nest f => exact actWriteNest_faultLaw nest f h
  case writeLine f => exact actWriteLine_faultLaw f h
  case releaseTicket nest => exact actReleaseTicket_faultLaw nest h
  case clearFaults flags kinds => exact actClearFaults_faultLaw flags kinds h
  case resumeLine => exact actResumeLine_faultLaw h
  all_goals exact faultLaw_of_tkc h (by simp [act]) (FaultLog.keeps_of_eq (by simp [act]))

/-! ### The step -/

theorem serviceStep_faultLaw {s t : State} (step : ServiceStep s t) (h : s.FaultLaw) : t.FaultLaw := by
  cases step with
  | moved v _ => exact h
  | raised r v w plain _ _ =>
    exact faultLaw_of_tkc (s := s.setSvc v) h (by simp) (raiseFault_plain_keeps (s.setSvc v) plain)
  | wrong r v w plain _ _ =>
    exact faultLaw_of_tkc (s := s.setSvc v) h (by simp) (raiseFault_plain_keeps (s.setSvc v) plain)
  | acted r v w _ _ => exact act_faultLaw r (s := s.setSvc v) h

theorem loseFront_keeps (s : State) : s.flg.Keeps (loseFront s).flg := by
  simp only [loseFront]
  split
  · rw [eachNest_frontLostAbort_flg]
    exact raiseFault_plain_keeps (s.setFli _) rfl
  · exact raiseFault_plain_keeps (s.setFli _) rfl

theorem closeGuardBlock_keeps (s : State) : s.flg.Keeps (closeGuardBlock s).flg := by
  simp only [closeGuardBlock]
  (repeat' split)
  · exact raiseFault_plain_keeps (countTrip (s.setGdm _)) rfl
  · exact .refl _
  · exact .refl _

theorem considerNest_flg (n : NestId) (s : State) : (considerNest n s).flg = s.flg := by
  simp only [considerNest, beginSweep]
  (repeat' split) <;> simp

theorem effect_faultLaw {s t : State} (effect : Effect s t) (h : s.FaultLaw) : t.FaultLaw := by
  have carried : s.Carries t → t.flg = s.flg → t.FaultLaw := fun hc hf =>
    faultLaw_of_carries h hc (FaultLog.keeps_of_eq hf)
  cases effect with
  | idle => exact h
  | warm => exact faultLaw_of_none rfl fun hs => by cases hs
  | frame f sensors ready => exact carried (frame_carries f sensors ready s) (by simp [frameEnd])
  | frontLost => exact faultLaw_of_carries h (loseFront_carries s) (loseFront_keeps s)
  | timers => exact carried (countTimers_carries s) rfl
  | sweepStart n => exact carried (considerNest_carries n s.markBoundary) (considerNest_flg n _)
  | blockEnd n => exact carried (endBlock_carries n s.markBoundary) (by simp)
  | analysis n a _ _ => exact h
  | departure n => exact carried (departBlocks_carries n s.markBoundary) (by simp)
  | drained n b _ due => exact drained_faultLaw h due
  | reported n b x f e _ hs hx _ _ => exact takeReport_faultLaw b f e h hs hx
  | checked n => exact carried (startCheck_carries n s) (by simp)
  | reportStall n r plain =>
    exact faultLaw_of_tkc (setNest_faultLaw (x := { s.nest n with expiry := none }) h rfl rfl) (by simp)
      (raiseFault_plain_keeps _ plain)
  | stuck n g x hs hx => exact raiseStuck_faultLaw g h hs hx
  | settled n level => exact setNest_faultLaw h rfl rfl
  | closed n b _ hs _ =>
    exact openTicket_faultLaw b (setNest_faultLaw (x := (s.nest n).settle .closed) h rfl rfl)
      (by simpa [Nest.settle] using hs)
  | opened n => exact openEffect_faultLaw (setNest_faultLaw (x := (s.nest n).settle .opened) h rfl rfl)
  | guardClose => exact faultLaw_of_tkc h (by simp) (closeGuardBlock_keeps s)
  | guardBoundary g _ => exact h
  | taps => exact h
  | marker b _ _ => exact h
  | markerStall r plain =>
    exact faultLaw_of_tkc h (by simp) (raiseFault_plain_keeps (s.setBmu { s.bmu with expiry := none }) plain)
  | service _ step => exact serviceStep_faultLaw step h
  | lineReset => exact faultLaw_of_none rfl fun hs => by cases hs

/-- Settles O57: every effect of a command keeps the laws of the fault log. -/
theorem stepKeepsHeldTicketAndLineStop : Obligations.StepKeepsHeldTicketAndLineStop := by
  intro s t hheld hstop hstep
  have h : s.FaultLaw := ⟨hheld, hstop⟩
  rcases step_cases hstep with rfl | ⟨-, rest, rfl⟩ | ⟨rest, effect⟩
  · exact h
  · exact faultLaw_of_none rfl fun hs => by cases hs
  · exact effect_faultLaw (s := { s with pending := rest }) effect h

end Sys2Proof.Machine
end

section
/-! PROOFS. What the operations on sweeps, tickets and blocks leave in place: the tables, the marker queue, the drive
slots, and the places and level gains of every nest. -/

namespace Sys2Proof.Machine

open Sys2Proof Host

/-! ### Places and gains of a nest -/

/-- R12, R19, R48: the level gain, the history and the pending block queue of a nest lie within their bounds. -/
def State.Bounded (s : State) (n : NestId) : Prop :=
  (s.ctx n).gain ≤ 8388607 ∧ (s.ana n).history.length ≤ 16 ∧ (s.ana n).queue.length ≤ 8

/-- The tables, the marker queue and the drive slots stay, no trip joins the list, and every nest keeps its bounds. -/
structure State.Runs (s t : State) : Prop where
  segments : t.swg.segments = s.swg.segments
  sets : t.jdu.sets = s.jdu.sets
  bmu : t.bmu.binMap = s.bmu.binMap ∧ t.bmu.queue = s.bmu.queue
  driveSlots : t.fli.driveSlots = s.fli.driveSlots
  trips : t.gdm.trips.length ≤ s.gdm.trips.length
  bounded : ∀ n, s.Bounded n → t.Bounded n

theorem State.Runs.refl (s : State) : s.Runs s := ⟨rfl, rfl, ⟨rfl, rfl⟩, rfl, Nat.le_refl _, fun _ h => h⟩

theorem State.Runs.trans {s t u : State} (h : s.Runs t) (k : t.Runs u) : s.Runs u where
  segments := k.segments.trans h.segments
  sets := k.sets.trans h.sets
  bmu := ⟨k.bmu.1.trans h.bmu.1, k.bmu.2.trans h.bmu.2⟩
  driveSlots := k.driveSlots.trans h.driveSlots
  trips := k.trips.trans h.trips
  bounded := fun n hn => k.bounded n (h.bounded n hn)

/-- What the relation reads of a state. -/
def State.plant (s : State) : SweepGen × Judgement × BinMarker × FrontLink × GuardMon × Vector Analysis 8 :=
  (s.swg, s.jdu, s.bmu, s.fli, s.gdm, s.bka)

theorem runs_of_plant {s t : State} (h : t.plant = s.plant) : s.Runs t := by
  simp only [State.plant, Prod.mk.injEq] at h
  obtain ⟨hswg, hjdu, hbmu, hfli, hgdm, hbka⟩ := h
  refine ⟨by rw [hswg], by rw [hjdu], by rw [hbmu]; exact ⟨rfl, rfl⟩, by rw [hfli], by rw [hgdm], fun n hn => ?_⟩
  rw [State.Bounded, State.ctx, State.ana, hswg, hbka]
  exact hn

theorem setNest_runs (s : State) (n : NestId) (x : Nest) : s.Runs (s.setNest n x) := runs_of_plant rfl

theorem setTally_runs (s : State) (n : NestId) (y : Tally) : s.Runs (s.setTally n y) :=
  ⟨rfl, rfl, ⟨rfl, rfl⟩, rfl, Nat.le_refl _, fun _ h => h⟩

theorem setBand_runs (s : State) (n : NestId) (k : Fin 32) (t : BandTally) : s.Runs (s.setBand n k t) :=
  setTally_runs s n _

theorem setCtx_runs (s : State) (n : NestId) {c : SweepCtx} (h : (s.ctx n).gain ≤ 8388607 → c.gain ≤ 8388607) :
    s.Runs (s.setCtx n c) :=
  ⟨rfl, rfl, ⟨rfl, rfl⟩, rfl, Nat.le_refl _, fun m hm => by
    refine ⟨?_, hm.2⟩
    rw [State.setCtx_ctx]
    split
    next e => exact h (e ▸ hm.1)
    next => exact hm.1⟩

theorem setAna_runs (s : State) (n : NestId) {a : Analysis}
    (hh : (s.ana n).history.length ≤ 16 → a.history.length ≤ 16)
    (hq : (s.ana n).queue.length ≤ 8 → a.queue.length ≤ 8) : s.Runs (s.setAna n a) :=
  ⟨rfl, rfl, ⟨rfl, rfl⟩, rfl, Nat.le_refl _, fun m hm => by
    refine ⟨hm.1, ?_⟩
    rw [State.setAna_ana]
    split
    next e => exact ⟨hh (e ▸ hm.2.1), hq (e ▸ hm.2.2)⟩
    next => exact hm.2⟩

theorem setGdm_runs (s : State) {g : GuardMon} (h : g.trips.length ≤ s.gdm.trips.length) : s.Runs (s.setGdm g) :=
  ⟨rfl, rfl, ⟨rfl, rfl⟩, rfl, h, fun _ hn => hn⟩

theorem raiseFault_runs (r : FaultRecord) (s : State) : s.Runs (raiseFault r s) := runs_of_plant (by simp [State.plant])

theorem eachNest_runs {f : NestId → State → State} (h : ∀ n (s : State), s.Runs (f n s)) (s : State) :
    s.Runs (State.eachNest f s) := eachNest_rel (R := State.Runs) .refl (fun h k => h.trans k) h s

/-! ### Sweeps (R12, R15 to R21) -/

theorem greatest_lt (p : Nat → Bool) (k acc : Nat) : greatest p k acc < acc + 2 ^ k := by
  induction k generalizing acc with
  | zero => simp [greatest]
  | succ k ih =>
    have := ih (if p (acc + 2 ^ k) then acc + 2 ^ k else acc)
    rw [greatest, Nat.pow_succ]
    by_cases hp : p (acc + 2 ^ k) = true
    · rw [if_pos hp] at this ⊢; omega
    · rw [if_neg hp] at this ⊢; omega

/-- R12: 23 bits hold every level gain. -/
theorem gainOf_le (level : Int) : gainOf level ≤ 8388607 :=
  Nat.le_of_lt_succ (Nat.lt_of_lt_of_eq (greatest_lt (gainReached (-level).toNat) 23 0) (by norm_num))

/-- R19: the oldest report leaves when a 17th joins. -/
theorem joinHistory_length (h : List DriveReport) (r : DriveReport) : (joinHistory h r).length ≤ 16 := by
  simp only [joinHistory, Config.historyPlaces, List.length_drop, List.length_append, List.length_singleton]
  omega

theorem SweepCtx.stop_gain (c : SweepCtx) : c.stop.gain = c.gain := by
  unfold SweepCtx.stop; split <;> rfl

theorem SweepCtx.begin_gain (c : SweepCtx) (stamp : Nat) : (c.begin stamp).gain ≤ 8388607 := by
  unfold SweepCtx.begin
  dsimp only
  split
  · omega
  · exact gainOf_le _

theorem beginBlock_runs (n : NestId) (c : SweepCtx) (s : State) : s.Runs (beginBlock n c s) :=
  (setCtx_runs s n fun _ => c.begin_gain _).trans
    (setAna_runs (s.setCtx n (c.begin s.tmb.stamp)) n (fun _ => joinHistory_length _ _) fun h => h)

theorem startSweep_runs (n : NestId) (s : State) : s.Runs (startSweep n s) := by
  unfold startSweep
  split
  · exact (setCtx_runs s n (c := { s.ctx n with state := .armed }) fun h => h).trans
      (setAna_runs (s.setCtx n { s.ctx n with state := .armed }) n (a := (s.ana n).start) (fun _ => Nat.zero_le _)
        fun h => h)
  · exact .refl s
  · exact .refl s

theorem startCheck_runs (n : NestId) (s : State) : s.Runs (startCheck n s) := by
  unfold startCheck
  split
  · exact (setNest_runs s n { s.nest n with drive := .starting }).trans (startSweep_runs n _)
  · exact .refl s

theorem driveEnded_runs (n : NestId) (last : Option Nat) (s : State) : s.Runs (driveEnded n last s) := by
  simp only [driveEnded]
  split
  case h_3 => exact (setNest_runs s n { s.nest n with drive := .idle }).trans (startCheck_runs n _)
  case h_4 => exact (setNest_runs s n { s.nest n with drive := .idle }).trans (startCheck_runs n _)
  all_goals exact setNest_runs s n _

theorem sweepStarted_runs (n : NestId) (s : State) : s.Runs (sweepStarted n s) := by
  simp only [sweepStarted]
  split <;> exact setNest_runs s n _

theorem considerNest_runs (n : NestId) (s : State) : s.Runs (considerNest n s) := by
  unfold considerNest
  split
  · split
    · exact (beginBlock_runs n _ s).trans (sweepStarted_runs n _)
    · exact .refl s
  · exact .refl s

theorem endSweep_runs (n : NestId) {c : SweepCtx} {s : State} (h : c.gain = (s.ctx n).gain) : s.Runs (endSweep n c s) :=
  (setCtx_runs s n fun hg => h ▸ hg).trans (driveEnded_runs n c.lastDriven (s.setCtx n _))

theorem endBlock_runs (n : NestId) (s : State) : s.Runs (endBlock n s) := by
  simp only [endBlock]
  split
  · exact endSweep_runs n rfl
  · split
    · exact beginBlock_runs n _ s
    · split
      · exact beginBlock_runs n _ s
      · exact endSweep_runs n rfl

theorem markBoundary_runs {s u : State} (h : s.markBoundary.Runs u) : s.Runs u :=
  State.Runs.trans (t := s.markBoundary) (runs_of_plant rfl) h

/-- R15, R18: a step of SWG at a boundary, which it has then processed for the nest. -/
theorem setProcessed_runs {s u : State} (n : NestId) (h : s.markBoundary.Runs u) : s.Runs (u.setProcessed n) :=
  (markBoundary_runs h).trans ⟨rfl, rfl, ⟨rfl, rfl⟩, rfl, Nat.le_refl _, fun _ h => h⟩

theorem considerNest_svc (n : NestId) (s : State) : (considerNest n s).svc = s.svc := by
  simp only [considerNest, beginSweep]
  (repeat' split) <;> simp

/-! ### Proposals and the judgement of records -/

theorem propose_runs (n : NestId) (p : Proposal) (s : State) : s.Runs (propose n p s) := by
  cases ht : (s.nest n).ticket with
  | none => rw [propose_none p ht]; exact .refl s
  | some t =>
    rw [propose_eq p ht]
    refine (setNest_runs s n _).trans (setCtx_runs (s.setNest n _) n fun h => ?_)
    split
    · rw [SweepCtx.stop_gain]; exact h
    · exact h

theorem lotAbortNest_runs (n : NestId) (s : State) : s.Runs (lotAbortNest n s) := by
  unfold lotAbortNest
  split
  · exact propose_runs n _ s
  · exact .refl s

theorem frontLostAbort_runs (n : NestId) (s : State) : s.Runs (frontLostAbort n s) := by
  unfold frontLostAbort
  split
  case h_1 => exact propose_runs n _ s
  case h_2 => exact propose_runs n _ s
  case h_3 => exact propose_runs n _ s
  all_goals exact .refl s

theorem judgePresence_runs (n : NestId) (h : LimitHeader) (r : BlockRecord) (mark : Mark) (s : State) :
    s.Runs (judgePresence n h r mark s) := by
  simp only [judgePresence]
  split
  · exact (setTally_runs s n _).trans (propose_runs n _ _)
  · exact setTally_runs s n _

theorem judgePolarity_runs (n : NestId) (h : LimitHeader) (r : BlockRecord) (mark : Mark) (s : State) :
    s.Runs (judgePolarity n h r mark s) := by
  simp only [judgePolarity]
  split
  · split
    · exact (setTally_runs s n _).trans (propose_runs n _ _)
    · exact setTally_runs s n _
  · exact .refl s

theorem rejectCheck_runs (n : NestId) (k : Fin 32) (b : Band) (r : BlockRecord) (s : State) (c : Check) :
    s.Runs (rejectCheck n k b r s c) := by
  simp only [rejectCheck]
  split
  · exact (setBand_runs s n k _).trans (propose_runs n _ _)
  · exact .refl s

theorem rejectChecks_runs (n : NestId) (k : Fin 32) (b : Band) (r : BlockRecord) (l : List Check) (s : State) :
    s.Runs (l.foldl (rejectCheck n k b r) s) := by
  induction l generalizing s with
  | nil => exact .refl s
  | cons c rest ih => exact (rejectCheck_runs n k b r s c).trans (ih _)

theorem judgeBand_runs (n : NestId) (k : Fin 32) (b : Band) (r : BlockRecord) (s : State) :
    s.Runs (judgeBand n k b r s) := by
  have checks : ∀ t, s.Runs ([Check.response, .distortion, .rub].foldl (rejectCheck n k b r) (s.setBand n k t)) :=
    fun t => (setBand_runs s n k t).trans (rejectChecks_runs n k b r _ _)
  simp only [judgeBand]
  split
  · exact (checks _).trans (propose_runs n _ _)
  · exact checks _

theorem judgeMeasure_runs (n : NestId) (l : LimitSet) (r : BlockRecord) (mark : Mark) (s : State) :
    s.Runs (judgeMeasure n l r mark s) := by
  simp only [judgeMeasure]
  split
  · exact setTally_runs s n _
  · cases mark
    · exact judgeBand_runs n _ _ r s
    · exact setBand_runs s n _ _

theorem countRecord_runs (n : NestId) (mark : Mark) (s : State) : s.Runs (countRecord n mark s) := by
  cases mark
  · exact setTally_runs s n _
  · exact (setTally_runs s n { s.tally n with void := tallyUp (s.tally n).void }).trans (runs_of_plant rfl)

theorem judgeByType_runs (n : NestId) (l : LimitSet) (r : BlockRecord) (mark : Mark) (s : State) :
    s.Runs (judgeByType n l r mark s) := by
  have counted := countRecord_runs n mark s
  simp only [judgeByType]
  split
  · exact counted.trans (judgePresence_runs n _ r mark _)
  · exact counted.trans (judgePolarity_runs n _ r mark _)
  · exact counted.trans (judgeMeasure_runs n l r mark _)
  all_goals exact counted

theorem blockJudged_runs (n : NestId) (index : Nat) (s : State) : s.Runs (blockJudged n index s) := by
  simp only [blockJudged]
  split
  · exact setNest_runs s n _
  · exact .refl s

theorem judgeRecord_runs (n : NestId) (r : BlockRecord) (s : State) : s.Runs (judgeRecord n r s) := by
  simp only [judgeRecord]
  split
  · split
    · refine State.Runs.trans ?_ (blockJudged_runs n _ _)
      split
      · exact .refl s
      · exact judgeByType_runs n _ r _ s
    · exact .refl s
  · exact .refl s

theorem GuardMon.atBoundary_trips (g : GuardMon) (t : Nat) : (g.atBoundary t).trips.length ≤ g.trips.length := by
  rw [GuardMon.atBoundary, GuardMon.checkSaturation_trips]
  exact (g.applyConfig.removeOld_length t).trans (Nat.le_of_eq (by rw [g.applyConfig_trips]))

theorem departBlocks_runs (n : NestId) (s : State) : s.Runs (departBlocks n s) := by
  have run : ∀ (g : GuardMon) (l : List BlockRecord) (s : State),
      s.Runs (l.foldl (fun s r => judgeRecord n { r with mark := some (releaseMark g r) } s) s) := by
    intro g l
    induction l with
    | nil => exact .refl
    | cons r rest ih => exact fun s => (judgeRecord_runs n _ s).trans (ih _)
  refine State.Runs.trans ?_ (run _ _ _)
  exact (setGdm_runs s (s.gdm.atBoundary_trips _)).trans
    (setAna_runs (s.setGdm _) n (fun h => h) fun h => ((List.dropWhile_sublist _).length_le).trans h)

/-! ### Tickets and lots -/

theorem openTicket_runs (n : NestId) (b : Binding) (s : State) : s.Runs (openTicket n b s) := by
  refine State.Runs.trans ?_ (startCheck_runs n _)
  exact (setTally_runs s n Tally.zero).trans ⟨rfl, rfl, ⟨rfl, rfl⟩, rfl, Nat.le_refl _, fun _ h => h⟩

theorem review_runs (n : NestId) (b : Binding) (s : State) : s.Runs (review n b s) := by
  unfold review
  split
  · exact .refl s
  · split
    · exact propose_runs n _ s
    · exact .refl s

theorem enterReport_runs (n : NestId) (b : Binding) (t : Ticket) (f : Final) (s : State) :
    s.Runs (enterReport n b t f s) := setNest_runs s n _

theorem startRetest_runs (n : NestId) (b : Binding) (t : Ticket) (s : State) : s.Runs (startRetest n b t s) := by
  refine State.Runs.trans ?_ (startCheck_runs n _)
  exact (setTally_runs s n Tally.zero).trans ⟨rfl, rfl, ⟨rfl, rfl⟩, rfl, Nat.le_refl _, fun _ h => h⟩

theorem closeAttempt_runs (n : NestId) (b : Binding) (s : State) : s.Runs (closeAttempt n b s) := by
  unfold closeAttempt
  split
  · exact .refl s
  · split
    case h_3 => exact startRetest_runs n b _ s
    all_goals exact enterReport_runs n b _ _ s

theorem drainCheck_runs (s : State) : s.Runs (drainCheck s) := runs_of_plant (by simp [State.plant])

theorem retireTicket_runs (n : NestId) (s : State) : s.Runs (retireTicket n s) := runs_of_plant (by simp [State.plant])

theorem enterUnload_runs (n : NestId) (s : State) : s.Runs (enterUnload n s) := runs_of_plant (by simp [State.plant])

theorem raiseStuck_runs (n : NestId) (g serial : Nat) (s : State) : s.Runs (raiseStuck n g serial s) :=
  (setNest_runs s n _).trans (raiseFault_runs _ _)

theorem pullUnit_runs (n : NestId) (b : Binding) (t : Ticket) (stage : Stage) (s : State) :
    s.Runs (pullUnit n b t stage s) := by
  have stopped : s.Runs (s.setCtx n (s.ctx n).stop) := setCtx_runs s n fun h => by rw [SweepCtx.stop_gain]; exact h
  have pulled : ∀ (u : State) (r : FaultRecord) (y : Nest), s.Runs u →
      s.Runs ((raiseFault r (u.setAna n (u.ana n).discard)).setNest n y) := fun u r y hu =>
    hu.trans ((setAna_runs u n (a := (u.ana n).discard) (fun h => h) fun _ => Nat.zero_le _).trans
      ((raiseFault_runs r _).trans (setNest_runs _ n y)))
  simp only [pullUnit]
  refine State.Runs.trans (pulled _ _ _ ?_) (enterReport_runs n b _ _ _)
  split
  · exact stopped
  · exact .refl s

theorem openEffect_runs (n : NestId) (s : State) : s.Runs (openEffect n s) := by
  simp only [openEffect]
  split
  case h_5 => exact retireTicket_runs n s
  case h_6 => exact .refl s
  all_goals exact pullUnit_runs n _ _ _ s

theorem loseFront_runs (s : State) : s.Runs (loseFront s) := by
  have raised : ∀ r, s.Runs (raiseFault r (s.setFli { s.fli with lossStamp := none, absentCount := 0 })) := fun r =>
    State.Runs.trans (t := s.setFli { s.fli with lossStamp := none, absentCount := 0 })
      ⟨rfl, rfl, ⟨rfl, rfl⟩, rfl, Nat.le_refl _, fun _ h => h⟩ (raiseFault_runs r _)
  simp only [loseFront]
  split
  · exact (raised _).trans (eachNest_runs frontLostAbort_runs _)
  · exact raised _

theorem takeLink_runs (before : LinkState) (s : State) : s.Runs (takeLink before s) := by
  unfold takeLink
  split
  · exact State.Runs.trans (t := { s with tkc := { s.tkc with linkView := .locked } }) (runs_of_plant rfl)
      (eachNest_runs startCheck_runs _)
  all_goals exact runs_of_plant rfl

/-- R108: report-taken may let a marker job join the queue; the rest stays. -/
theorem takeReport_bmu (n : NestId) (b : Binding) (t : Ticket) (f : Final) (e : BinEntry) (s : State) :
    (takeReport n b t f e s).bmu = (queueJob n t.serial e s).bmu := by
  have reported : (s.reportedOn n b t f e).bmu = (queueJob n t.serial e s).bmu := by
    simp only [State.reportedOn, updateRun_bmu, State.setNest_bmu, queueJob]
    split <;> simp
  rw [takeReport_eq, ← reported]
  split <;> simp

theorem takeReport_plant (n : NestId) (b : Binding) (t : Ticket) (f : Final) (e : BinEntry) (s : State) :
    (takeReport n b t f e s).plant =
      (s.swg, s.jdu, (queueJob n t.serial e s).bmu, s.fli, s.gdm, s.bka) := by
  simp [State.plant, takeReport_bmu]

end Sys2Proof.Machine
end

section
/-! PROOFS. The capacities and the drive range (R13, R19, R48, R54, R125, R180, R182, R186, R187), and O59. -/

namespace Sys2Proof.Machine

open Sys2Proof Host

/-! ### The drive range (R13) -/

/-- R11, R13: a sine value of at most 32,767 scales a gain of at most 8,388,607 into ±8,388,351. -/
theorem driveSample_inRange (p : Word) {g : Nat} (h : g ≤ 8388607) : inDriveRange (driveSample p g) = true := by
  obtain ⟨hlo, hhi⟩ := sineTable_range (phaseIndex p)
  have hg : (g : Int) ≤ 8388607 := by exact_mod_cast h
  have hprod : sineTable (phaseIndex p) * (g : Int) ≤ 32767 * 8388607 :=
    mul_le_mul hhi hg (Int.natCast_nonneg g) (by norm_num)
  refine decide_eq_true ?_
  simp only [driveSample, Config.driveLimit]
  omega

theorem SweepCtx.sample_inRange (c : SweepCtx) (h : c.gain ≤ 8388607) : inDriveRange c.sample = true := by
  unfold SweepCtx.sample
  split
  · exact driveSample_inRange _ h
  · rfl
  · rfl

/-! ### When the laws hold -/

/-- R12, R13 and the capacities: SVC within its places, the marker queue, the trip list, every nest, every drive slot. -/
def State.Capable (s : State) : Prop :=
  s.svc.Within ∧ s.bmu.queue.length ≤ 16 ∧ s.gdm.trips.length ≤ 16 ∧ (∀ n, s.Bounded n) ∧
    ∀ n : NestId, inDriveRange s.fli.driveSlots[n] = true

theorem capable_iff (s : State) : s.Capable ↔ s.capacityLaw ∧ s.driveLaw := by
  simp only [State.Capable, Service.Within, State.Bounded, State.capacityLaw, State.driveLaw]
  constructor
  · rintro ⟨⟨h1, h2, h3, h4⟩, h5, h6, h7, h8⟩
    exact ⟨⟨h1, h2, h3, h4, h5, h6, fun n => (h7 n).2⟩, fun n => ⟨(h7 n).1, h8 n⟩⟩
  · rintro ⟨⟨h1, h2, h3, h4, h5, h6, h7⟩, h8⟩
    exact ⟨⟨h1, h2, h3, h4⟩, h5, h6, fun n => ⟨(h8 n).1, h7 n⟩, fun n => (h8 n).2⟩

theorem capable_of {s t : State} (h : s.Capable) (fits : s.svc.Fits t.svc)
    (queue : s.bmu.queue.length ≤ 16 → t.bmu.queue.length ≤ 16)
    (trips : s.gdm.trips.length ≤ 16 → t.gdm.trips.length ≤ 16) (bounded : ∀ n, s.Bounded n → t.Bounded n)
    (drive : t.fli.driveSlots = s.fli.driveSlots) : t.Capable := by
  obtain ⟨h1, h2, h3, h4, h5⟩ := h
  exact ⟨fits h1, queue h2, trips h3, fun n => bounded n (h4 n), drive ▸ h5⟩

theorem capable_of_runs {s t : State} (h : s.Capable) (runs : s.Runs t) (fits : s.svc.Fits t.svc) : t.Capable :=
  capable_of h fits (fun hq => by rw [runs.bmu.2]; exact hq) (fun ht => runs.trips.trans ht) runs.bounded runs.driveSlots

/-- The operation leaves SVC alone. -/
theorem Service.fits_of_eq {v w : Service} (h : w = v) : v.Fits w := h ▸ v.fits_refl

/-! ### The notice FIFO (R186) and the report FIFO (R187) -/

theorem queueNotice_fits (type : Byte) (payload : List Byte) (s : State) : s.svc.Fits (queueNotice type payload s).svc := by
  rintro ⟨h1, h2, h3, h4⟩
  refine ⟨h1, h2, ?_, h4⟩
  simp only [queueNotice, State.setSvc_svc]
  split
  next hplace =>
    simp only [Config.noticePlaces] at hplace
    simp only [List.length_append, List.length_singleton]
    omega
  next => exact h3

theorem offerNotice_fits (type : Byte) (payload : List Byte) (detail : Half) (stamp : Nat) (s : State) :
    s.svc.Fits (offerNotice type payload detail stamp s).svc := by
  unfold offerNotice
  split
  · exact queueNotice_fits type payload s
  · exact (queueNotice_fits type payload s).trans
      (queueNotice_fits 65 _ (logArrival ⟨.noticeOverflow, stamp, none, none, detail⟩ (queueNotice type payload s)))

theorem raiseFault_fits (r : FaultRecord) {s u : State} (h : u.svc = s.svc) : s.svc.Fits (raiseFault r u).svc := by
  rw [← h]
  exact offerNotice_fits _ _ _ _ (logArrival r u)

theorem drainCheck_fits {s u : State} (h : u.svc = s.svc) : s.svc.Fits (drainCheck u).svc := by
  rw [← h]
  unfold drainCheck
  split
  · exact offerNotice_fits _ _ _ _ (u.setLtc { u.ltc.thaw with line := .closed })
  · exact Service.fits_refl _

theorem retireTicket_fits (n : NestId) {s u : State} (h : u.svc = s.svc) : s.svc.Fits (retireTicket n u).svc :=
  drainCheck_fits h

theorem enterUnload_fits (n : NestId) {s u : State} (h : u.svc = s.svc) : s.svc.Fits (enterUnload n u).svc := by
  simp only [enterUnload]
  split
  · exact retireTicket_fits n h
  · exact Service.fits_of_eq h

theorem updateRun_fits (n : NestId) (b : Binding) (t : Ticket) (disp : FinalDisp) (tallied : Bool) (s : State) :
    s.svc.Fits (updateRun n b t disp tallied s).svc := by
  simp only [updateRun]
  split
  · exact raiseFault_fits _ rfl
  · exact Service.fits_refl _

theorem queueReport_fits (payload : List Byte) {s : State} (h : s.reportsFull = false) :
    s.svc.Fits (queueReport payload s).svc := by
  rintro ⟨h1, h2, h3, h4⟩
  refine ⟨h1, h2, h3, ?_⟩
  have h := of_decide_eq_false h
  simp only [Config.reportPlaces] at h
  simp only [queueReport, State.setSvc_svc, List.length_append, List.length_singleton]
  omega

theorem reportedOn_fits (n : NestId) (b : Binding) (t : Ticket) (f : Final) (e : BinEntry) {s : State}
    (h : s.reportsFull = false) : s.svc.Fits (s.reportedOn n b t f e).svc := by
  have queued : ∀ (payload : List Byte) (u : State), u.svc = s.svc →
      s.svc.Fits (queueJob n t.serial e (queueReport payload u)).svc := fun payload u hu => by
    rw [queueJob_svc, ← hu]
    exact queueReport_fits payload (by rw [State.reportsFull, hu]; exact h)
  exact (queued _ _ (by simp)).trans (updateRun_fits n b t f.disp _ (State.setNest _ n _))

theorem takeReport_fits (n : NestId) (b : Binding) (t : Ticket) (f : Final) (e : BinEntry) {s : State}
    (h : s.reportsFull = false) : s.svc.Fits (takeReport n b t f e s).svc := by
  rw [takeReport_eq]
  split
  · exact reportedOn_fits n b t f e h
  · exact (reportedOn_fits n b t f e h).trans (enterUnload_fits n rfl)

theorem queueJob_queue (n : NestId) (serial : Nat) {e : BinEntry} {s : State} (h : s.markerFull e = false)
    (hq : s.bmu.queue.length ≤ 16) : (queueJob n serial e s).bmu.queue.length ≤ 16 := by
  have h := of_decide_eq_false h
  simp only [Config.markerPlaces] at h
  unfold queueJob
  split
  · exact hq
  · simp only [State.setBmu_bmu, List.length_append, List.length_singleton]
    omega

theorem takeReport_capable {n : NestId} (b : Binding) (t : Ticket) (f : Final) {e : BinEntry} {s : State}
    (h : s.Capable) (reports : s.reportsFull = false) (marker : s.markerFull e = false) :
    (takeReport n b t f e s).Capable :=
  capable_of h (takeReport_fits n b t f e reports)
    (fun hq => by rw [takeReport_bmu]; exact queueJob_queue n t.serial marker hq)
    (fun ht => by rw [takeReport_gdm]; exact ht) (fun m hm => by simpa [State.Bounded] using hm) (by simp)

/-! ### The sensor events, the guard monitor and the loss of the front -/

theorem pullUnit_fits (n : NestId) (b : Binding) (t : Ticket) (stage : Stage) (s : State) :
    s.svc.Fits (pullUnit n b t stage s).svc := by
  simp only [pullUnit, enterReport_svc, State.setNest_svc]
  refine raiseFault_fits _ ?_
  rw [State.setAna_svc]
  split <;> rfl

theorem openEffect_fits (n : NestId) (s : State) : s.svc.Fits (openEffect n s).svc := by
  simp only [openEffect]
  split
  case h_5 => exact retireTicket_fits n rfl
  case h_6 => exact Service.fits_refl _
  all_goals exact pullUnit_fits n _ _ _ s

theorem loseFront_fits (s : State) : s.svc.Fits (loseFront s).svc := by
  simp only [loseFront]
  split
  · rw [eachNest_frontLostAbort_svc]
    exact raiseFault_fits _ rfl
  · exact raiseFault_fits _ rfl

/-- R54: a trip joins a list with a free place alone. -/
theorem GuardMon.offer_trips (g : GuardMon) (h : g.trips.length ≤ 16) : g.offer.trips.length ≤ 16 := by
  unfold GuardMon.offer
  split
  next hplace =>
    simp only [Config.tripPlaces] at hplace
    simp only [List.length_append, List.length_singleton]
    omega
  next => exact h

theorem closeGuardBlock_fits (s : State) : s.svc.Fits (closeGuardBlock s).svc := by
  simp only [closeGuardBlock]
  (repeat' split)
  · exact raiseFault_fits _ rfl
  · exact Service.fits_refl _
  · exact Service.fits_refl _

theorem closeGuardBlock_trips {s : State} (h : s.gdm.trips.length ≤ 16) : (closeGuardBlock s).gdm.trips.length ≤ 16 := by
  have offered := GuardMon.offer_trips { s.gdm with closed := true } h
  simp only [closeGuardBlock]
  (repeat' split)
  · simpa using offered
  · simpa using offered
  · exact h

/-! ### The requests -/

theorem actLotClose_fits (s : State) : s.svc.Fits (actLotClose s).2.svc := by
  unfold actLotClose
  split
  · exact drainCheck_fits rfl
  all_goals exact Service.fits_refl _

theorem actLotAbort_fits (s : State) : s.svc.Fits (actLotAbort s).2.svc := by
  unfold actLotAbort
  split
  · exact drainCheck_fits (by simp)
  · exact Service.fits_refl _

theorem actReleaseTicket_fits (nest : Byte) (s : State) : s.svc.Fits (actReleaseTicket nest s).2.svc := by
  unfold actReleaseTicket
  (repeat' split)
  case' isTrue =>
    dsimp only [releaseNest]
    split
    · exact enterUnload_fits _ rfl
    · exact Service.fits_refl _
  all_goals exact Service.fits_refl _

theorem act_fits (r : Request) (s : State) : s.svc.Fits (act r s).2.svc := by
  cases r
  case lotClose => exact actLotClose_fits s
  case lotAbort => exact actLotAbort_fits s
  case releaseTicket nest => exact actReleaseTicket_fits nest s
  case writeLine f => exact Service.fits_of_eq (by simp only [act, actWriteLine]; split <;> rfl)
  all_goals exact Service.fits_of_eq (by simp [act])

theorem actLotOpen_runs (f : LotFields) (s : State) : s.Runs (actLotOpen f s).2 := by
  unfold actLotOpen
  split
  · exact .refl s
  · split
    · exact .refl s
    · exact ⟨rfl, rfl, ⟨rfl, rfl⟩, rfl, Nat.le_refl _, fun _ h => h⟩

theorem actLotAbort_runs (s : State) : s.Runs (actLotAbort s).2 := by
  unfold actLotAbort
  split
  · have marked : s.Runs (s.setLtc { s.ltc with aborted := true }) := runs_of_plant rfl
    have aborted := marked.trans (eachNest_runs lotAbortNest_runs _)
    refine (aborted.trans ?_).trans (drainCheck_runs (State.setLtc _ _))
    exact runs_of_plant rfl
  · exact .refl s

theorem actNestStart_runs (nest : Byte) (s : State) : s.Runs (actNestStart nest s).2 := by
  unfold actNestStart
  split
  · exact .refl s
  · split
    · split
      · exact openTicket_runs _ _ s
      · exact .refl s
    · exact .refl s

/-- R6, R29, R66, R67, R119, R183: the requests that write a table, a pending field or a tap. -/
theorem write_capable {s t : State} (h : s.Capable) (swg : t.swg.ctx = s.swg.ctx) (bka : t.bka = s.bka)
    (svc : t.svc = s.svc) (queue : t.bmu.queue = s.bmu.queue) (trips : t.gdm.trips = s.gdm.trips)
    (drive : t.fli.driveSlots = s.fli.driveSlots) : t.Capable :=
  capable_of h (Service.fits_of_eq svc) (by rw [queue]; exact id) (by rw [trips]; exact id)
    (fun n hn => by rw [State.Bounded, State.ctx, State.ana, swg, bka]; exact hn) drive

theorem actWriteSegment_ctx (index : Byte) (f : SegmentFields) (s : State) :
    (actWriteSegment index f s).2.swg.ctx = s.swg.ctx := by
  simp only [actWriteSegment]; (repeat' split) <;> rfl

theorem actWriteBinmap_queue (first count : Byte) (es : List BinFields) (s : State) :
    (actWriteBinmap first count es s).2.bmu.queue = s.bmu.queue := by
  simp only [actWriteBinmap, writeBins]; (repeat' split) <;> rfl

theorem actWriteLine_places (f : LineFields) (s : State) :
    (actWriteLine f s).2.bmu.queue = s.bmu.queue ∧ (actWriteLine f s).2.gdm.trips = s.gdm.trips := by
  unfold actWriteLine; split <;> exact ⟨rfl, rfl⟩

theorem actSetTap_driveSlots (slot source nest : Byte) (s : State) :
    (actSetTap slot source nest s).2.fli.driveSlots = s.fli.driveSlots := by
  simp only [actSetTap]; (repeat' split) <;> rfl

theorem act_capable (r : Request) {s : State} (h : s.Capable) : (act r s).2.Capable := by
  cases r
  case writeSegment index f =>
    exact write_capable h (actWriteSegment_ctx index f s) (by simp [act]) (by simp [act]) (by simp [act]) (by simp [act]) (by simp [act])
  case writeBinmap first count es =>
    exact write_capable h (by simp [act]) (by simp [act]) (by simp [act]) (actWriteBinmap_queue first count es s)
      (by simp [act]) (by simp [act])
  case writeLine f =>
    obtain ⟨hq, ht⟩ := actWriteLine_places f s
    exact write_capable h (by simp [act]) (by simp [act]) (by simp [act]) hq ht (by simp [act])
  case setTap slot source nest =>
    exact write_capable h (by simp [act]) (by simp [act]) (by simp [act]) (by simp [act]) (by simp [act])
      (actSetTap_driveSlots slot source nest s)
  case lotAbort => exact capable_of_runs h (actLotAbort_runs s) (actLotAbort_fits s)
  case lotClose =>
    refine capable_of_runs h ?_ (actLotClose_fits s)
    exact runs_of_plant (by simp [State.plant, act])
  case nestStart nest => exact capable_of_runs h (actNestStart_runs nest s) (act_fits (.nestStart nest) s)
  case releaseTicket nest =>
    exact capable_of_runs h (runs_of_plant (by simp [State.plant, act])) (actReleaseTicket_fits nest s)
  all_goals
    exact write_capable h (by simp [act]) (by simp [act]) (by simp [act]) (by simp [act]) (by simp [act])
      (by simp [act])

/-! ### The step -/

theorem serviceStep_capable {s t : State} (step : ServiceStep s t) (h : s.Capable) : t.Capable := by
  have moved : ∀ {u : State} {v : Service}, u.Capable → u.svc.Fits v → (u.setSvc v).Capable := fun hu fits =>
    capable_of_runs hu (runs_of_plant rfl) fits
  cases step with
  | moved v fits => exact moved h fits
  | raised r v w _ fits kept =>
    exact moved (capable_of_runs (moved h fits) (raiseFault_runs r _) (raiseFault_fits r rfl)) kept
  | wrong r v w _ fits kept =>
    have raised := capable_of_runs (moved h fits) (raiseFault_runs r _) (raiseFault_fits r rfl)
    exact moved (capable_of_runs raised (runs_of_plant rfl) (Service.fits_refl _)) kept
  | acted r v w fits kept => exact moved (act_capable r (moved h fits)) kept

theorem Analysis.frameEnd_places (a : Analysis) (x : Sample) (t : Nat) :
    (a.frameEnd x t).history = a.history ∧ (a.frameEnd x t).queue = a.queue := by
  simp only [Analysis.frameEnd, Analysis.frame]
  split
  · split <;> exact ⟨rfl, rfl⟩
  · exact ⟨rfl, rfl⟩
  · exact ⟨rfl, rfl⟩

theorem SweepCtx.advance_gain (c : SweepCtx) : c.advance.gain = c.gain := by
  unfold SweepCtx.advance; split <;> rfl

theorem GuardMon.frame_trips (g : GuardMon) (t : Nat) (x : Sample) : (g.frame t x).trips = g.trips := by
  simp only [GuardMon.frame, GuardMon.takeSample]
  split <;> rfl

/-- R13: the drive slots of a frame are the samples of its contexts. -/
theorem frameEnd_capable (f : Option UpstreamFrame) (sensors : Byte) (ready : Bool) {s : State} (h : s.Capable) :
    (frameEnd f sensors ready s).Capable := by
  obtain ⟨hsvc, hqueue, htrips, hbounded, -⟩ := h
  refine ⟨hsvc, hqueue, (Nat.le_of_eq (congrArg _ (s.gdm.frame_trips _ _))).trans htrips, fun n => ?_, fun n => ?_⟩
  · obtain ⟨hgain, hhistory, hq⟩ := hbounded n
    have hctx : (frameEnd f sensors ready s).ctx n = (s.ctx n).advance := by simp [frameEnd, State.ctx]
    obtain ⟨x, hana⟩ : ∃ x, (frameEnd f sensors ready s).ana n = (s.ana n).frameEnd x s.tmb.stamp := by
      exact ⟨_, by simp [frameEnd, State.ana]; rfl⟩
    obtain ⟨k1, k2⟩ := (s.ana n).frameEnd_places x s.tmb.stamp
    rw [State.Bounded, hctx, hana, SweepCtx.advance_gain, k1, k2]
    exact ⟨hgain, hhistory, hq⟩
  · have hslot : (frameEnd f sensors ready s).fli.driveSlots[n] = (s.ctx n).sample := by
      simp [frameEnd, FrontLink.carry, FrontLink.frame, State.driveSlots]
    rw [hslot]
    exact (s.ctx n).sample_inRange (hbounded n).1

theorem reset_capable : State.reset.Capable := by
  refine ⟨by unfold Service.Within; decide, by decide, by decide, ?_, by decide⟩
  unfold State.Bounded
  decide

theorem lineReset_capable {s : State} (h : s.Capable) : (lineReset s).Capable := by
  obtain ⟨-, -, -, -, hdrive⟩ := h
  refine ⟨by simp [lineReset, Service.lineReset, Service.Within], by simp [lineReset, BinMarker.lineReset],
    by simp [lineReset, GuardMon.lineReset], fun n => ?_, hdrive⟩
  simp [State.Bounded, lineReset, State.ctx, State.ana, SweepCtx.reset, Analysis.reset]

theorem effect_capable {s t : State} (effect : Effect s t) (h : s.Capable) : t.Capable := by
  have runs : s.Runs t → t.svc = s.svc → t.Capable := fun hr hs => capable_of_runs h hr (Service.fits_of_eq hs)
  cases effect with
  | idle => exact h
  | warm => exact reset_capable
  | frame f sensors ready =>
    exact capable_of_runs (frameEnd_capable f sensors ready h) (takeLink_runs _ _) (Service.fits_of_eq (by simp))
  | frontLost => exact capable_of_runs h (loseFront_runs s) (loseFront_fits s)
  | timers => exact capable_of h (Service.fits_refl _) id id (fun _ hn => hn) rfl
  | sweepStart n => exact runs (setProcessed_runs n (considerNest_runs n _)) (considerNest_svc n _)
  | blockEnd n => exact runs (setProcessed_runs n (endBlock_runs n _)) (by simp)
  | analysis n a history queue =>
    refine runs (setAna_runs s n (fun hh => history ▸ hh) fun hq => ?_) rfl
    rcases queue with hsame | hle
    · rw [hsame]; exact hq
    · exact hle
  | departure n => exact runs (markBoundary_runs (departBlocks_runs n _)) (by simp)
  | drained n b _ _ => exact runs ((review_runs n b s).trans (closeAttempt_runs n b _)) (by simp)
  | reported n b x f e _ _ _ reports marker => exact takeReport_capable b x f h reports marker
  | checked n => exact runs (startCheck_runs n s) (by simp)
  | reportStall n r _ =>
    exact capable_of_runs h ((setNest_runs s n { s.nest n with expiry := none }).trans (raiseFault_runs r _))
      (raiseFault_fits r rfl)
  | stuck n g x _ _ => exact capable_of_runs h (raiseStuck_runs n g x.serial s) (raiseFault_fits _ rfl)
  | settled n level => exact runs (setNest_runs s n _) rfl
  | closed n b _ _ _ =>
    exact runs ((setNest_runs s n ((s.nest n).settle .closed)).trans (openTicket_runs n b _)) (by simp)
  | opened n =>
    exact capable_of_runs h ((setNest_runs s n ((s.nest n).settle .opened)).trans (openEffect_runs n _))
      (openEffect_fits n (s.setNest n ((s.nest n).settle .opened)))
  | guardClose =>
    exact capable_of h (closeGuardBlock_fits s) (by simp) closeGuardBlock_trips
      (fun n hn => by simpa [State.Bounded] using hn) (by simp)
  | guardBoundary g trips => exact capable_of h (Service.fits_refl _) id (fun ht => trips.trans ht) (fun _ hn => hn) rfl
  | taps =>
    exact capable_of h (Service.fits_refl _) id id (fun _ hn => hn)
      (by simp only [State.setFli_fli, FrontLink.applyTaps]; split <;> rfl)
  | marker b _ queue => exact capable_of h (Service.fits_refl _) (fun hq => queue.trans hq) id (fun _ hn => hn) rfl
  | markerStall r _ =>
    exact capable_of_runs (s := s.setBmu { s.bmu with expiry := none }) h (raiseFault_runs r _) (raiseFault_fits r rfl)
  | service _ step => exact serviceStep_capable step h
  | lineReset => exact lineReset_capable h

/-- Settles O59: every effect of a command keeps the capacities and the drive range. -/
theorem stepKeepsCapacitiesAndDriveRange : Obligations.StepKeepsCapacitiesAndDriveRange := by
  intro s t hcapacity hdrive hstep
  have h : s.Capable := (capable_iff s).2 ⟨hcapacity, hdrive⟩
  refine (capable_iff t).1 ?_
  rcases step_cases hstep with rfl | ⟨-, rest, rfl⟩ | ⟨rest, effect⟩
  · exact h
  · exact reset_capable
  · exact effect_capable (s := { s with pending := rest }) effect h

end Sys2Proof.Machine
end

section
/-! PROOFS. The frozen entries and their marks (R6, R66, R67, R119, R151, R152, R156), and O60. -/

namespace Sys2Proof.Machine

open Sys2Proof Host

/-! ### The marks of the bound entries -/

/-- R151, R152: what the law of the marks reads. -/
def LotCtl.Marked (l : LotCtl) : Prop :=
  l.line.hasTickets = true → ∀ b, l.binding = some b →
    (∀ k ∈ b.chain, l.segFrozen[k] = true) ∧ l.setFrozen[b.primarySet] = true ∧
      (∀ k, b.retestSet = some k → l.setFrozen[k] = true) ∧
      ∀ k : Fin 256, b.binBase ≤ k.val → k.val ≤ b.binBase + b.keyMode.span - 1 → l.binFrozen[k] = true

theorem marksLaw_iff (s : State) : s.marksLaw ↔ s.ltc.Marked := Iff.rfl

/-- R156: outside OPEN and CLOSING nothing is asked of the marks. -/
theorem LotCtl.marked_of_line {l : LotCtl} (h : l.line.hasTickets = false) : l.Marked := fun hl => by
  rw [h] at hl; cases hl

/-- R151: the acceptance of a lot marks every bound entry. -/
theorem LotCtl.accept_marked (l : LotCtl) (b : Binding) : (l.accept b).Marked := by
  rintro - c hc
  cases hc
  refine ⟨fun k hk => ?_, ?_, fun k hk => ?_, fun k h1 h2 => ?_⟩
  · simp [LotCtl.accept, hk]
  · simp [LotCtl.accept]
  · simp [LotCtl.accept, hk]
  · simp [LotCtl.accept, h1, h2]

/-- R94: a ticket open moves the serial and the count alone. -/
theorem LotCtl.openTicket_marked {l : LotCtl} {b : Binding} (hb : l.binding = some b) (h : l.Marked) :
    (l.openTicket b).Marked := by
  rintro hl c hc
  cases hc
  exact h hl b hb

/-- R155, R157: a line that can hold tickets goes to CLOSING with its marks. -/
theorem LotCtl.closing_marked {l : LotCtl} (hl : l.line.hasTickets = true) (h : l.Marked) (aborted : Bool) :
    LotCtl.Marked { l with line := .closing, aborted := aborted } := fun _ b hb => h hl b hb

theorem drainCheck_marked {s : State} (h : s.ltc.Marked) : (drainCheck s).ltc.Marked := by
  unfold drainCheck
  split
  · rw [offerNotice_ltc]
    exact LotCtl.marked_of_line rfl
  · exact h

theorem retireTicket_marked (n : NestId) {s : State} (h : s.ltc.Marked) : (retireTicket n s).ltc.Marked :=
  drainCheck_marked (s := (s.setNest n (s.nest n).retired).setLtc { s.ltc with ticketCount := s.ltc.ticketCount - 1 }) h

theorem enterUnload_marked (n : NestId) {s : State} (h : s.ltc.Marked) : (enterUnload n s).ltc.Marked := by
  simp only [enterUnload]
  split
  · exact retireTicket_marked n (s := s.setNest n _) h
  · exact h

/-! ### What a step does to the tables and the marks -/

/-- R151, R152: the marks stay on the bound entries, and the marked entries keep their contents. -/
def State.Freezes (s t : State) : Prop := (s.marksLaw → t.marksLaw) ∧ s.keepsFrozen t

theorem freezes_of_tables {s t : State} (segments : t.swg.segments = s.swg.segments) (sets : t.jdu.sets = s.jdu.sets)
    (binMap : t.bmu.binMap = s.bmu.binMap) (marked : s.ltc.Marked → t.ltc.Marked) : s.Freezes t :=
  ⟨marked, by rw [State.keepsFrozen, segments, sets, binMap]; exact ⟨fun _ _ => rfl, fun _ _ => rfl, fun _ _ => rfl⟩⟩

theorem freezes_of_runs {s t : State} (runs : s.Runs t) (marked : s.ltc.Marked → t.ltc.Marked) : s.Freezes t :=
  freezes_of_tables runs.segments runs.sets runs.bmu.1 marked

theorem freezes_of_ltc {s t : State} (runs : s.Runs t) (h : t.ltc = s.ltc) : s.Freezes t :=
  freezes_of_runs runs (h ▸ id)

theorem State.Freezes.refl (s : State) : s.Freezes s := freezes_of_ltc (.refl s) rfl

/-! ### The requests that write the tables -/

/-- R6: a write replaces an entry without a mark. -/
theorem setSegment_freezes {s : State} {k : Fin 256} (e : Segment) (h : s.ltc.segFrozen[k] = false) :
    s.Freezes (s.setSegment k e) := by
  refine ⟨id, fun j hj => ?_, fun _ _ => rfl, fun _ _ => rfl⟩
  have hne : (k : Nat) ≠ j := fun e => by rw [← Fin.ext e, h] at hj; cases hj
  exact Vector.getElem_set_ne k.isLt j.isLt hne

/-- R66, R67: a write replaces a part of a limit set without a mark. -/
theorem setLimit_freezes {s : State} {k : Fin 8} (l : LimitSet) (h : s.ltc.setFrozen[k] = false) :
    s.Freezes (s.setLimit k l) := by
  refine ⟨id, fun _ _ => rfl, fun j hj => ?_, fun _ _ => rfl⟩
  have hne : (k : Nat) ≠ j := fun e => by rw [← Fin.ext e, h] at hj; cases hj
  exact Vector.getElem_set_ne k.isLt j.isLt hne

/-- R119: a write replaces named entries without a mark. -/
theorem writeBins_freezes {s : State} {first count : Byte} (es : List BinEntry)
    (h : ∀ k, binNamed first count k = true → s.ltc.binFrozen[k] = false) : s.Freezes (writeBins first count es s) := by
  refine ⟨id, fun _ _ => rfl, fun _ _ => rfl, fun k hk => ?_⟩
  have hnot : binNamed first count k = false := Bool.eq_false_iff.2 fun hn => by rw [h k hn] at hk; cases hk
  simp [writeBins, hnot]

theorem actWriteSegment_freezes (index : Byte) (f : SegmentFields) (s : State) :
    s.Freezes (actWriteSegment index f s).2 := by
  simp only [actWriteSegment]
  split
  · exact .refl s
  next h =>
    rw [Bool.not_eq_true] at h
    split
    · exact setSegment_freezes _ h
    · split
      · exact .refl s
      · exact setSegment_freezes _ h

theorem actWriteLimitHeader_freezes (set : Byte) (f : HeaderFields) (s : State) :
    s.Freezes (actWriteLimitHeader set f s).2 := by
  simp only [actWriteLimitHeader]
  split
  · exact .refl s
  · split
    · exact .refl s
    next h =>
      split
      · exact setLimit_freezes _ (Bool.eq_false_iff.2 h)
      · exact .refl s

theorem actWriteBand_freezes (set index : Byte) (f : BandFields) (s : State) : s.Freezes (actWriteBand set index f s).2 := by
  simp only [actWriteBand]
  split
  · split
    · exact .refl s
    next h =>
      split
      · exact setLimit_freezes _ (Bool.eq_false_iff.2 h)
      · exact .refl s
  · exact .refl s

theorem actWriteBinmap_freezes (first count : Byte) (es : List BinFields) (s : State) :
    s.Freezes (actWriteBinmap first count es s).2 := by
  simp only [actWriteBinmap]
  split
  · exact .refl s
  · split
    · exact .refl s
    next h =>
      split
      · exact .refl s
      · refine writeBins_freezes _ fun k hk => Bool.eq_false_iff.2 fun hf => h ?_
        exact List.any_eq_true.2 ⟨k, List.mem_finRange k, by rw [hk, hf]; rfl⟩

/-! ### The requests of LTC and of the nests -/

theorem actLotOpen_freezes (f : LotFields) (s : State) : s.Freezes (actLotOpen f s).2 := by
  refine freezes_of_runs (actLotOpen_runs f s) fun h => ?_
  unfold actLotOpen
  split
  · exact h
  · split
    · exact h
    next b _ => exact s.ltc.accept_marked b

theorem actLotClose_freezes (s : State) : s.Freezes (actLotClose s).2 := by
  have runs : s.Runs (actLotClose s).2 := runs_of_plant (by simp [State.plant])
  refine freezes_of_runs runs fun h => ?_
  unfold actLotClose
  split
  next hl => exact drainCheck_marked (s := s.setLtc _) (LotCtl.closing_marked (by rw [hl]; rfl) h s.ltc.aborted)
  all_goals exact h

theorem actLotAbort_freezes (s : State) : s.Freezes (actLotAbort s).2 := by
  refine freezes_of_runs (actLotAbort_runs s) fun h => ?_
  unfold actLotAbort
  split
  next hl =>
    refine drainCheck_marked (s := State.setLtc _ _) ?_
    rw [State.setLtc_ltc, eachNest_lotAbortNest_ltc]
    exact LotCtl.closing_marked (l := s.ltc) hl h true
  next => exact h

theorem actNestStart_freezes (nest : Byte) (s : State) : s.Freezes (actNestStart nest s).2 := by
  refine freezes_of_runs (actNestStart_runs nest s) fun h => ?_
  unfold actNestStart
  split
  · exact h
  · split
    next b hb =>
      split
      · rw [openTicket_ltc]
        exact LotCtl.openTicket_marked hb h
      · exact h
    next => exact h

theorem actReleaseTicket_freezes (nest : Byte) (s : State) : s.Freezes (actReleaseTicket nest s).2 := by
  refine freezes_of_runs (runs_of_plant (by simp [State.plant])) fun h => ?_
  unfold actReleaseTicket
  (repeat' split)
  case' isTrue =>
    dsimp only [releaseNest]
    split
    · exact enterUnload_marked _ (s := s.setFlg { s.flg with held := none }) h
    · exact h
  all_goals exact h

theorem act_freezes (r : Request) (s : State) : s.Freezes (act r s).2 := by
  cases r
  case writeSegment index f => exact actWriteSegment_freezes index f s
  case writeLimitHeader set f => exact actWriteLimitHeader_freezes set f s
  case writeBand set index f => exact actWriteBand_freezes set index f s
  case writeBinmap first count es => exact actWriteBinmap_freezes first count es s
  case lotOpen f => exact actLotOpen_freezes f s
  case lotClose => exact actLotClose_freezes s
  case lotAbort => exact actLotAbort_freezes s
  case nestStart nest => exact actNestStart_freezes nest s
  case releaseTicket nest => exact actReleaseTicket_freezes nest s
  case writeLine f =>
    exact freezes_of_tables (by simp [act]) (by simp [act]) (by simp only [act, actWriteLine]; split <;> rfl)
      (by simp [act])
  all_goals exact freezes_of_tables (by simp [act]) (by simp [act]) (by simp [act]) (by simp [act])

/-! ### The step -/

theorem serviceStep_freezes {s t : State} (step : ServiceStep s t) : s.Freezes t := by
  cases step with
  | moved v _ => exact .refl s
  | raised r v w _ _ _ => exact freezes_of_ltc (t := State.setSvc _ w) (runs_of_plant (by simp [State.plant])) (by simp)
  | wrong r v w _ _ _ => exact freezes_of_ltc (t := State.setSvc _ w) (runs_of_plant (by simp [State.plant])) (by simp)
  | acted r v w _ _ => exact act_freezes r (s.setSvc v)

theorem takeReport_marked (n : NestId) (b : Binding) (t : Ticket) (f : Final) (e : BinEntry) {s : State}
    (h : s.ltc.Marked) : (takeReport n b t f e s).ltc.Marked := by
  have reported : (s.reportedOn n b t f e).ltc.Marked := by rw [reportedOn_ltc]; exact h
  rw [takeReport_eq]
  split
  · exact reported
  · exact enterUnload_marked n reported

theorem queueJob_binMap (n : NestId) (serial : Nat) (e : BinEntry) (s : State) :
    (queueJob n serial e s).bmu.binMap = s.bmu.binMap := by
  unfold queueJob; split <;> rfl

theorem openEffect_marked (n : NestId) {s : State} (h : s.ltc.Marked) : (openEffect n s).ltc.Marked := by
  simp only [openEffect]
  split
  case h_5 => exact retireTicket_marked n h
  case h_6 => exact h
  all_goals rw [pullUnit_ltc]; exact h

theorem effect_freezes {s t : State} (effect : Effect s t) : s.Freezes t := by
  cases effect with
  | idle => exact .refl s
  | warm => exact freezes_of_tables rfl rfl rfl fun _ => LotCtl.marked_of_line rfl
  | frame f sensors ready =>
    have runs := takeLink_runs s.fli.link (frameEnd f sensors ready s)
    exact freezes_of_tables runs.segments runs.sets runs.bmu.1 (by simp [frameEnd])
  | frontLost => exact freezes_of_ltc (loseFront_runs s) (by simp)
  | timers => exact freezes_of_tables rfl rfl rfl id
  | sweepStart n => exact freezes_of_ltc (setProcessed_runs n (considerNest_runs n _)) (considerNest_ltc n _)
  | blockEnd n => exact freezes_of_ltc (setProcessed_runs n (endBlock_runs n _)) (by simp)
  | analysis n a _ _ => exact freezes_of_tables rfl rfl rfl id
  | departure n => exact freezes_of_ltc (markBoundary_runs (departBlocks_runs n _)) (by simp)
  | drained n b _ _ => exact freezes_of_ltc ((review_runs n b s).trans (closeAttempt_runs n b _)) (by simp)
  | reported n b x f e _ _ _ _ _ =>
    exact freezes_of_tables (by simp) (by simp) (by rw [takeReport_bmu, queueJob_binMap]) (takeReport_marked n b x f e)
  | checked n => exact freezes_of_ltc (startCheck_runs n s) (by simp)
  | reportStall n r _ =>
    exact freezes_of_ltc ((setNest_runs s n { s.nest n with expiry := none }).trans (raiseFault_runs r _)) (by simp)
  | stuck n g x _ _ => exact freezes_of_ltc (raiseStuck_runs n g x.serial s) (by simp [raiseStuck])
  | settled n level => exact freezes_of_ltc (setNest_runs s n _) rfl
  | closed n b hb _ _ =>
    refine freezes_of_runs ((setNest_runs s n ((s.nest n).settle .closed)).trans (openTicket_runs n b _)) fun h => ?_
    rw [openTicket_ltc]
    exact LotCtl.openTicket_marked hb h
  | opened n =>
    exact freezes_of_runs ((setNest_runs s n ((s.nest n).settle .opened)).trans (openEffect_runs n _))
      (openEffect_marked n (s := s.setNest n ((s.nest n).settle .opened)))
  | guardClose => exact freezes_of_tables (by simp) (by simp) (by simp) (by simp)
  | guardBoundary g _ => exact freezes_of_tables rfl rfl rfl id
  | taps => exact freezes_of_tables rfl rfl rfl id
  | marker b map _ => exact freezes_of_tables rfl rfl map id
  | markerStall r _ =>
    exact freezes_of_ltc (s := s.setBmu { s.bmu with expiry := none }) (raiseFault_runs r _) (by simp)
  | service _ step => exact serviceStep_freezes step
  | lineReset => exact freezes_of_tables rfl rfl rfl fun _ => LotCtl.marked_of_line rfl

/-- Settles O60: every effect of a command keeps the frozen entries and their marks. -/
theorem stepKeepsFrozenTables : Obligations.StepKeepsFrozenTables := by
  intro s t hstep
  rcases step_cases hstep with rfl | ⟨hreset, rest, rfl⟩ | ⟨rest, effect⟩
  · exact ⟨id, fun _ => (State.Freezes.refl _).2⟩
  · exact ⟨fun _ => LotCtl.marked_of_line rfl, fun h => absurd hreset h⟩
  · obtain ⟨marks, frozen⟩ := effect_freezes (s := { s with pending := rest }) effect
    exact ⟨marks, fun _ => frozen⟩

end Sys2Proof.Machine
end

section
/-! PROOFS. The queue of commands, the resets, and the requests that answer from the state alone (R1 to R5, R174, R180
to R185): O1 to O5, O18, O27 and O54. -/

namespace Sys2Proof.Machine

open Sys2Proof Host

/-! ### The queue of commands and the resets -/

/-- Settles O1. -/
theorem stepTakesFrontCommand : Obligations.StepTakesFrontCommand := by
  intro s
  constructor
  · intro h; rw [step, h]
  · intro c rest h; rw [step, h]

theorem State.reset_nest (n : NestId) : State.reset.nest n = Nest.reset := by simp [State.reset, State.nest]

theorem State.reset_ctx (n : NestId) : State.reset.ctx n = SweepCtx.reset := by simp [State.reset, State.ctx]

theorem State.reset_ana (n : NestId) : State.reset.ana n = Analysis.reset := by simp [State.reset, State.ana]

theorem State.reset_tally (n : NestId) : State.reset.tally n = Tally.zero := by simp [State.reset, State.tally]

/-- R5, R64, R118: every entry of the three tables. -/
theorem State.reset_tables :
    (∀ k : Fin 256, State.reset.swg.segments[k] = Segment.empty) ∧
      (∀ k : Fin 8, State.reset.jdu.sets[k] = LimitSet.reset) ∧
      ∀ k : Fin 256, State.reset.bmu.binMap[k] = BinEntry.reset := by
  simp [State.reset]

theorem LotCtl.reset_marks : (∀ k : Fin 256, LotCtl.reset.segFrozen[k] = false ∧ LotCtl.reset.binFrozen[k] = false) ∧
    ∀ k : Fin 8, LotCtl.reset.setFrozen[k] = false := by
  simp [LotCtl.reset]

theorem SweepCtx.reset_values : SweepCtx.reset.state = .idle ∧ SweepCtx.reset.stopRequested = false ∧
    SweepCtx.reset.lastDriven = none ∧ SweepCtx.reset.phase = 0 ∧ SweepCtx.reset.freqWord = 0 ∧
    SweepCtx.reset.gain = 0 ∧ SweepCtx.reset.segment = 0 ∧ SweepCtx.reset.blockIndex = 0 ∧
    SweepCtx.reset.programBlock = 0 := ⟨rfl, rfl, rfl, rfl, rfl, rfl, rfl, rfl, rfl⟩

/-- Settles O2, part by part of the reset state. -/
theorem powerOnResetSetsStatedValues : Obligations.PowerOnResetSetsStatedValues := by
  intro s
  obtain ⟨segments, sets, binMap⟩ := State.reset_tables
  refine ⟨powerOn s, rfl, rfl, rfl, segments, fun n => ?_, fun n => ?_, ⟨rfl, rfl, rfl, rfl, rfl, rfl, fun k => ?_⟩,
    State.reset_ana, ⟨rfl, rfl, rfl, rfl, rfl, rfl, rfl, rfl⟩, fun k => ?_, State.reset_tally, ⟨rfl, rfl, rfl⟩,
    fun n => ?_, ⟨rfl, rfl, rfl, rfl, rfl, rfl, rfl, rfl, binMap⟩, ⟨rfl, rfl, rfl, rfl, LotCtl.reset_marks⟩,
    ⟨rfl, rfl, rfl, rfl, rfl, rfl⟩, rfl, ⟨rfl, rfl, rfl, rfl, rfl, rfl, rfl, rfl, rfl⟩⟩
  · rw [show (powerOn s).ctx n = SweepCtx.reset from State.reset_ctx n]
    exact SweepCtx.reset_values
  · simp [powerOn, State.reset]
  · simp [powerOn, State.reset, TapSlot.reset]
  · rw [show (powerOn s).jdu.sets[k] = LimitSet.reset from sets k]
    exact ⟨rfl, fun j => by simp [LimitSet.reset, Band.reset]⟩
  · rw [show (powerOn s).nest n = Nest.reset from State.reset_nest n]
    exact ⟨rfl, rfl, rfl, rfl, rfl, rfl, rfl, rfl, rfl, rfl, rfl⟩

/-- Settles O3. -/
theorem warmResetKeepsTables : Obligations.WarmResetKeepsTables := fun s => ⟨powerOn s, warmReset s, rfl, rfl, rfl⟩

theorem lineReset_nest (s : State) (n : NestId) : (lineReset s).nest n = (s.nest n).lineReset := by
  simp [lineReset, State.nest]

/-- R185: the line reset acts at the end of its own reply. -/
theorem exec_lineResetAction_due {s : State} {u : UpCell} (hup : s.svc.up = some u) (hsrc : u.source = .reply)
    (htype : u.cell.type = 154) (hend : u.index = u.cell.wordCount) (hc : s.svc.upChosen = false) :
    exec .lineResetAction s = .next (lineReset s) := by
  show execLineResetAction s = _
  simp [execLineResetAction, Service.endedCell, UpCell.endsLineReset, hup, hsrc, htype, hend, hc]

/-- Settles O4, part by part of the line reset. -/
theorem lineResetActionResetsBlocks : Obligations.LineResetActionResetsBlocks := by
  intro s u hup hsrc htype hend hc
  refine ⟨lineReset s, exec_lineResetAction_due hup hsrc htype hend hc, rfl, rfl, rfl, rfl, rfl, rfl, rfl, rfl, rfl,
    fun n => ?_, fun n => ?_, rfl, fun n => ?_, fun n => ?_, rfl, rfl, ⟨rfl, rfl, rfl, rfl, rfl, rfl, rfl, rfl⟩,
    ⟨rfl, rfl, rfl, rfl, LotCtl.reset_marks⟩, rfl, ⟨rfl, rfl, rfl, rfl, rfl, rfl, rfl, rfl, rfl, rfl, rfl⟩⟩
  · rw [show (lineReset s).ctx n = SweepCtx.reset by simp [lineReset, State.ctx]]
    exact SweepCtx.reset_values
  · simp [lineReset, State.ana, Analysis.reset, DriveReport.zero]
  · simp [lineReset, State.tally]
  · rw [lineReset_nest]
    exact ⟨rfl, rfl, rfl, rfl, rfl, rfl, rfl, rfl, rfl, rfl, rfl, rfl, rfl⟩

/-! ### The arrival of a request -/

/-- R180: every request command is the arrival of its request. -/
theorem exec_command (r : Request) (tag : Byte) (s : State) :
    exec (r.command tag) s = .next (arrive r tag (act r) s) := by
  cases r <;> rfl

/-- Settles O5: an arrival is taken, waits, or overruns the queue. -/
theorem arrivingRequestTakenQueuedOrDiscarded : Obligations.ArrivingRequestTakenQueuedOrDiscarded := by
  intro r tag s
  rw [exec_command]
  refine ⟨fun hq => ⟨_, rfl, ?_⟩, fun hq hlen => ?_, fun hfull => ?_⟩
  · rw [arrive_quiet r tag (act r) s hq]
    rfl
  · rw [arrive_waits r tag (act r) s hq hlen]
    rfl
  · rw [arrive_full r tag (act r) s hfull]

/-! ### STATUS, LINE_RESET, an unknown request and LOT_CLOSE -/

/-- R181, R182: a request taken at once with an answer of one cell. -/
theorem exec_command_quiet {r : Request} {s t : State} {reply : Reply} (tag : Byte) (hq : s.quiet)
    (h : act r s = (reply, t)) (hlen : reply.content.length ≤ 89) :
    exec (r.command tag) s = .next (t.replying (replyType r.type) tag (byte reply.result.code ++ reply.content)) := by
  rw [exec_command, arrive_quiet_of_eq hq h hlen]

theorem isRequestType_eq_false {type : Byte} (h : isRequestType type = false) : type.toNat = 0 ∨ 26 < type.toNat := by
  have := of_decide_eq_false h
  omega

/-- R181: a cell of an unlisted type is answered UNKNOWN. -/
theorem exec_unknownRequest_quiet {type : Byte} {s : State} (tag : Byte) (payload : List Byte) (hq : s.quiet)
    (h : isRequestType type = false) :
    exec (.unknownRequest type tag payload) s = .next (s.replying (replyType type) tag [5]) := by
  have hparse : Request.parse type payload = .unknown := if_pos (isRequestType_eq_false h)
  show Outcome.next (offerCell _ _ s) = _
  simp only [offerCell, hq.1, hq.2, Config.requestPlaces, List.length_nil, List.isEmpty_nil, Bool.and_self, if_true,
    Nat.reduceLeDiff, if_false, takeCell, hparse]
  rw [answer_short _ _ _ _ (by simp [actParsed, Reply.bare])]
  rfl

theorem nests_toList (s : State) : s.tkc.nests.toList = allNests.map s.nest := by
  refine List.ext_getElem (by simp [allNests]) fun i hi _ => ?_
  rw [Vector.length_toList] at hi
  interval_cases i <;> simp [allNests, State.nest]

/-- R184, R193: the bytes of a STATUS reply. -/
theorem statusContent_eq (s : State) : byte 0 ++ s.statusContent =
    [0, 16, 12, 0, 2] ++ byte s.ltc.line.code ++
      bytes4 (if s.ltc.line = .noLot then 0 else (s.ltc.binding.map (fun b => b.lotId)).getD 0) ++
      byte s.fli.link.code ++ allNests.flatMap (fun n => byte (s.nest n).state.code) ++
      (match s.flg.held with | some h => byte h.nest.val ++ bytes4 h.serial | none => [255, 0, 0, 0, 0]) ++
      byte (if s.flg.lineStop then 1 else 0) ++ byte (if s.flg.armed then 1 else 0) := by
  have identity : byte 0 ++ (bytes2 Config.identityCode ++ bytes2 Config.revisionCode) = [0, 16, 12, 0, 2] := by decide
  have held : heldBytes s.flg.held =
      (match s.flg.held with | some h => byte h.nest.val ++ bytes4 h.serial | none => [255, 0, 0, 0, 0]) := by
    cases s.flg.held <;> rfl
  simp only [State.statusContent, nests_toList, List.flatMap_map, State.lotIdCode, State.lot, boolCode, held,
    ← List.append_assoc]
  rw [List.append_assoc (byte 0), identity]

theorem statusContent_length (s : State) : s.statusContent.length = 25 := by
  simp only [State.statusContent, List.length_append, bytes2_length, byte_length, bytes4_length, heldBytes_length,
    flatMap_length_const (fun x : Nest => byte x.state.code) 1 (fun _ => rfl), Vector.length_toList]

/-- Settles O27. -/
theorem statusLineResetAndUnknownAnswered : Obligations.StatusLineResetAndUnknownAnswered := by
  intro tag s hq
  refine ⟨?_, exec_command_quiet (r := .lineReset) tag hq rfl (Nat.zero_le _), fun type payload htype =>
    exec_unknownRequest_quiet tag payload hq htype⟩
  have hlen : s.statusContent.length ≤ 89 := by rw [statusContent_length]; decide
  exact (exec_command_quiet (r := .status) tag hq rfl hlen).trans
    (congrArg (fun content => Outcome.next (s.replying 129 tag content)) (statusContent_eq s))

/-! ### LOT_CLOSE -/

theorem actLotClose_not_open {s : State} (h : s.ltc.line ≠ .opened) : actLotClose s = (Reply.bare .badState, s) := by
  unfold actLotClose
  split
  next hl => exact absurd hl h
  all_goals rfl

theorem actLotClose_open {s : State} (h : s.ltc.line = .opened) :
    actLotClose s = (⟨.ok, byte (drainCheck (s.setLtc { s.ltc with line := .closing })).ltc.line.code⟩,
      drainCheck (s.setLtc { s.ltc with line := .closing })) := by
  simp only [actLotClose, h]

theorem LotDrained.line {b : Binding} {s t : State} (h : LotDrained b s t) : t.ltc.line = .closed := by
  by_cases hn : s.svc.notices.length < 8
  · rw [h.1 hn]
  · obtain ⟨log, -, ht⟩ := h.2 (by omega)
    rw [ht]

/-- Settles O18. -/
theorem lotCloseDrainsOrWaits : Obligations.LotCloseDrainsOrWaits := by
  intro tag s hq
  refine ⟨fun h => ?_, fun h hc => ?_, fun b h hc hb => ?_⟩
  · exact exec_command_quiet (r := .lotClose) tag hq (actLotClose_not_open h) (Nat.zero_le _)
  · have hnot := drainCheck_not_due (s.setLtc { s.ltc with line := .closing }) (Or.inr hc)
    have hact := actLotClose_open h
    rw [hnot] at hact
    exact exec_command_quiet (r := .lotClose) tag hq hact (by simp)
  · have hdrained := drainCheck_drained b (s.setLtc { s.ltc with line := .closing }) rfl hc hb
    refine ⟨_, (exec_command_quiet (r := .lotClose) tag hq (actLotClose_open h) (by simp)).trans ?_, hdrained⟩
    rw [hdrained.line]
    rfl

/-! ### The laws at reset -/

/-- Settles O54. -/
theorem lawsHoldAtReset : Obligations.LawsHoldAtReset := by
  obtain ⟨hcapacity, hdrive⟩ := (capable_iff State.reset).1 reset_capable
  refine ⟨lotLaw_of_reset (fun n => ?_) rfl, rfl, fun h => (by cases h), Yield.accounted_reset, hcapacity, hdrive,
    LotCtl.marked_of_line rfl⟩
  rw [State.reset_nest]
  exact ⟨rfl, rfl⟩

end Sys2Proof.Machine
end

section
/-! PROOFS. The requests to a nest and to the line configuration (R89, R92, R94, R95, R183): O12 to O15. -/

namespace Sys2Proof.Machine

open Sys2Proof Host

/-! ### The operands (R88, R193) -/

theorem nestOf_lt {b : Byte} (h : b.toNat < 8) : nestOf b = some ⟨b.toNat, h⟩ := dif_pos h

theorem nestOf_ge {b : Byte} (h : 8 ≤ b.toNat) : nestOf b = none := dif_neg (by omega)

theorem startModeOf_eq (b : Byte) :
    startModeOf b = if b.toNat ≤ 1 then some (if b = 0 then .auto else .manual) else none := by
  unfold startModeOf
  split
  next h => rw [h, if_pos (by omega), if_pos (BitVec.eq_of_toNat_eq h)]
  next h => rw [h, if_pos (by omega), if_neg (by rintro rfl; cases h)]
  next h0 h1 => exact (if_neg fun h => (Nat.le_one_iff_eq_zero_or_eq_one.1 h).elim h0 h1).symm

theorem sensorOf_eq (b : Byte) :
    sensorOf b = if b.toNat ≤ 1 then some (if b = 0 then .used else .ignored) else none := by
  unfold sensorOf
  split
  next h => rw [h, if_pos (by omega), if_pos (BitVec.eq_of_toNat_eq h)]
  next h => rw [h, if_pos (by omega), if_neg (by rintro rfl; cases h)]
  next h0 h1 => exact (if_neg fun h => (Nat.le_one_iff_eq_zero_or_eq_one.1 h).elim h0 h1).symm

/-- R88, R89: the carried fields lie in their values, and are not AUTO with IGNORED. -/
def nestFits (f : NestFields) : Prop :=
  f.startMode.toNat ≤ 1 ∧ f.sensor.toNat ≤ 1 ∧ 1 ≤ f.debounce.toNat ∧ f.delay.toNat ≤ 4095 ∧
    ¬(f.startMode = 0 ∧ f.sensor = 1)

/-- R88: a code of at most 1 is that of AUTO or USED when 0, and of MANUAL or IGNORED otherwise. -/
theorem code_of_startMode {b : Byte} (h : b.toNat ≤ 1) : StartMode.code (if b = 0 then .auto else .manual) = b.toNat := by
  split
  next hb => rw [hb]; rfl
  next hb =>
    have : b.toNat ≠ 0 := fun e => hb (BitVec.eq_of_toNat_eq e)
    simp only [StartMode.code]
    omega

theorem code_of_sensor {b : Byte} (h : b.toNat ≤ 1) : SensorUse.code (if b = 0 then .used else .ignored) = b.toNat := by
  split
  next hb => rw [hb]; rfl
  next hb =>
    have : b.toNat ≠ 0 := fun e => hb (BitVec.eq_of_toNat_eq e)
    simp only [SensorUse.code]
    omega

theorem auto_ignored_iff {f : NestFields} (hs : f.sensor.toNat ≤ 1) :
    ((if f.startMode = 0 then StartMode.auto else .manual) = .auto ∧
      (if f.sensor = 0 then SensorUse.used else .ignored) = .ignored) ↔ f.startMode = 0 ∧ f.sensor = 1 := by
  have hsensor : f.sensor = 1 ↔ ¬f.sensor = 0 := by
    constructor
    · rintro h0 h1; rw [h0] at h1; cases h1
    · intro h
      have : f.sensor.toNat ≠ 0 := fun e => h (BitVec.eq_of_toNat_eq e)
      exact BitVec.eq_of_toNat_eq (show f.sensor.toNat = 1 by omega)
  rw [hsensor]
  by_cases h0 : f.startMode = 0 <;> by_cases h1 : f.sensor = 0 <;> simp [h0, h1]

theorem nestFieldsOf_fits {f : NestFields} (h : nestFits f) :
    nestFieldsOf f = some (if f.startMode = 0 then .auto else .manual, if f.sensor = 0 then .used else .ignored) := by
  obtain ⟨hm, hs, hdeb, hdel, hpair⟩ := h
  have hd := f.debounce.isLt
  simp only [nestFieldsOf, startModeOf_eq, sensorOf_eq, if_pos hm, if_pos hs]
  refine if_pos ?_
  simp only [Bool.and_eq_true, inRange_iff, Bool.not_eq_true', Bool.and_eq_false_imp, beq_iff_eq, beq_eq_false_iff_ne]
  refine ⟨⟨by omega, by omega⟩, fun h0 h1 => hpair ((auto_ignored_iff hs).1 ⟨h0, h1⟩)⟩

theorem nestFieldsOf_unfit {f : NestFields} (h : ¬nestFits f) : nestFieldsOf f = none := by
  by_cases hm : f.startMode.toNat ≤ 1
  · by_cases hs : f.sensor.toNat ≤ 1
    · simp only [nestFieldsOf, startModeOf_eq, sensorOf_eq, if_pos hm, if_pos hs]
      refine if_neg fun hc => h ?_
      simp only [Bool.and_eq_true, inRange_iff, Bool.not_eq_true', Bool.and_eq_false_imp, beq_iff_eq,
        beq_eq_false_iff_ne] at hc
      obtain ⟨⟨h1, h2⟩, h3⟩ := hc
      exact ⟨hm, hs, by omega, by omega, fun hp => h3 ((auto_ignored_iff hs).2 hp).1 ((auto_ignored_iff hs).2 hp).2⟩
    · simp [nestFieldsOf, sensorOf_eq, hs]
  · simp [nestFieldsOf, startModeOf_eq, hm]

/-! ### WRITE_NEST and READ_NEST (R89) -/

theorem StartMode.code_inj {a b : StartMode} : a.code = b.code ↔ a = b := by
  cases a <;> cases b <;> decide

theorem SensorUse.code_inj {a b : SensorUse} : a.code = b.code ↔ a = b := by
  cases a <;> cases b <;> decide

theorem Nest.differs_iff (x : Nest) {f : NestFields} (h : nestFits f) :
    x.differs (if f.startMode = 0 then .auto else .manual) (if f.sensor = 0 then .used else .ignored) f.delay.toNat = true ↔
      x.startMode.code ≠ f.startMode.toNat ∨ x.sensor.code ≠ f.sensor.toNat ∨ x.delay ≠ f.delay.toNat := by
  obtain ⟨hm, hs, -⟩ := h
  rw [← code_of_startMode hm, ← code_of_sensor hs, ne_eq, StartMode.code_inj, ne_eq, SensorUse.code_inj]
  simp only [Nest.differs, Bool.or_eq_true, bne_iff_ne, or_assoc, ne_eq]

section
variable {nest : Byte} {n : NestId} {f : NestFields} (s : State)

theorem actWriteNest_unfit (h : nestFieldsOf f = none ∨ nestOf nest = none) :
    actWriteNest nest f s = (Reply.bare .badParam, s) := by
  unfold actWriteNest
  split
  next hn hf => rcases h with h | h <;> simp_all
  next => rfl

theorem actWriteNest_refused (hn : nestOf nest = some n) (hf : nestFits f) (ht : (s.nest n).state.holdsTicket = true)
    (hc : (s.nest n).startMode.code ≠ f.startMode.toNat ∨ (s.nest n).sensor.code ≠ f.sensor.toNat ∨
      (s.nest n).delay ≠ f.delay.toNat) : actWriteNest nest f s = (Reply.bare .badState, s) := by
  simp only [actWriteNest, hn, nestFieldsOf_fits hf]
  exact if_pos (by rw [ht, Bool.true_and]; exact ((s.nest n).differs_iff hf).2 hc)

theorem actWriteNest_replaces (hn : nestOf nest = some n) (hf : nestFits f)
    (hfree : (s.nest n).state.holdsTicket = false ∨ ¬((s.nest n).startMode.code ≠ f.startMode.toNat ∨
      (s.nest n).sensor.code ≠ f.sensor.toNat ∨ (s.nest n).delay ≠ f.delay.toNat)) :
    actWriteNest nest f s = (Reply.bare .ok, s.setNest n { s.nest n with
      startMode := if f.startMode = 0 then .auto else .manual, sensor := if f.sensor = 0 then .used else .ignored
      debounce := f.debounce.toNat, delay := f.delay.toNat }) := by
  simp only [actWriteNest, hn, nestFieldsOf_fits hf]
  refine if_neg fun h => ?_
  rw [Bool.and_eq_true, (s.nest n).differs_iff hf] at h
  rcases hfree with hf | hf
  · rw [h.1] at hf; cases hf
  · exact hf h.2

theorem actReadNest_eq (hn : nestOf nest = some n) : actReadNest nest s = (⟨.ok, [nest] ++ (s.nest n).content⟩, s) := by
  simp only [actReadNest, hn]

theorem actReadNest_none (hn : nestOf nest = none) : actReadNest nest s = (Reply.bare .badParam, s) := by
  simp only [actReadNest, hn]

end

/-- R193: the content of READ_NEST, field by field. -/
theorem Nest.content_eq (x : Nest) (nest : Byte) : [0] ++ ([nest] ++ x.content) =
    [0, nest] ++ byte x.startMode.code ++ byte x.sensor.code ++ bytes2 x.debounce ++ bytes2 x.delay ++
      byte (if x.state = .disabled then 0 else 1) ++ byte x.state.code ++ byte x.level.code ++ byte x.rejectRun ++
      byte (if x.disablePending then 1 else 0) ++ bytes2 x.timer := by
  have enabled : boolCode (x.state != .disabled) = if x.state = .disabled then 0 else 1 := by
    by_cases h : x.state = .disabled <;> simp [boolCode, h]
  simp only [Nest.content, enabled, List.append_assoc, List.cons_append, List.nil_append]
  rfl

/-- Settles O12. -/
theorem nestConfigurationWrittenAndRead : Obligations.NestConfigurationWrittenAndRead := by
  intro tag nest f s hq
  have write : ∀ {r : Result} {t : State}, actWriteNest nest f s = (Reply.bare r, t) →
      exec (.writeNest tag nest f) s = .next (t.replying 137 tag (byte r.code)) := fun h =>
    exec_command_quiet (r := .writeNest nest f) tag hq h (Nat.zero_le _)
  refine ⟨fun hn => ⟨write (actWriteNest_unfit s (Or.inr (nestOf_ge hn))),
    exec_command_quiet (r := .readNest nest) tag hq (actReadNest_none s (nestOf_ge hn)) (Nat.zero_le _)⟩, fun hn => ?_⟩
  have hname := nestOf_lt hn
  refine ⟨fun hf => write (actWriteNest_unfit s (Or.inl (nestFieldsOf_unfit hf))),
    fun hf ht hc => write (actWriteNest_refused s hname hf ht hc),
    fun hf hfree => write (actWriteNest_replaces s hname hf hfree), ?_⟩
  rw [← Nest.content_eq]
  exact exec_command_quiet (r := .readNest nest) tag hq (actReadNest_eq s hname) (by simp)

/-! ### WRITE_LINE and READ_LINE (R183) -/

/-- R57, R88, R124, R165: every field of WRITE_LINE lies in its range. -/
theorem lineInRange_iff (f : LineFields) : lineInRange f = true ↔
    (-600 ≤ f.threshold.toInt ∧ f.threshold.toInt ≤ 0) ∧ f.pre.toNat ≤ 2400 ∧ f.post.toNat ≤ 2400 ∧
      f.reportWait.toNat ≤ 4095 ∧ f.unloadLimit.toNat ≤ 4095 ∧ 96 ≤ f.strobeWidth.toNat ∧ f.markerWait.toNat ≤ 4095 ∧
      ∀ k, k = 0 ∨ 11 ≤ k → f.stopMask.getLsbD k = false := by
  have hwidth := f.strobeWidth.isLt
  simp only [lineInRange, Bool.and_eq_true, inRange_iff, kindSetInRange_iff]
  constructor
  · rintro ⟨⟨⟨⟨⟨⟨⟨h1, h2⟩, h3⟩, h4⟩, h5⟩, h6⟩, h7⟩, h8⟩
    exact ⟨h1, by omega, by omega, by omega, by omega, by omega, by omega, h8⟩
  · rintro ⟨h1, h2, h3, h4, h5, h6, h7, h8⟩
    exact ⟨⟨⟨⟨⟨⟨⟨h1, by omega⟩, by omega⟩, by omega⟩, by omega⟩, by omega⟩, by omega⟩, h8⟩

/-- Settles O13. -/
theorem lineConfigurationWrittenAndRead : Obligations.LineConfigurationWrittenAndRead := by
  intro tag f s hq
  have write : ∀ {r : Result} {t : State}, actWriteLine f s = (Reply.bare r, t) →
      exec (.writeLine tag f) s = .next (t.replying 139 tag (byte r.code)) := fun h =>
    exec_command_quiet (r := .writeLine f) tag hq h (Nat.zero_le _)
  refine ⟨⟨fun hf => write (if_neg (mt (lineInRange_iff f).1 hf)), fun hf => write (if_pos ((lineInRange_iff f).2 hf))⟩, ?_⟩
  refine (exec_command_quiet (r := .readLine) tag hq rfl (by simp)).trans ?_
  simp only [State.lineBytes, List.append_assoc]
  rfl

/-! ### NEST_ENABLE and NEST_DISABLE (R92) -/

theorem Nest.enable_eq (x : Nest) :
    (x.state = .disabled → x.enable = { x with state := .vacant, timer := 0, expiry := none }) ∧
      (x.state = .vacant → x.enable = x) ∧ (x.state.holdsTicket = true → x.enable = { x with disablePending := false }) := by
  refine ⟨fun h => if_pos h, fun h => ?_, fun h => ?_⟩
  · simp [Nest.enable, h, NestState.holdsTicket]
  · rw [Nest.enable, if_neg (fun e => by rw [e] at h; cases h), if_pos h]

theorem Nest.disable_eq (x : Nest) :
    (x.state = .disabled → x.disable = x) ∧
      (x.state = .vacant → x.disable = { x with state := .disabled, timer := 0, expiry := none }) ∧
      (x.state.holdsTicket = true → x.disable = { x with disablePending := true }) := by
  refine ⟨fun h => ?_, fun h => if_pos h, fun h => ?_⟩
  · simp [Nest.disable, h, NestState.holdsTicket]
  · rw [Nest.disable, if_neg (fun e => by rw [e] at h; cases h), if_pos h]

/-- Settles O14. -/
theorem nestEnableAndDisableByState : Obligations.NestEnableAndDisableByState := by
  intro tag nest s hq
  have enable : ∀ {r : Result} {t : State}, actNestEnable nest s = (Reply.bare r, t) →
      exec (.nestEnable tag nest) s = .next (t.replying 145 tag (byte r.code)) := fun h =>
    exec_command_quiet (r := .nestEnable nest) tag hq h (Nat.zero_le _)
  have disable : ∀ {r : Result} {t : State}, actNestDisable nest s = (Reply.bare r, t) →
      exec (.nestDisable tag nest) s = .next (t.replying 146 tag (byte r.code)) := fun h =>
    exec_command_quiet (r := .nestDisable nest) tag hq h (Nat.zero_le _)
  constructor
  · intro hn
    have hname := nestOf_ge hn
    exact ⟨enable (r := .badParam) (t := s) (by simp only [actNestEnable, hname]),
      disable (r := .badParam) (t := s) (by simp only [actNestDisable, hname])⟩
  · intro hn
    have hname := nestOf_lt hn
    obtain ⟨e1, e2, e3⟩ := (s.nest ⟨nest.toNat, hn⟩).enable_eq
    obtain ⟨d1, d2, d3⟩ := (s.nest ⟨nest.toNat, hn⟩).disable_eq
    exact ⟨_, _, enable (r := .ok) (t := s.setNest _ _) (by simp only [actNestEnable, hname]),
      disable (r := .ok) (t := s.setNest _ _) (by simp only [actNestDisable, hname]), fun h => ⟨e1 h, d1 h⟩,
    fun h => ⟨e2 h, d2 h⟩, fun h => ⟨e3 h, d3 h⟩⟩

/-! ### Ticket open (R94) and NEST_START (R95) -/

/-- R94: the state that the check of R97 meets at a ticket open. -/
def openedTicket (n : NestId) (b : Binding) (s : State) : State :=
  let s := s.setLtc (s.ltc.openTicket b)
  let s := countTicket (s.setTally n Tally.zero)
  let s := s.setFli { s.fli with lastOpened := some n }
  s.setNest n { (s.nest n).enter .entry b.entryDelay with ticket := some (Ticket.opened b) }

theorem openTicket_eq (n : NestId) (b : Binding) (s : State) : openTicket n b s = startCheck n (openedTicket n b s) := rfl

theorem openedTicket_nest (n : NestId) (b : Binding) (s : State) : (openedTicket n b s).nest n =
    { (s.nest n).enter .entry b.entryDelay with ticket := some (Ticket.opened b) } := by
  simp [openedTicket]

/-- R97: when the start request is made at a ticket open. -/
theorem openedTicket_canStart (n : NestId) (b : Binding) (s : State) : (openedTicket n b s).canStart n = true ↔
    b.entryDelay = 0 ∧ s.tkc.linkView = .locked ∧ (s.nest n).drive = .idle := by
  have hview : (openedTicket n b s).tkc.linkView = s.tkc.linkView := rfl
  rw [canStart_iff, openedTicket_nest, hview]
  simp [Nest.enter]

theorem openedTicket_other (n : NestId) (b : Binding) (s : State) :
    (openedTicket n b s).ctx n = s.ctx n ∧ (openedTicket n b s).ana n = s.ana n ∧
      (openedTicket n b s).tally n = Tally.zero := by
  simp [openedTicket]

/-- R94, R97: what a ticket open makes of the state. -/
theorem openTicket_opened (n : NestId) (b : Binding) (s : State) : TicketOpened n b s (openTicket n b s) := by
  obtain ⟨hctx, hana, htally⟩ := openedTicket_other n b s
  have hnest := startCheck_nest n (openedTicket n b s)
  have hc := startCheck_ctx n (openedTicket n b s)
  have ha := startCheck_ana n (openedTicket n b s)
  rw [← openTicket_eq, openedTicket_nest] at hnest
  rw [← openTicket_eq, hctx] at hc ha
  have runs := openTicket_runs n b s
  refine ⟨?_, ?_, ?_, openTicket_ltc n b s, ?_, ?_, ?_, ?_, fun m hm => ?_, runs.segments, runs.sets, by simp, by simp,
    by simp, by simp, by simp, by simp⟩
  · rw [hnest]; split <;> rfl
  · rw [hnest]; split <;> rfl
  · rw [hnest]; split <;> rfl
  · rw [openTicket_eq, startCheck_tally, htally]
  · rw [openTicket_eq, startCheck_yct]; rfl
  · rw [openTicket_eq, startCheck_fli]; rfl
  · split
    next h =>
      have hstart := (openedTicket_canStart n b s).2 h
      rw [hstart, if_pos rfl] at hnest
      refine ⟨by rw [hnest], fun hidle => ?_⟩
      rw [if_pos ⟨hstart, hidle⟩] at hc ha
      rw [hc, ha]
      exact ⟨rfl, rfl⟩
    next h =>
      have hstart := mt (openedTicket_canStart n b s).1 h
      rw [if_neg hstart] at hnest
      rw [if_neg (fun hs => hstart hs.1)] at hc ha
      rw [hnest, hc, ha, hana]
      exact ⟨rfl, rfl, rfl⟩
  · exact ⟨openTicket_nest_other n b s hm, openTicket_ctx_other n b s hm, openTicket_ana_other n b s hm,
      openTicket_tally_other n b s hm⟩

/-- Settles O15. -/
theorem nestStartOpensTicket : Obligations.NestStartOpensTicket := by
  intro tag nest s hq
  have start : ∀ {r : Result} {t : State}, actNestStart nest s = (Reply.bare r, t) →
      exec (.nestStart tag nest) s = .next (t.replying 144 tag (byte r.code)) := fun h =>
    exec_command_quiet (r := .nestStart nest) tag hq h (Nat.zero_le _)
  refine ⟨fun hn => start (r := .badParam) (t := s) (by simp only [actNestStart, nestOf_ge hn]), fun hn => ?_⟩
  have hname := nestOf_lt hn
  refine ⟨fun h => start (r := .badState) (t := s) ?_, fun b hmode hstate hline hb => ?_⟩
  · simp only [actNestStart, hname]
    split
    · refine if_neg ?_
      rintro ⟨h1, h2, h3⟩
      rcases h with h | h | h
      · rw [h1] at h; cases h
      · exact h h2
      · exact h h3
    · rfl
  · have hlot : s.lot = some b := hb
    refine ⟨_, start (r := .ok) (t := openTicket ⟨nest.toNat, hn⟩ b s) ?_, openTicket_opened _ b s⟩
    simp only [actNestStart, hname, hlot]
    exact if_pos ⟨hmode, hstate, hline⟩

end Sys2Proof.Machine
end

section
/-! PROOFS. SET_TAP, READ_FAULTS and READ_TICKET (R29, R114, R170): O21, O23 and O26. -/

namespace Sys2Proof.Machine

open Sys2Proof Host

/-! ### SET_TAP (R29) -/

/-- R29, R193: the nest byte names the source's nest for MIC, DRIVE and RESID. -/
theorem tapSourceOf_some {source nest : Byte} (h5 : source.toNat ≤ 5)
    (hn : source.toNat = 1 ∨ source.toNat = 3 ∨ source.toNat = 4 → nest.toNat < 8) :
    ∃ src, tapSourceOf source nest = some src ∧ src.code = source.toNat ∧
      (source.toNat = 1 ∨ source.toNat = 3 ∨ source.toNat = 4 → src.nestCode = nest.toNat) := by
  unfold tapSourceOf
  split
  case h_2 h => exact ⟨.mic ⟨nest.toNat, hn (by omega)⟩, by rw [nestOf_lt (hn (by omega))]; rfl, h.symm, fun _ => rfl⟩
  case h_4 h => exact ⟨.drive ⟨nest.toNat, hn (by omega)⟩, by rw [nestOf_lt (hn (by omega))]; rfl, h.symm, fun _ => rfl⟩
  case h_5 h => exact ⟨.resid ⟨nest.toNat, hn (by omega)⟩, by rw [nestOf_lt (hn (by omega))]; rfl, h.symm, fun _ => rfl⟩
  case h_7 h0 h1 h2 h3 h4 h5' => exfalso; interval_cases h : source.toNat <;> simp_all
  all_goals
    next h => exact ⟨_, rfl, h.symm, fun hk => by omega⟩

theorem tapSourceOf_none {source nest : Byte} (h : ¬(source.toNat ≤ 5 ∧
    (source.toNat = 1 ∨ source.toNat = 3 ∨ source.toNat = 4 → nest.toNat < 8))) : tapSourceOf source nest = none := by
  unfold tapSourceOf
  split
  case h_2 hs => rw [nestOf_ge (by omega)]; rfl
  case h_4 hs => rw [nestOf_ge (by omega)]; rfl
  case h_5 hs => rw [nestOf_ge (by omega)]; rfl
  case h_7 => rfl
  all_goals
    next hs => exact absurd ⟨by omega, fun hk => by omega⟩ h

theorem FrontLink.tapBytes_eq (f : FrontLink) : f.tapBytes = f.taps[0].bytes ++ f.taps[1].bytes := by
  have two : ∀ v : Vector TapSlot 2, v.toList = [v[0], v[1]] := fun v => by
    refine List.ext_getElem (by simp) fun i hi _ => ?_
    rw [Vector.length_toList] at hi
    interval_cases i <;> simp
  simp [FrontLink.tapBytes, two]

theorem actSetTap_refused {slot source nest : Byte} (s : State) (h : ¬(slot.toNat < 2 ∧ source.toNat ≤ 5 ∧
    (source.toNat = 1 ∨ source.toNat = 3 ∨ source.toNat = 4 → nest.toNat < 8))) :
    actSetTap slot source nest s = (⟨.badParam, s.fli.tapBytes⟩, s) := by
  unfold actSetTap
  split
  · rfl
  next src hsrc =>
    refine dif_neg fun hslot => h ⟨hslot, not_not.1 fun hf => ?_⟩
    rw [tapSourceOf_none hf] at hsrc
    cases hsrc

theorem actSetTap_sets {slot source nest : Byte} {src : TapSource} (s : State) (hslot : slot.toNat < 2)
    (h : tapSourceOf source nest = some src) :
    actSetTap slot source nest s =
      (⟨.ok, FrontLink.tapBytes { s.fli with
          taps := s.fli.taps.set slot.toNat { s.fli.taps[slot.toNat] with pending := some src } }⟩,
        s.setFli { s.fli with taps := s.fli.taps.set slot.toNat { s.fli.taps[slot.toNat] with pending := some src } }) := by
  simp only [actSetTap, h]
  exact dif_pos hslot

/-- Settles O26. -/
theorem setTapSetsPendingSource : Obligations.SetTapSetsPendingSource := by
  intro tag slot source nest s hq
  refine ⟨fun h => ?_, fun ⟨hslot, h5, hn⟩ => ?_⟩
  · refine (exec_command_quiet (r := .setTap slot source nest) tag hq (actSetTap_refused s h) ?_).trans ?_
    · rw [FrontLink.tapBytes_eq]; simp
    · rw [FrontLink.tapBytes_eq, List.append_assoc]; rfl
  · obtain ⟨src, hsrc, hcode, hnest⟩ := tapSourceOf_some h5 hn
    refine ⟨src, s.fli.taps.set slot.toNat { s.fli.taps[slot.toNat] with pending := some src }, hcode, hnest, ?_,
      fun k => ?_⟩
    · refine (exec_command_quiet (r := .setTap slot source nest) tag hq (actSetTap_sets s hslot hsrc) ?_).trans ?_
      · rw [FrontLink.tapBytes_eq]; simp
      · rw [FrontLink.tapBytes_eq, List.append_assoc]; rfl
    · simp only [Fin.getElem_fin, Vector.getElem_set]
      split
      next h => rw [if_pos h.symm]; simp [h]
      next h => rw [if_neg (Ne.symm h)]

/-! ### READ_FAULTS (R170) -/

/-- R193: the free values of a reply without a first record, field by field. -/
theorem State.freeBytes_eleven (s : State) :
    s.freeBytes 0 11 = s.freeBytes 0 4 ++ s.freeBytes 4 1 ++ s.freeBytes 5 4 ++ s.freeBytes 9 2 := by
  simp [State.freeBytes, List.range_succ, Nat.add_assoc]

/-- R170, R193: the fields of the first record, or as many free values. -/
theorem State.firstBytes_eq (s : State) : ∃ stamp nest serial detail : List Byte,
    stamp.length = 4 ∧ nest.length = 1 ∧ serial.length = 4 ∧ detail.length = 2 ∧
      (∀ r, s.flg.first = some r → stamp = bytes4 r.stamp ∧ detail = halfBytes r.detail ∧
        (∀ n : NestId, r.nest = some n → nest = byte n.val) ∧ ∀ k, r.serial = some k → serial = bytes4 k) ∧
      s.firstBytes = stamp ++ nest ++ serial ++ detail := by
  cases hf : s.flg.first with
  | none =>
    exact ⟨s.freeBytes 0 4, s.freeBytes 4 1, s.freeBytes 5 4, s.freeBytes 9 2, by simp, by simp, by simp, by simp,
      nofun, by simp only [State.firstBytes, hf]; exact s.freeBytes_eleven⟩
  | some r =>
    refine ⟨bytes4 r.stamp, match r.nest with | some n => byte n.val | none => s.freeBytes 4 1,
      match r.serial with | some k => bytes4 k | none => s.freeBytes 5 4, halfBytes r.detail, rfl, ?_, ?_, rfl, ?_, ?_⟩
    · split <;> simp
    · split <;> simp
    · rintro _ ⟨⟩
      exact ⟨rfl, rfl, fun n hn => by rw [hn], fun k hk => by rw [hk]⟩
    · simp only [State.firstBytes, hf] <;> rfl

theorem heldBytes_eq (h : Option HeldRef) :
    heldBytes h = (match h with | some h => byte h.nest.val ++ bytes4 h.serial | none => [255, 0, 0, 0, 0]) := by
  cases h <;> rfl

theorem actReadFaults_eq (s : State) : actReadFaults s =
    (⟨.ok, byte (flagByte [s.flg.first.isSome, s.flg.first.any (fun r => r.nest.isSome),
        s.flg.first.any (fun r => r.serial.isSome), s.flg.lineStop, s.flg.armed]) ++
      byte ((s.flg.first.map (fun r => r.kind.code)).getD 0) ++ s.firstBytes ++ halfBytes s.flg.next ++
      heldBytes s.flg.held⟩, { s with free := s.free + 11 }) := by
  simp only [actReadFaults]
  cases s.flg.first <;> rfl

/-- Settles O23. -/
theorem readFaultsAnswersLog : Obligations.ReadFaultsAnswersLog := by
  intro tag s hq
  obtain ⟨stamp, nest, serial, detail, h1, h2, h3, h4, hfields, hbytes⟩ := s.firstBytes_eq
  refine ⟨stamp, nest, serial, detail, h1, h2, h3, h4, hfields, ?_⟩
  refine (exec_command_quiet (r := .readFaults) tag hq (actReadFaults_eq s) (by simp)).trans ?_
  rw [hbytes, heldBytes_eq]
  simp only [List.append_assoc]
  rfl

/-! ### READ_TICKET (R114) -/

/-- The elements of a range in order, by their places. -/
theorem drop_take_finRange (n a c : Nat) :
    ((List.finRange n).drop a).take c = (List.finRange n).filter (fun k => decide (a ≤ k.val ∧ k.val < a + c)) := by
  have place : ∀ (i : Nat) (k : Fin n), (List.finRange n)[i]? = some k → k.val = i := fun i k hk => by
    obtain ⟨hi, rfl⟩ := List.getElem?_eq_some_iff.1 hk
    simp
  have split : List.finRange n = (List.finRange n).take a ++ ((List.finRange n).drop a).take c ++
      ((List.finRange n).drop a).drop c := by
    rw [List.append_assoc, List.take_append_drop, List.take_append_drop]
  conv_rhs => rw [split]
  rw [List.filter_append, List.filter_append, List.filter_eq_nil_iff.2, List.filter_eq_self.2, List.filter_eq_nil_iff.2,
    List.nil_append, List.append_nil]
  · intro k hk
    obtain ⟨i, hi⟩ := List.mem_iff_getElem?.1 hk
    rw [List.getElem?_drop, List.getElem?_drop] at hi
    have := place _ k hi
    simp only [decide_eq_true_eq]
    omega
  · intro k hk
    obtain ⟨i, hi⟩ := List.mem_iff_getElem?.1 hk
    rw [List.getElem?_take] at hi
    split at hi
    · rw [List.getElem?_drop] at hi
      have := place _ k hi
      simp only [decide_eq_true_eq]
      omega
    · cases hi
  · intro k hk
    obtain ⟨i, hi⟩ := List.mem_iff_getElem?.1 hk
    rw [List.getElem?_take] at hi
    split at hi
    · have := place _ k hi
      simp only [decide_eq_true_eq]
      omega
    · cases hi

/-- R193: a band by its place among those named. -/
theorem bandBytes_eq (v : Vector BandTally 32) (a c : Nat) :
    ((v.toList.drop a).take c).flatMap BandTally.bytes =
      ((List.finRange 32).filter (fun k => decide (a ≤ k.val ∧ k.val < a + c))).flatMap (fun k => v[k].bytes) := by
  have hv : v.toList = (List.finRange 32).map (fun k => v[k]) := by
    refine List.ext_getElem (by simp) fun i h1 h2 => by simp
  rw [hv, ← List.map_drop, ← List.map_take, drop_take_finRange, List.flatMap_map]

/-- R193: the flags of a ticket and of a band, place by place. -/
theorem flagByte_ticket (a b c d e : Bool) : flagByte [true, a, b, c, d, e] =
    1 + (if a then 2 ^ 1 else 0) + (if b then 2 ^ 2 else 0) + (if c then 2 ^ 3 else 0) + (if d then 2 ^ 4 else 0) +
      (if e then 2 ^ 5 else 0) := by
  revert a b c d e; decide

theorem flagByte_classes (a b c d : Bool) : flagByte [false, false, a, b, c, d] =
    (if a then 2 ^ 2 else 0) + (if b then 2 ^ 3 else 0) + (if c then 2 ^ 4 else 0) + (if d then 2 ^ 5 else 0) := by
  revert a b c d; decide

theorem flagByte_band (a b c : Bool) : flagByte [a, b, c] =
    (if a then 2 ^ 0 else 0) + (if b then 2 ^ 1 else 0) + (if c then 2 ^ 2 else 0) := by
  revert a b c; decide

theorem blockIndexBytes_eq (k : Option Nat) : blockIndexBytes k = bytes3 (k.getD 16777215) := by
  cases k <;> rfl

theorem finalBytes_eq (f : Option Final) : finalBytes f =
    (match f with
      | some f => byte f.disp.code ++ byte f.stage.code ++ byte f.cls.code
      | none => [255, 255, 255]) := by
  cases f <;> rfl

theorem Defect.bytes_length (d : Defect) (v : Byte) : (d.bytes [v]).length = 12 := by
  cases hb : d.band <;> simp [Defect.bytes, hb]

theorem ticketContent_length (t : Ticket) (y : Tally) (held : Bool) {first count : Nat} (v : Byte)
    (h : first + count ≤ 32) : (ticketContent t y held first count [v]).length = 49 + 16 * count := by
  have bands : (((y.bands.toList.drop first).take count).flatMap BandTally.bytes).length = 16 * count := by
    rw [flatMap_length_const _ 16 BandTally.bytes_length]
    simp only [List.length_take, List.length_drop, Vector.length_toList]
    omega
  have defect : (match t.firstDefect with | some d => d.bytes [v] | none => List.replicate 12 0).length = 12 := by
    cases t.firstDefect with
    | none => rfl
    | some d => exact d.bytes_length v
  simp only [ticketContent, List.length_append, bands, byte_length, bytes4_length, bytes3_length, finalBytes_length,
    blockIndexBytes_length]
  cases hd : t.firstDefect with
  | none => simp [Nat.add_comm]
  | some d => simp [d.bytes_length v, Nat.add_comm]

theorem actReadTicket_refused {nest first count : Byte} (s : State)
    (h : 8 ≤ nest.toNat ∨ 8 < count.toNat ∨ 32 < first.toNat + count.toNat) :
    actReadTicket nest first count s = (Reply.bare .badParam, s) := by
  by_cases hn : nest.toNat < 8
  · simp only [actReadTicket, nestOf_lt hn]
    exact if_pos (h.resolve_left (by omega))
  · simp only [actReadTicket, nestOf_ge (Nat.le_of_not_lt hn)]

section
variable {nest first count : Byte} {n : NestId} (s : State)

theorem actReadTicket_none (hn : nestOf nest = some n) (hc : count.toNat ≤ 8) (hf : first.toNat + count.toNat ≤ 32)
    (ht : (s.nest n).ticket = none) :
    actReadTicket nest first count s = (⟨.ok, [nest] ++ byte (s.nest n).state.code ++ byte 0⟩, s) := by
  simp only [actReadTicket, hn, ht]
  exact if_neg (by omega)

theorem actReadTicket_some {t : Ticket} (hn : nestOf nest = some n) (hc : count.toNat ≤ 8)
    (hf : first.toNat + count.toNat ≤ 32) (ht : (s.nest n).ticket = some t) :
    actReadTicket nest first count s = (⟨.ok, [nest] ++ byte (s.nest n).state.code ++
      ticketContent t (s.tally n) (s.isHeld n t.serial) first.toNat count.toNat [Config.freeByte s.free]⟩,
      { s with free := s.free + 1 }) := by
  simp only [actReadTicket, hn, ht]
  exact if_neg (by omega)

end

/-- Settles O21. -/
theorem readTicketAnswersTicketAsItStands : Obligations.ReadTicketAnswersTicketAsItStands := by
  intro tag nest first count s hq
  refine ⟨fun h => exec_command_quiet (r := .readTicket nest first count) tag hq (actReadTicket_refused s h)
    (Nat.zero_le _), fun hn hc hf => ⟨fun ht => ?_, fun x ht => ?_⟩⟩
  · exact exec_command_quiet (r := .readTicket nest first count) tag hq
      (actReadTicket_none s (nestOf_lt hn) hc hf ht) (by simp)
  · have hact := actReadTicket_some s (nestOf_lt hn) hc hf ht
    refine ⟨Config.freeByte s.free, [nest] ++ byte (s.nest ⟨nest.toNat, hn⟩).state.code ++
      ticketContent x (s.tally ⟨nest.toNat, hn⟩) (s.isHeld ⟨nest.toNat, hn⟩ x.serial) first.toNat count.toNat
        [Config.freeByte s.free], ?_, ?_, ?_⟩
    · have hheld : s.isHeld ⟨nest.toNat, hn⟩ x.serial = decide (s.flg.held = some ⟨⟨nest.toNat, hn⟩, x.serial⟩) := by
        simp [State.isHeld, beq_eq_decide]
      simp only [ticketContent, hheld, flagByte_ticket, ClassSet.code, flagByte_classes, blockIndexBytes_eq,
        bandBytes_eq, BandTally.bytes, flagByte_band, byte_toNat, finalBytes_eq, Defect.bytes, List.append_assoc]
      rfl
    · simp only [List.length_append, ticketContent_length _ _ _ _ hf]
      simp; omega
    · rw [show exec (.readTicket tag nest first count) s =
        .next (arrive (.readTicket nest first count) tag (actReadTicket nest first count) s) from rfl,
        arrive_quiet _ _ _ _ hq, answer, hact]
      rfl

end Sys2Proof.Machine
end

section
/-! PROOFS. RELEASE_TICKET and LOT_ABORT (R109, R111, R112, R157, R171): O19 and O20. -/

namespace Sys2Proof.Machine

open Sys2Proof Host

/-! ### UNLOAD and retire (R109, R112) -/

/-- R112, R154: the state after retire and before the drain check. -/
def retiredState (n : NestId) (s : State) : State :=
  (s.setNest n (s.nest n).retired).setLtc { s.ltc with ticketCount := s.ltc.ticketCount - 1 }

theorem retireTicket_eq (n : NestId) (s : State) : retireTicket n s = drainCheck (retiredState n s) := rfl

/-- R112: retire does not see the state that the nest left. -/
theorem Nest.retired_enter (x : Nest) (st : NestState) (g : Nat) : (x.enter st g).retired = x.retired := rfl

theorem enterUnload_waits {n : NestId} {s : State} (hs : (s.nest n).sensor = .used) (hl : (s.nest n).level = .closed) :
    enterUnload n s = s.setNest n ((s.nest n).enter .unload s.tkc.unloadLimit) := by
  simp only [enterUnload, State.setNest_nest_self]
  refine if_neg ?_
  simp [Nest.enter, hs, hl]

theorem enterUnload_retires {n : NestId} {s : State} (h : (s.nest n).sensor = .ignored ∨ (s.nest n).level = .opened) :
    enterUnload n s = drainCheck (retiredState n s) := by
  have retired : retireTicket n (s.setNest n ((s.nest n).enter .unload s.tkc.unloadLimit)) =
      drainCheck (retiredState n s) := by
    rw [retireTicket_eq, retiredState, State.setNest_nest_self, Nest.retired_enter, State.setNest_setNest]
    rfl
  rw [← retired]
  simp only [enterUnload, State.setNest_nest_self]
  exact if_pos h

theorem sensor_level_cases (x : Nest) : (x.sensor = .used ∧ x.level = .closed) ∨ (x.sensor = .ignored ∨ x.level = .opened) := by
  cases hs : x.sensor <;> cases hl : x.level <;> simp

/-- R112: the state of the nest after retire. -/
theorem retiredState_nest (n : NestId) (s : State) : (retiredState n s).nest n = (s.nest n).retired := by
  simp [retiredState]

theorem Nest.retired_code (x : Nest) : byte x.retired.state.code = if x.disablePending then [0] else [1] := by
  show byte (NestState.code (if x.disablePending then .disabled else .vacant)) = _
  split <;> rfl

/-! ### RELEASE_TICKET (R111, R171) -/

section
variable {nest : Byte} {n : NestId} (s : State)

theorem actReleaseTicket_not_held (hn : nestOf nest = some n) (h : ∀ c, s.flg.held = some c → c.nest ≠ n) :
    actReleaseTicket nest s = (Reply.bare .notHeld, s) := by
  simp only [actReleaseTicket, hn]
  split
  · rfl
  next c hc => exact if_neg (h c hc)

theorem actReleaseTicket_held {serial : Nat} (hn : nestOf nest = some n) (h : s.flg.held = some ⟨n, serial⟩) :
    actReleaseTicket nest s = (⟨.ok, [nest] ++ bytes4 serial ++
        byte ((releaseNest n (s.setFlg { s.flg with held := none })).nest n).state.code⟩,
      releaseNest n (s.setFlg { s.flg with held := none })) := by
  simp only [actReleaseTicket, hn, h, if_true]

end

theorem releaseNest_held {n : NestId} {s : State} (h : (s.nest n).state = .held) : releaseNest n s = enterUnload n s :=
  if_pos h

theorem releaseNest_other {n : NestId} {s : State} (h : (s.nest n).state ≠ .held) : releaseNest n s = s := if_neg h

/-- Settles O20. -/
theorem releaseTicketByStateAndSensor : Obligations.ReleaseTicketByStateAndSensor := by
  intro tag nest s hq
  have release : ∀ {reply : Reply} {t : State}, actReleaseTicket nest s = (reply, t) → reply.content.length ≤ 89 →
      exec (.releaseTicket tag nest) s = .next (t.replying 147 tag (byte reply.result.code ++ reply.content)) :=
    fun h hlen => exec_command_quiet (r := .releaseTicket nest) tag hq h hlen
  refine ⟨fun hn => release (by simp only [actReleaseTicket, nestOf_ge hn]; rfl) (Nat.zero_le _), fun hn => ?_⟩
  have hname := nestOf_lt hn
  refine ⟨fun h => release (actReleaseTicket_not_held s hname h) (Nat.zero_le _), fun serial hheld => ?_⟩
  have hact := actReleaseTicket_held s hname hheld
  have ok := release hact (by simp)
  refine ⟨fun hs hsensor hlevel => ?_, fun hs hgone => ?_, fun hs => ?_⟩
  · have hunload := enterUnload_waits (s := s.setFlg { s.flg with held := none }) hsensor hlevel
    rw [releaseNest_held (s := s.setFlg { s.flg with held := none }) hs, hunload, State.setNest_nest_self] at ok
    exact ok
  · have hretire := enterUnload_retires (s := s.setFlg { s.flg with held := none }) hgone
    rw [releaseNest_held (s := s.setFlg { s.flg with held := none }) hs, hretire, drainCheck_nest, retiredState_nest, Nest.retired_code] at ok
    refine ⟨fun hline => ?_, fun b hline hcount hb => ⟨_, ok, ?_⟩⟩
    · have hnot := drainCheck_not_due (retiredState ⟨nest.toNat, hn⟩ (s.setFlg { s.flg with held := none }))
        (hline.imp id fun h2 => by show s.ltc.ticketCount - 1 ≠ 0; omega)
      rw [hnot] at ok
      exact ok
    · exact drainCheck_drained b (retiredState ⟨nest.toNat, hn⟩ (s.setFlg { s.flg with held := none })) hline
        (by show s.ltc.ticketCount - 1 = 0; omega) hb
  · rw [releaseNest_other (s := s.setFlg { s.flg with held := none }) hs] at ok
    exact ok

/-! ### An ABORT proposed at the current stage (R99, R100, R102) -/

/-- R99: the ticket after a proposal of ABORT. -/
theorem Ticket.take_abort (t : Ticket) (stage : Stage) : t.AbortedTo (t.take ⟨.abort, stage, .abort, none⟩) stage := by
  cases hd : t.disp <;> simp [Ticket.AbortedTo, Ticket.take, Ticket.takeDefect, Disp.resolve, hd]

theorem Ticket.abortedTo_lastDriven {x y : Ticket} {stage : Stage} (h : x.AbortedTo y stage) (k : Option Nat) :
    x.AbortedTo { y with lastDriven := k } stage := h

theorem Nest.proposed_ticket (x : Nest) (t : Ticket) (p : Proposal) (ended : Bool) :
    (x.proposed t p ended).ticket =
      some (if x.abortsWaiting p || ended then { t.take p with lastDriven := none } else t.take p) := by
  unfold Nest.proposed; split <;> rfl

/-- R100, R102, R157: what an ABORT at the current stage makes of a nest under test. -/
theorem abortTicket_testAborted {n : NestId} {s : State} : TestAborted n s (abortTicket n s) := by
  intro x hx
  have took := x.take_abort (s.currentStage n)
  rw [abortTicket, propose_eq _ hx]
  simp only [State.setCtx_nest, State.setNest_nest_self, State.setCtx_ctx_self]
  refine ⟨_, Nest.proposed_ticket _ _ _ _, ?_, fun hs => ?_, fun hs hrun => ?_, fun hs => ?_⟩
  · split
    · exact took
    · exact took
  · have hwaits : (s.nest n).abortsWaiting ⟨.abort, s.currentStage n, .abort, none⟩ = true := by
      simpa [Nest.abortsWaiting] using hs
    rw [Nest.proposed, hwaits, Bool.true_or, if_pos rfl, if_pos rfl]
    refine ⟨rfl, rfl, rfl, fun hdrive harmed => ?_⟩
    simp [Nest.stopsFor, hwaits, hdrive, harmed, SweepCtx.stop]
  · have hwaits : (s.nest n).abortsWaiting ⟨.abort, s.currentStage n, .abort, none⟩ = false := by
      simp [Nest.abortsWaiting, hs]
    simp [Nest.proposed, Nest.stopsFor, hwaits, hs, hrun, SweepCtx.stop]
  · have hwaits : (s.nest n).abortsWaiting ⟨.abort, s.currentStage n, .abort, none⟩ = false := by
      simp [Nest.abortsWaiting, hs]
    simp [Nest.proposed, Nest.stopsFor, hwaits, hs]

/-- The relation reads one nest and its context alone. -/
theorem testAborted_congr {n : NestId} {s t u v : State} (hn : u.nest n = s.nest n) (hc : u.ctx n = s.ctx n)
    (hn' : v.nest n = t.nest n) (hc' : v.ctx n = t.ctx n) (h : TestAborted n s t) : TestAborted n u v := by
  have hstage : u.currentStage n = s.currentStage n := by simp only [State.currentStage, hn, hc]
  simp only [TestAborted, hn, hc, hn', hc', hstage]
  exact h

/-! ### LOT_ABORT (R157) -/

/-- The nest and the context of n are those of before. -/
def SameAt (n : NestId) (s t : State) : Prop := t.nest n = s.nest n ∧ t.ctx n = s.ctx n

theorem lotAbortNest_other (n m : NestId) (s : State) (h : m ≠ n) : SameAt n s (lotAbortNest m s) :=
  ⟨lotAbortNest_nest_other m s (Ne.symm h), lotAbortNest_ctx_other m s (Ne.symm h)⟩

theorem SameAt.trans {n : NestId} {s t u : State} (h : SameAt n s t) (k : SameAt n t u) : SameAt n s u :=
  ⟨k.1.trans h.1, k.2.trans h.2⟩

/-- R157: LOT_ABORT seen from one nest. -/
theorem eachNest_lotAbortNest_at (n : NestId) (s : State) :
    ((s.nest n).state.underTest = false → SameAt n s (State.eachNest lotAbortNest s)) ∧
      ((s.nest n).state.underTest = true → TestAborted n s (State.eachNest lotAbortNest s)) := by
  obtain ⟨u, ⟨hn, hc⟩, hafter, hafter'⟩ := eachNest_at (E := SameAt n) (fun _ => ⟨rfl, rfl⟩) SameAt.trans n
    (fun m s h => lotAbortNest_other n m s h) s
  constructor
  · intro h
    have hown : lotAbortNest n u = u := if_neg (by rw [hn, h]; simp)
    rw [hown] at hafter hafter'
    exact ⟨hafter.trans hn, hafter'.trans hc⟩
  · intro h
    have hown : lotAbortNest n u = abortTicket n u := if_pos (by rw [hn, h])
    rw [hown] at hafter hafter'
    exact testAborted_congr hn.symm hc.symm hafter hafter' abortTicket_testAborted

theorem underTestCount_eq (s : State) :
    s.underTestCount = (allNests.filter (fun n => (s.nest n).state.underTest)).length := by
  rw [State.underTestCount, nests_toList, List.filter_map, List.length_map]
  rfl

theorem eachNest_eq_self {f : NestId → State → State} {s : State} (h : ∀ n, f n s = s) : State.eachNest f s = s := by
  have run : ∀ l : List NestId, l.foldl (fun s n => f n s) s = s := by
    intro l
    induction l with
    | nil => rfl
    | cons n rest ih => rw [List.foldl_cons, h, ih]
  unfold State.eachNest
  exact run allNests

/-- R157: the lot after the proposals, before the drain check. -/
def abortedLot (s : State) : State :=
  let s := State.eachNest lotAbortNest (s.setLtc { s.ltc with aborted := true })
  s.setLtc { s.ltc with line := .closing }

theorem actLotAbort_closed {s : State} (h : s.ltc.line.hasTickets = false) :
    actLotAbort s = (Reply.bare .badState, s) := if_neg (by simp [h])

theorem actLotAbort_open {s : State} (h : s.ltc.line.hasTickets = true) : actLotAbort s =
    (⟨.ok, byte (drainCheck (abortedLot s)).ltc.line.code ++ byte s.underTestCount⟩, drainCheck (abortedLot s)) :=
  if_pos h

theorem abortedLot_ltc (s : State) : (abortedLot s).ltc = { s.ltc with line := .closing, aborted := true } := by
  simp [abortedLot]

theorem abortedLot_runs (s : State) : s.Runs (abortedLot s) := by
  have marked : s.Runs (s.setLtc { s.ltc with aborted := true }) := runs_of_plant rfl
  exact (marked.trans (eachNest_runs lotAbortNest_runs _)).trans (runs_of_plant rfl)

/-- R156, R157: with no ticket under test the proposals change nothing. -/
theorem abortedLot_idle {s : State} (h : ∀ n, (s.nest n).state.underTest = false) :
    abortedLot s = s.setLtc { s.ltc with line := .closing, aborted := true } := by
  have idle : State.eachNest lotAbortNest (s.setLtc { s.ltc with aborted := true }) =
      s.setLtc { s.ltc with aborted := true } :=
    eachNest_eq_self fun n => if_neg (by rw [State.setLtc_nest, h n]; simp)
  rw [abortedLot, idle]
  rfl

/-- Settles O19. -/
theorem lotAbortProposesToTicketsUnderTest : Obligations.LotAbortProposesToTicketsUnderTest := by
  intro tag s hq
  refine ⟨fun h => ?_, fun hl hc => ?_, fun b hl hc hidle hb => ?_⟩
  · refine exec_command_quiet (r := .lotAbort) tag hq (actLotAbort_closed ?_) (Nat.zero_le _)
    rcases h with h | h <;> rw [h] <;> rfl
  · have hline : s.ltc.line.hasTickets = true := by rcases hl with h | h <;> rw [h] <;> rfl
    have hnot : drainCheck (abortedLot s) = abortedLot s :=
      drainCheck_not_due _ (Or.inr (by rw [abortedLot_ltc]; exact hc))
    have hact := actLotAbort_open hline
    rw [hnot, abortedLot_ltc, underTestCount_eq] at hact
    have runs := abortedLot_runs s
    refine ⟨abortedLot s, exec_command_quiet (r := .lotAbort) tag hq hact (by simp), abortedLot_ltc s, fun n hn => ?_,
      fun n hn => ?_, ?_, ?_, ?_, ?_, ?_, ?_, ?_, ?_, runs.segments, ?_⟩
    · exact (eachNest_lotAbortNest_at n (s.setLtc { s.ltc with aborted := true })).1 hn
    · exact (eachNest_lotAbortNest_at n (s.setLtc { s.ltc with aborted := true })).2 hn
    all_goals simp [abortedLot]
  · have hline : s.ltc.line.hasTickets = true := by rcases hl with h | h <;> rw [h] <;> rfl
    have hact := actLotAbort_open hline
    have hcount : s.underTestCount = 0 := by
      rw [underTestCount_eq, List.length_eq_zero_iff, List.filter_eq_nil_iff]
      intro n _
      rw [hidle n]
      exact Bool.false_ne_true
    rw [abortedLot_idle hidle, hcount] at hact
    have hdrained := drainCheck_drained b (s.setLtc { s.ltc with line := .closing, aborted := true }) rfl hc hb
    refine ⟨_, (exec_command_quiet (r := .lotAbort) tag hq hact (by simp)).trans ?_, hdrained⟩
    rw [hdrained.line]
    rfl

end Sys2Proof.Machine
end

section
/-! PROOFS. The chain of a lot (R8): the walk, the conditions of a chain, and O16. -/

namespace Sys2Proof.Machine

open Sys2Proof Host

variable {table : Vector Segment 256}

/-- R8: the entries of `l` may follow those visited, each named by the one before it, and the last of them ends the
chain. -/
def Walks (table : Vector Segment 256) : List (Fin 256) → List (Fin 256) → Prop
  | _, [] => False
  | visited, k :: rest =>
    chainBreaks table[k] k visited = false ∧
      match rest with
      | [] => table[k].next = none
      | j :: more => table[k].next = some j ∧ Walks table (visited ++ [k]) (j :: more)

theorem walks_cons (visited : List (Fin 256)) (k : Fin 256) (rest : List (Fin 256)) :
    Walks table visited (k :: rest) ↔ chainBreaks table[k] k visited = false ∧ table[k].next = rest.head? ∧
      (rest ≠ [] → Walks table (visited ++ [k]) rest) := by
  cases rest with
  | nil => simp [Walks]
  | cons j more => simp [Walks]

/-- R8: the walk passes with the entries visited and those that may follow. -/
theorem chainWalk_pass_iff (more : Nat) (visited : List (Fin 256)) (k : Fin 256) (l : List (Fin 256)) :
    chainWalk table more visited k = .pass l ↔
      ∃ rest, l = visited ++ k :: rest ∧ rest.length ≤ more ∧ Walks table visited (k :: rest) := by
  induction more generalizing visited k with
  | zero =>
    unfold chainWalk
    simp only [walks_cons]
    by_cases hb : chainBreaks table[k] k visited = true
    · rw [if_pos hb]
      exact ⟨nofun, fun ⟨_, _, _, h, _⟩ => Bool.noConfusion (hb.symm.trans h)⟩
    · cases hn : table[k].next with
      | none =>
        simp only [hb]
        constructor
        · rintro ⟨⟩
          exact ⟨[], by simp, by simp, by simp⟩
        · rintro ⟨rest, rfl, hlen, -⟩
          rw [List.eq_nil_of_length_eq_zero (Nat.le_zero.1 hlen)]
          rfl
      | some j =>
        simp only [hb]
        constructor
        · rintro ⟨⟩
        · rintro ⟨rest, -, hlen, -, hhead, -⟩
          rw [List.eq_nil_of_length_eq_zero (Nat.le_zero.1 hlen)] at hhead
          cases hhead
  | succ m ih =>
    unfold chainWalk
    simp only [walks_cons]
    by_cases hb : chainBreaks table[k] k visited = true
    · rw [if_pos hb]
      exact ⟨nofun, fun ⟨_, _, _, h, _⟩ => Bool.noConfusion (hb.symm.trans h)⟩
    · cases hn : table[k].next with
      | none =>
        simp only [hb]
        constructor
        · rintro ⟨⟩
          exact ⟨[], by simp, by simp, by simp⟩
        · rintro ⟨rest, rfl, -, -, hhead, -⟩
          rw [List.head?_eq_none_iff.1 hhead.symm]
          rfl
      | some j =>
        simp only [hb]
        refine (ih (visited ++ [k]) j).trans ?_
        constructor
        · rintro ⟨rest, rfl, hlen, hw⟩
          exact ⟨j :: rest, by simp, by simpa using hlen, trivial, rfl, fun _ => hw⟩
        · rintro ⟨rest, rfl, hlen, -, hhead, hw⟩
          obtain ⟨more, rfl⟩ := List.head?_eq_some_iff.1 hhead.symm
          exact ⟨more, by simp, by simpa using hlen, hw (by simp)⟩

/-- R8: the conditions of the walk, place by place. -/
theorem walks_iff (l visited : List (Fin 256)) : Walks table visited l ↔
    l ≠ [] ∧ (∀ i k, l[i]? = some k → chainBreaks table[k] k (visited ++ l.take i) = false) ∧
      (∀ i k j, l[i]? = some k → l[i + 1]? = some j → table[k].next = some j) ∧
      ∀ k, l.getLast? = some k → table[k].next = none := by
  induction l generalizing visited with
  | nil => simp [Walks]
  | cons k rest ih =>
    rw [walks_cons]
    constructor
    · rintro ⟨hb, hnext, hw⟩
      refine ⟨by simp, fun i e he => ?_, fun i e j he hj => ?_, fun e he => ?_⟩
      · cases i with
        | zero => cases he; simpa using hb
        | succ i =>
          have hne : rest ≠ [] := by rintro rfl; cases he
          have := ((ih _).1 (hw hne)).2.1 i e he
          simpa using this
      · cases i with
        | zero => cases he; rw [hnext]; cases rest <;> simp_all
        | succ i =>
          have hne : rest ≠ [] := by rintro rfl; cases he
          exact ((ih _).1 (hw hne)).2.2.1 i e j he hj
      · cases rest with
        | nil => cases he; exact hnext
        | cons j more => exact ((ih _).1 (hw (by simp))).2.2.2 e (by simpa using he)
    · rintro ⟨-, hb, hlink, hlast⟩
      refine ⟨by simpa using hb 0 k rfl, ?_, fun hne => (ih _).2 ⟨hne, fun i e he => ?_, fun i e j he hj => ?_,
        fun e he => ?_⟩⟩
      · cases rest with
        | nil => exact hlast k rfl
        | cons j more => exact hlink 0 k j rfl rfl
      · simpa using hb (i + 1) e he
      · exact hlink (i + 1) e j he hj
      · refine hlast e ?_
        cases rest with
        | nil => exact absurd rfl hne
        | cons j more => simpa using he

/-- R8: what one entry must meet. -/
theorem chainBreaks_eq_false (e : Segment) (k : Fin 256) (visited : List (Fin 256)) :
    chainBreaks e k visited = false ↔ e.type ≠ .unused ∧ k ∉ visited ∧ (e.type = .presence → visited = []) ∧
      (e.law = .log → e.fStart ≠ e.fEnd) := by
  simp only [chainBreaks, Bool.or_eq_false_iff, beq_eq_false_iff_ne, ne_eq, Bool.and_eq_false_imp, beq_iff_eq,
    Bool.not_eq_eq_eq_not, Bool.not_false, List.isEmpty_iff, List.contains_eq_mem, decide_eq_false_iff_not, and_assoc]

/-- An entry that has not been visited at any place before it. -/
theorem nodup_iff_take (l : List (Fin 256)) : l.Nodup ↔ ∀ i k, l[i]? = some k → k ∉ l.take i := by
  rw [List.nodup_iff_getElem?_ne_getElem?]
  constructor
  · intro h i k hk hmem
    obtain ⟨j, hj⟩ := List.mem_iff_getElem?.1 hmem
    rw [List.getElem?_take] at hj
    split at hj
    next hji =>
      obtain ⟨hlt, -⟩ := List.getElem?_eq_some_iff.1 hk
      exact h j i hji hlt (hj.trans hk.symm)
    next => cases hj
  · intro h i j hij hj heq
    obtain ⟨k, hk⟩ : ∃ k, l[j]? = some k := ⟨l[j], List.getElem?_eq_getElem hj⟩
    refine h j k hk (List.mem_iff_getElem?.2 ⟨i, ?_⟩)
    rw [List.getElem?_take, if_pos hij, heq, hk]

/-- R8: the conditions of the walk from its first entry. -/
theorem walks_nil_iff (l : List (Fin 256)) : Walks table [] l ↔
    l ≠ [] ∧ l.Nodup ∧
      (∀ k ∈ l, table[k].type ≠ .unused ∧ (table[k].law = .log → table[k].fStart ≠ table[k].fEnd)) ∧
      (∀ i k, l[i]? = some k → table[k].type = .presence → i = 0) ∧
      (∀ i k j, l[i]? = some k → l[i + 1]? = some j → table[k].next = some j) ∧
      ∀ k, l.getLast? = some k → table[k].next = none := by
  have first : ∀ i k, l[i]? = some k → (l.take i = [] ↔ i = 0) := fun i k hk => by
    obtain ⟨hlt, -⟩ := List.getElem?_eq_some_iff.1 hk
    rw [List.take_eq_nil_iff]
    exact ⟨fun h => h.elim id fun h => by rw [h] at hlt; simp at hlt, Or.inl⟩
  rw [walks_iff, nodup_iff_take]
  simp only [List.nil_append, chainBreaks_eq_false]
  constructor
  · rintro ⟨hne, hb, hlink, hlast⟩
    refine ⟨hne, fun i k hk => (hb i k hk).2.1, fun k hk => ?_, fun i k hk hp => ?_, hlink, hlast⟩
    · obtain ⟨i, hi⟩ := List.mem_iff_getElem?.1 hk
      obtain ⟨h1, -, -, h4⟩ := hb i k hi
      exact ⟨h1, h4⟩
    · exact (first i k hk).1 ((hb i k hk).2.2.1 hp)
  · rintro ⟨hne, hnodup, heach, hpresence, hlink, hlast⟩
    refine ⟨hne, fun i k hk => ?_, hlink, hlast⟩
    obtain ⟨h1, h4⟩ := heach k (List.mem_iff_getElem?.2 ⟨i, hk⟩)
    exact ⟨h1, hnodup i k hk, fun hp => (first i k hk).2 (hpresence i k hk hp), h4⟩

/-- Settles O16: the walk passes with its entries, which are those of a chain. -/
theorem chainWalkPassesExactlyTheChains : Obligations.ChainWalkPassesExactlyTheChains := by
  intro table first l
  rw [validateChain, chainWalk_pass_iff]
  constructor
  · rintro ⟨rest, rfl, hlen, hw⟩
    obtain ⟨-, hnodup, heach, hpresence, hlink, hlast⟩ := (walks_nil_iff _).1 hw
    exact ⟨rfl, by simp; omega, hnodup, heach, hpresence, hlink, hlast⟩
  · rintro ⟨hhead, hlen, hnodup, heach, hpresence, hlink, hlast⟩
    obtain ⟨rest, rfl⟩ := List.head?_eq_some_iff.1 hhead
    exact ⟨rest, rfl, by simp at hlen; omega,
      (walks_nil_iff _).2 ⟨by simp, hnodup, heach, hpresence, hlink, hlast⟩⟩

end Sys2Proof.Machine
end

section
/-! PROOFS. The boundary steps of the taps and of the guard monitor, the count of the timers with the delays, the
stall events, the close event, the marker port and the records of PRESENCE and POLARITY: O32, O33, O44, O45, O48, O40. -/

namespace Sys2Proof.Machine

open Sys2Proof Host

/-- R3: a stamp on the grid of global boundaries. -/
theorem State.atBoundary_iff (s : State) : s.atBoundary = true ↔ s.tmb.stamp % 480 = 0 := beq_iff_eq

/-- The part of a list that a condition takes from its head. -/
theorem taken_from_head {α : Type} (p : α → Bool) (l : List α) :
    l = l.takeWhile p ++ l.dropWhile p ∧ (∀ x ∈ l.takeWhile p, p x = true) ∧
      ∀ x, (l.dropWhile p).head? = some x → ¬p x = true := by
  refine ⟨List.takeWhile_append_dropWhile.symm, fun x hx => List.mem_takeWhile_imp hx, fun x hx h => ?_⟩
  have := List.head?_dropWhile_not p l
  simp [hx, h] at this

/-! ### Taps and guard fields (O32) -/

/-- R30: a slot at a boundary. -/
theorem TapSlot.change_spec (t : TapSlot) (last : Option NestId) :
    (t.change last).pending = none ∧ (t.change last).carried = t.carried ∧
      (∀ src, t.pending = some src → (t.change last).current = src) ∧
      (t.pending = none → (t.change last).current = t.current) ∧
      ((t.change last).current = .follow → (t.change last).follow = last) := by
  cases hp : t.pending <;> simp only [TapSlot.change, hp, Option.getD] <;> split <;> simp_all

/-- R62: when saturation goes on at a boundary. -/
theorem GuardMon.checkSaturation_saturated (g : GuardMon) (stamp : Nat) :
    (g.checkSaturation stamp).saturated = true ↔ g.saturated = true ∧
      (16 ≤ g.trips.length ∨ ∃ d, g.lastDiscard = some d ∧ ¬atOrAfter (stampAdd d Config.tripLife) stamp = true) := by
  have ends : g.saturationOver stamp = true ↔ g.saturated = true ∧ g.trips.length < 16 ∧
      ∀ d, g.lastDiscard = some d → atOrAfter (stampAdd d Config.tripLife) stamp = true := by
    simp only [GuardMon.saturationOver, Bool.and_eq_true, decide_eq_true_iff, Option.all_eq_true, and_assoc]
    rfl
  unfold GuardMon.checkSaturation
  by_cases h : g.saturationOver stamp = true
  · obtain ⟨-, hl, hd⟩ := ends.1 h
    rw [if_pos h]
    refine ⟨nofun, fun ⟨_, k⟩ => ?_⟩
    rcases k with k | ⟨d, heq, k⟩
    · omega
    · exact absurd (hd d heq) k
  · rw [if_neg h]
    refine ⟨fun hs => ⟨hs, ?_⟩, And.left⟩
    by_contra k
    push Not at k
    exact h (ends.2 ⟨hs, k.1, k.2⟩)

/-- R62: the check changes the saturated state alone. -/
theorem GuardMon.checkSaturation_eq (g : GuardMon) (stamp : Nat) :
    g.checkSaturation stamp = { g with saturated := (g.checkSaturation stamp).saturated } := by
  unfold GuardMon.checkSaturation; split <;> rfl

/-- Settles O32. -/
theorem boundaryStepsOfTapsAndGuard : Obligations.BoundaryStepsOfTapsAndGuard := by
  intro s
  refine ⟨fun h => ?_, fun h => ?_⟩
  · have hb : ¬s.atBoundary = true := fun k => h (s.atBoundary_iff.1 k)
    exact ⟨if_neg hb, if_neg hb, if_neg hb, if_neg hb⟩
  · have hb : s.atBoundary = true := s.atBoundary_iff.2 h
    have old : ∀ t : Nat, atOrAfter (stampAdd t Config.tripLife) s.tmb.stamp = true ↔
        elapsed ((t + 10080) % 4026531840) s.tmb.stamp < 2013265920 := fun t => decide_eq_true_iff
    obtain ⟨hsplit, hgone, hkept⟩ :=
      taken_from_head (fun r : Trip => atOrAfter (stampAdd r.t Config.tripLife) s.tmb.stamp) s.gdm.trips
    refine ⟨fun ht => ?_, fun ht => ?_, ⟨_, _, hsplit, fun r hr => (old r.t).1 (hgone r hr),
      fun r hr => fun k => hkept r hr ((old r.t).2 k), if_pos hb,
      ((s.gdm.removeOld s.tmb.stamp).checkSaturation s.tmb.stamp).saturated, ?_, ?_⟩, fun ht => ?_, fun ht => ?_⟩
    · refine (if_pos hb).trans ?_
      rw [show s.fli.applyTaps = s.fli from if_pos ht]
      rfl
    · refine ⟨s.fli.taps.map (fun t => t.change s.fli.lastOpened), (if_pos hb).trans ?_, fun k => ?_⟩
      · rw [FrontLink.applyTaps_eq, ht]
        rfl
      · rw [show (s.fli.taps.map fun t => t.change s.fli.lastOpened)[k] = s.fli.taps[k].change s.fli.lastOpened from
          Vector.getElem_map _ _]
        exact s.fli.taps[k].change_spec s.fli.lastOpened
    · refine (if_pos hb).trans ?_
      rw [GuardMon.checkSaturation_eq]
      rfl
    · exact (GuardMon.checkSaturation_saturated _ _).trans (and_congr_right fun _ => or_congr_right
        (exists_congr fun d => and_congr_right fun _ => not_congr (old d)))
    · refine (if_pos hb).trans ?_
      rw [show s.gdm.applyConfig = s.gdm from if_pos ht]
      rfl
    · refine (if_pos hb).trans ?_
      rw [GuardMon.applyConfig_eq, ht]
      rfl

/-! ### The timers and the delays (O33) -/

/-- R97: the check changes nothing beyond the nest's drive status and the contexts of the nest. -/
theorem startCheck_leaves (n : NestId) (s : State) : ∃ nests ctx bka,
    startCheck n s = { s with
      tkc := { s.tkc with nests := nests }, swg := { s.swg with ctx := ctx }, bka := bka } := by
  unfold startCheck startSweep
  (repeat' split) <;> exact ⟨_, _, _, rfl⟩

/-- R97: the start request that is due. -/
theorem startCheck_due {n : NestId} {s : State} (h : s.canStart n = true) :
    (startCheck n s).nest n = { s.nest n with drive := .starting } ∧
      ((s.ctx n).state = .idle → (startCheck n s).ctx n = { s.ctx n with state := .armed } ∧
        (startCheck n s).ana n = (s.ana n).start) ∧
      ((s.ctx n).state ≠ .idle → (startCheck n s).ctx n = s.ctx n ∧ (startCheck n s).ana n = s.ana n) := by
  refine ⟨by rw [startCheck_nest, if_pos h], fun hc => ?_, fun hc => ?_⟩
  · rw [startCheck_ctx, startCheck_ana, if_pos ⟨h, hc⟩, if_pos ⟨h, hc⟩]
    exact ⟨rfl, rfl⟩
  · rw [startCheck_ctx, startCheck_ana, if_neg fun k => hc k.2, if_neg fun k => hc k.2]
    exact ⟨rfl, rfl⟩

theorem countTimers_spec (s : State) (n : NestId) : (countTimers s).nest n = { s.nest n with
    timer := (s.nest n).timer - 1
    expiry := if (s.nest n).timer = 1 then some s.tmb.stamp else (s.nest n).expiry } := countTimers_nest s n

/-- R97, R105: an expiry of a delay is the check of a nest in the waiting state after the timers' count. -/
theorem exec_delayExpiry {n : NestId} {s : State} {c : Instr} {waiting : NestState}
    (h : (c = .entryDelayExpiry n ∧ waiting = .entry) ∨ (c = .retestDelayExpiry n ∧ waiting = .retestWait)) :
    exec c s = if s.tmb.counted = true ∧ (s.nest n).state = waiting then .next (startCheck n s) else .next s := by
  rcases h with ⟨rfl, rfl⟩ | ⟨rfl, rfl⟩ <;> rfl

/-- Settles O33. -/
theorem boundaryCountsTimersAndDelaysRunOut : Obligations.BoundaryCountsTimersAndDelaysRunOut := by
  refine ⟨fun s => ⟨fun h hc => ?_, fun h => if_neg fun k => ?_⟩, fun n s c waiting hcases => ?_⟩
  · exact ⟨countTimers s, if_pos ⟨s.atBoundary_iff.2 h, hc⟩, rfl, rfl, rfl, rfl, countTimers_spec s, rfl, rfl, rfl, rfl,
      rfl, rfl, rfl, rfl, rfl, rfl, rfl⟩
  · obtain ⟨hb, hc⟩ := k
    rcases h with h | h
    · exact h (s.atBoundary_iff.1 hb)
    · rw [hc] at h; cases h
  · rw [exec_delayExpiry hcases]
    have waits : waiting = .entry ∨ waiting = .retestWait := hcases.imp And.right And.right
    have can : s.canStart n = true ↔ ((s.nest n).state = .entry ∨ (s.nest n).state = .retestWait) ∧
      (s.nest n).timer = 0 ∧ s.tkc.linkView = .locked ∧ (s.nest n).drive = .idle := canStart_iff n s
    refine ⟨fun hnot => ?_, fun ⟨hc, hs, ht, hl, hd⟩ => ?_⟩
    · by_cases hcs : s.tmb.counted = true ∧ (s.nest n).state = waiting
      · rw [if_pos hcs, startCheck_not_due n s fun k => hnot ⟨hcs.1, hcs.2, (can.1 k).2⟩]
      · exact if_neg hcs
    · have hstart : s.canStart n = true := can.2 ⟨by rw [hs]; exact waits, ht, hl, hd⟩
      obtain ⟨hn, hidle, hbusy⟩ := startCheck_due hstart
      obtain ⟨nests, ctx, bka, heq⟩ := startCheck_leaves n s
      refine ⟨startCheck n s, if_pos ⟨hc, hs⟩, hn, fun m hm => startCheck_nest_other n s hm, hidle, hbusy,
        fun m hm => ⟨startCheck_ctx_other n s hm, startCheck_ana_other n s hm⟩, ?_⟩
      rw [heq]
      exact ⟨rfl, rfl, rfl, rfl, rfl, rfl, rfl, rfl, rfl, rfl⟩

/-! ### The stall events (O44) -/

/-- R107: the detail of REPORT_STALL. -/
theorem State.stallDetail_eq (s : State) (e : BinEntry) : s.stallDetail e =
    (if 16 ≤ s.svc.reports.length then 1 else 0) + (if e.pattern ≠ 0 ∧ 16 ≤ s.bmu.queue.length then 2 else 0) := by
  have reports : s.reportsFull = true ↔ 16 ≤ s.svc.reports.length := decide_eq_true_iff
  have marker : s.markerFull e = true ↔ e.pattern ≠ 0 ∧ 16 ≤ s.bmu.queue.length := decide_eq_true_iff
  simp only [← reports, ← marker, State.stallDetail]
  cases s.reportsFull <;> cases s.markerFull e <;> rfl

theorem execReportStall_idle {n : NestId} {s : State} (h : (s.nest n).expiry = none ∨ (s.nest n).state ≠ .report) :
    execReportStall n s = .next s := by
  dsimp only [execReportStall]
  split
  · next hs hg _ =>
    rcases h with h | h
    · rw [h] at hg; cases hg
    · exact absurd hs h
  · rfl

theorem execReportStall_due {n : NestId} {s : State} {g : Nat} {x : Ticket} {e : BinEntry}
    (hg : (s.nest n).expiry = some g) (hx : (s.nest n).ticket = some x) (hs : (s.nest n).state = .report)
    (he : x.entry = some e) (hd : s.stallDetail e ≠ 0) :
    execReportStall n s = .next (raiseFault ⟨.reportStall, g, some n, some x.serial, BitVec.ofNat 16 (s.stallDetail e)⟩
      (s.setNest n { s.nest n with expiry := none })) := by
  simp only [execReportStall, hs, hg, hx, he, if_neg hd]

theorem execNestStuck_idle {n : NestId} {s : State} (h : (s.nest n).expiry = none ∨ (s.nest n).state ≠ .unload) :
    execNestStuck n s = .next s := by
  dsimp only [execNestStuck]
  split
  · next hs hg _ =>
    rcases h with h | h
    · rw [h] at hg; cases hg
    · exact absurd hs h
  · rfl

theorem execNestStuck_due {n : NestId} {s : State} {g : Nat} {x : Ticket} (hg : (s.nest n).expiry = some g)
    (hx : (s.nest n).ticket = some x) (hs : (s.nest n).state = .unload) :
    execNestStuck n s = .next (raiseStuck n g x.serial s) := by
  simp only [execNestStuck, hs, hg, hx]

theorem execMarkerStall_idle {s : State} (h : s.bmu.expiry = none ∨ s.bmu.port ≠ .waiting) :
    execMarkerStall s = .next s := by
  dsimp only [execMarkerStall]
  split
  · next hs hg _ =>
    rcases h with h | h
    · rw [h] at hg; cases hg
    · exact absurd hs h
  · rfl

theorem FaultLog.clean_iff (f : FaultLog) : f.clean = true ↔ f.first = none ∧ f.next = 0 := by
  simp [FaultLog.clean]

/-- R162: NEST_STUCK captures the ticket of the nest it names in a clean log. -/
theorem isCaptured_nestStuck {n : NestId} {s : State} {x : Ticket} (g : Nat) (detail : Half)
    (hx : (s.nest n).ticket = some x) (hs : (s.nest n).state = .unload) :
    isCaptured ⟨.nestStuck, g, some n, some x.serial, detail⟩ s = s.flg.clean := by
  simp [isCaptured, captureOf, State.holdsSerial, hx, hs, NestState.holdsTicket]
  cases s.flg.clean <;> simp [FaultKind.captures]

/-- Settles O44. -/
theorem expiredTimersRaiseTheirFaults : Obligations.ExpiredTimersRaiseTheirFaults := by
  intro n s
  refine ⟨execReportStall_idle, execNestStuck_idle, execMarkerStall_idle, fun g x hg hx => ⟨fun e hs he => ?_, fun hs => ?_⟩,
    fun g j rest hg hp hq => ?_⟩
  · rw [← s.stallDetail_eq e]
    exact fun hd => execReportStall_due hg hx hs he hd
  · have hcap := isCaptured_nestStuck g (BitVec.ofNat 16 s.tkc.unloadLimit) hx hs
    refine ⟨fun hclean => ?_, fun hclean => ?_⟩
    · refine (execNestStuck_due hg hx hs).trans (congrArg Outcome.next ?_)
      simp only [raiseStuck, hcap, s.flg.clean_iff.2 hclean, if_true]
      rfl
    · refine (execNestStuck_due hg hx hs).trans (congrArg Outcome.next ?_)
      simp only [raiseStuck, hcap, if_neg fun k => hclean (s.flg.clean_iff.1 k)]
  · show execMarkerStall s = _
    simp only [execMarkerStall, hg, hp, hq]
    rfl

/-! ### The close event (O45) -/

/-- Settles O45. -/
theorem closeEventOpensTicket : Obligations.CloseEventOpensTicket := by
  intro n s
  refine ⟨fun h => if_neg fun k => ?_, fun he hl => ⟨fun hno => (if_pos ⟨he, hl⟩).trans ?_, fun b hopens hb => ?_⟩⟩
  · obtain ⟨he, hl⟩ := k
    rcases h with h | h
    · rw [he] at h; cases h
    · rw [hl] at h; cases h
  · split
    · exact if_neg hno
    · rfl
  · have hlot : s.lot = some b := hb
    refine ⟨openTicket n b (s.setNest n ((s.nest n).settle .closed)), (if_pos ⟨he, hl⟩).trans ?_, openTicket_opened _ _ _, ?_⟩
    · rw [hlot]
      exact if_pos hopens
    · rw [openTicket_eq, startCheck_nest]
      have : ((openedTicket n b (s.setNest n ((s.nest n).settle .closed))).nest n).level = .closed := by
        rw [openedTicket_nest]
        simp [Nest.enter, Nest.settle]
      split <;> exact this

/-! ### The marker port (O48) -/

theorem BinMarker.takeUp_starts {b : BinMarker} (t : Nat) (hq : b.queue ≠ []) (hr : b.ready = true)
    (hp : b.port = .idle ∨ b.port = .waiting) : b.takeUp t = b.startJob t := by
  obtain ⟨j, rest, hj⟩ := List.exists_cons_of_ne_nil hq
  rcases hp with hp | hp <;> simp only [BinMarker.takeUp, hp, hj, hr]

theorem BinMarker.takeUp_waits {b : BinMarker} (t : Nat) (hq : b.queue ≠ []) (hr : b.ready = false)
    (hp : b.port = .idle) : b.takeUp t = b.await := by
  obtain ⟨j, rest, hj⟩ := List.exists_cons_of_ne_nil hq
  simp only [BinMarker.takeUp, hp, hj, hr]

theorem BinMarker.takeUp_stays {b : BinMarker} (t : Nat)
    (h : b.queue = [] ∨ (b.ready = false ∧ b.port = .waiting) ∨ (b.port ≠ .idle ∧ b.port ≠ .waiting)) :
    b.takeUp t = b := by
  unfold BinMarker.takeUp
  split <;> simp_all

/-- R127: the job in progress is over. -/
theorem State.jobOver_iff (s : State) : s.jobOver = true ↔
    (s.bmu.port = .gap ∨ (s.bmu.port = .strobe ∧ s.bmu.jobGap = 0)) ∧
      s.jobAge = 96 + s.bmu.jobWidth + s.bmu.jobGap := by
  simp [State.jobOver, Config.setupFrames]

/-- Settles O48. -/
theorem markerPortRunsItsJobs : Obligations.MarkerPortRunsItsJobs := by
  intro s hf hb
  have hend : s.atFrameEnd = true := by rw [State.atFrameEnd, hf, hb]; rfl
  have start : exec .markerJobStart s = .next (s.setBmu (s.bmu.takeUp s.lastFrame)) := if_pos hend
  refine ⟨fun hq hr hp => ?_, fun hq hr hp => ?_, fun h => ?_, fun hp ha => if_pos ⟨hend, hp, ha⟩,
    fun hp ha hg => if_pos ⟨hend, hp, hg, ha⟩, fun hp ha => ?_, beq_iff_eq, fun j rest hq => ?_⟩
  · rw [start, BinMarker.takeUp_starts _ hq hr hp]; rfl
  · rw [start, BinMarker.takeUp_waits _ hq hr hp]; rfl
  · rw [start, BinMarker.takeUp_stays _ h]; rfl
  · have remove : exec .markerJobRemove s = .next (s.setBmu (s.bmu.removeJob s.lastFrame)) :=
      if_pos (by rw [hend, s.jobOver_iff.2 ⟨hp, ha⟩]; rfl)
    intro idle
    refine ⟨fun hq => remove.trans ?_, fun hq hr => remove.trans ?_, fun hq hr => remove.trans ?_⟩
    · rw [BinMarker.removeJob, BinMarker.takeUp_stays _ (Or.inl hq)]; rfl
    · rw [BinMarker.removeJob, BinMarker.takeUp_starts (b := idle) _ hq hr (Or.inl rfl)]; rfl
    · rw [BinMarker.removeJob, BinMarker.takeUp_waits (b := idle) _ hq hr rfl]; rfl
  · cases hp : s.bmu.port <;> simp [BinMarker.patternLines, hp, hq]

/-! ### PRESENCE and POLARITY records (O40) -/

/-- Settles O40. -/
theorem presenceAndPolarityRecordsAreJudged : Obligations.PresenceAndPolarityRecordsAreJudged := by
  intro n h r mark s
  refine ⟨?_, ?_⟩
  · have seen : ((s.tally n).presence || (mark == .clean && decide (h.presence ≤ r.g))) =
        decide ((s.tally n).presence = true ∨ (mark = .clean ∧ h.presence ≤ r.g)) := by
      cases (s.tally n).presence <;> cases mark <;> simp
    refine ⟨fun hlast hnot => ?_, fun hor => ?_⟩
    · simp only [judgePresence, seen]
      exact if_pos (by simp [hlast, hnot])
    · simp only [judgePresence, seen]
      refine if_neg ?_
      rcases hor with hlast | hseen
      · simp [hlast]
      · simp [hseen]
  · have wrong : (mark == .clean && isWrong h r) = true ↔
        mark = .clean ∧ (r.silent = true ∨ h.tolerance < phaseDistance r.ph h.phase) := by
      simp [isWrong]
    refine ⟨fun hnot => if_neg fun k => hnot (wrong.1 k), fun hw hne => ?_, fun hw heq => ?_⟩
    · exact (if_pos (wrong.2 hw)).trans (if_neg hne)
    · exact (if_pos (wrong.2 hw)).trans (if_pos heq)

end Sys2Proof.Machine
end

section
/-! PROOFS. The frame-end of a frame: what a change of the link state does, and O28, O29, O30. -/

namespace Sys2Proof.Machine

open Sys2Proof Host

/-! ### The frame-end, part by part -/

section
variable (f : Option UpstreamFrame) (sensors : Byte) (ready : Bool) (s : State) (n : NestId)

theorem frameEnd_ctx : (frameEnd f sensors ready s).ctx n = (s.ctx n).advance := by simp [frameEnd, State.ctx]

theorem frameEnd_ana : (frameEnd f sensors ready s).ana n =
    (s.ana n).frameEnd (s.fli.frame f s.driveSlots s.tmb.stamp).mics[n] s.tmb.stamp := by
  simp [frameEnd, State.ana]

theorem frameEnd_fli : (frameEnd f sensors ready s).fli =
    (s.fli.frame f s.driveSlots s.tmb.stamp).carry (fun n => (s.ana n).residual) s.tmb.stamp := rfl

theorem frameEnd_gdm : (frameEnd f sensors ready s).gdm =
    s.gdm.frame s.tmb.stamp (s.fli.frame f s.driveSlots s.tmb.stamp).guardMic := rfl

end

/-! ### A change of the link state -/

/-- What the checks of waiting tickets may change. -/
def State.StartsTo (s t : State) : Prop := ∃ nests ctx bka,
  t = { s with tkc := { s.tkc with nests := nests }, swg := { s.swg with ctx := ctx }, bka := bka }

theorem eachNest_startCheck_startsTo (s : State) : s.StartsTo (State.eachNest startCheck s) :=
  eachNest_rel (fun _ => ⟨_, _, _, rfl⟩) (fun ⟨_, _, _, h⟩ ⟨_, _, _, k⟩ => by subst h k; exact ⟨_, _, _, rfl⟩)
    (fun n s => startCheck_leaves n s) s

/-- R26: the parts of the state after TKC has taken a change of the link state. -/
theorem takeLink_leaves (before : LinkState) (s : State) : ∃ nests ctx bka, takeLink before s = { s with
    tkc := { s.tkc with nests := nests, linkView := if s.fli.link = before then s.tkc.linkView else s.fli.link }
    swg := { s.swg with ctx := ctx }
    bka := bka } := by
  cases before <;> cases hl : s.fli.link
  · exact ⟨s.tkc.nests, s.swg.ctx, s.bka, by simp only [takeLink, hl]; rfl⟩
  · obtain ⟨nests, ctx, bka, h⟩ := eachNest_startCheck_startsTo { s with tkc := { s.tkc with linkView := .locked } }
    exact ⟨nests, ctx, bka, by simp only [takeLink, hl, h]; rfl⟩
  · exact ⟨s.tkc.nests, s.swg.ctx, s.bka, by simp only [takeLink, hl]; rfl⟩
  · exact ⟨s.tkc.nests, s.swg.ctx, s.bka, by simp only [takeLink, hl]; rfl⟩

/-- What the check of a waiting ticket of nest n reads and changes. -/
def StartSame (n : NestId) (s t : State) : Prop :=
  t.nest n = s.nest n ∧ t.ctx n = s.ctx n ∧ t.ana n = s.ana n ∧ t.tkc.linkView = s.tkc.linkView

theorem StartSame.trans {n : NestId} {s t u : State} (h : StartSame n s t) (k : StartSame n t u) : StartSame n s u :=
  ⟨k.1.trans h.1, k.2.1.trans h.2.1, k.2.2.1.trans h.2.2.1, k.2.2.2.trans h.2.2.2⟩

/-- The check of nest n reads nothing but what `StartSame` names. -/
theorem startCheck_congr {n : NestId} {s t : State} (h : StartSame n s t) :
    StartSame n (startCheck n s) (startCheck n t) := by
  obtain ⟨hn, hc, ha, hl⟩ := h
  have can : t.canStart n = s.canStart n := by simp only [State.canStart, hn, hl]
  refine ⟨?_, ?_, ?_, ?_⟩
  · rw [startCheck_nest, startCheck_nest, can, hn]
  · rw [startCheck_ctx, startCheck_ctx, can, hc]
  · rw [startCheck_ana, startCheck_ana, can, hc, ha]
  · rw [startCheck_linkView, startCheck_linkView, hl]

/-- The checks of all nests, seen from nest n. -/
theorem eachNest_startCheck_at (n : NestId) (s : State) : StartSame n (startCheck n s) (State.eachNest startCheck s) := by
  obtain ⟨u, before, after⟩ := eachNest_at (f := startCheck) (E := StartSame n) (fun _ => ⟨rfl, rfl, rfl, rfl⟩)
    (fun h k => h.trans k) n (fun m s hm => ⟨startCheck_nest_other m s (Ne.symm hm), startCheck_ctx_other m s (Ne.symm hm),
      startCheck_ana_other m s (Ne.symm hm), startCheck_linkView m s⟩) s
  exact (startCheck_congr before).trans after

/-- R97, R105: the ticket of nest n waits for the link alone. -/
def Nest.awaitsLink (x : Nest) : Prop :=
  x.timer = 0 ∧ x.drive = .idle ∧ (x.state = .entry ∨ x.state = .retestWait)

/-- R26: what a relock does in nest n. -/
theorem takeLink_relocked {before : LinkState} {s : State} (n : NestId) (hb : before = .searching)
    (hl : s.fli.link = .locked) (hw : (s.nest n).awaitsLink) :
    (takeLink before s).nest n = { s.nest n with drive := .starting } ∧
      ((s.ctx n).state = .idle → (takeLink before s).ctx n = { s.ctx n with state := .armed } ∧
        (takeLink before s).ana n = (s.ana n).start) ∧
      ((s.ctx n).state ≠ .idle → (takeLink before s).ctx n = s.ctx n ∧ (takeLink before s).ana n = s.ana n) := by
  let locked : State := { s with tkc := { s.tkc with linkView := .locked } }
  have ht : takeLink before s = State.eachNest startCheck locked := by simp only [takeLink, hb, hl]; rfl
  obtain ⟨timer, drive, state⟩ := hw
  obtain ⟨hn, hidle, hbusy⟩ := startCheck_due (n := n) (s := locked) ((canStart_iff n locked).2 ⟨state, timer, rfl, drive⟩)
  obtain ⟨en, ec, ea, -⟩ := eachNest_startCheck_at n locked
  rw [ht, en, ec, ea]
  exact ⟨hn, hidle, hbusy⟩

/-- R26: nothing else starts at a change of the link state. -/
theorem takeLink_waits {before : LinkState} {s : State} (n : NestId)
    (h : ¬(before = .searching ∧ s.fli.link = .locked ∧ (s.nest n).awaitsLink)) :
    (takeLink before s).nest n = s.nest n ∧ (takeLink before s).ctx n = s.ctx n ∧
      (takeLink before s).ana n = s.ana n := by
  cases before <;> cases hl : s.fli.link <;> unfold takeLink <;> rw [hl]
  case searching.locked =>
    let locked : State := { s with tkc := { s.tkc with linkView := .locked } }
    have hno : ¬locked.canStart n = true := fun k => by
      obtain ⟨state, timer, -, drive⟩ := (canStart_iff n locked).1 k
      exact h ⟨rfl, hl, timer, drive, state⟩
    obtain ⟨en, ec, ea, -⟩ := eachNest_startCheck_at n locked
    rw [startCheck_not_due n locked hno] at en ec ea
    exact ⟨en, ec, ea⟩
  all_goals exact ⟨rfl, rfl, rfl⟩

/-! ### The class of the frame and the lock state (O28) -/

theorem classify_good_iff (frame : Option UpstreamFrame) : classify frame = .good ↔
    ∃ f, frame = some f ∧ byteSum (slotBytes f) = f.check.toNat := by
  cases frame with
  | none => simp [classify]
  | some f => simp [classify]

/-- R24, R25: the lock state, the runs and the watch after a frame-end. -/
theorem FrontLink.lock_watch_eq (f : FrontLink) (c : FrameClass) (t : Nat) : (f.lock c t).watch = { f with
    link := ((f.lock c t).watch).link, goodRun := ((f.lock c t).watch).goodRun, badRun := ((f.lock c t).watch).badRun
    absentCount := ((f.lock c t).watch).absentCount, lossStamp := ((f.lock c t).watch).lossStamp } := by
  unfold FrontLink.watch FrontLink.lock FrontLink.fail
  (repeat' split) <;> rfl

theorem FrontLink.frame_eq (f : FrontLink) (frame : Option UpstreamFrame) (drive : Vector Int 8) (t : Nat) :
    f.frame frame drive t = { f with
      link := ((f.lock (classify frame) t).watch).link, goodRun := ((f.lock (classify frame) t).watch).goodRun
      badRun := ((f.lock (classify frame) t).watch).badRun
      absentCount := ((f.lock (classify frame) t).watch).absentCount
      lossStamp := ((f.lock (classify frame) t).watch).lossStamp
      mics := Vector.ofFn (fun n => micSample ((f.lock (classify frame) t).watch).link (classify frame) frame n)
      guardMic := guardSample ((f.lock (classify frame) t).watch).link (classify frame) frame
      driveSlots := drive, tapsTaken := false } := by
  rw [FrontLink.frame]
  exact congrArg (fun g : FrontLink => { g with
    mics := Vector.ofFn (fun n => micSample ((f.lock (classify frame) t).watch).link (classify frame) frame n)
    guardMic := guardSample ((f.lock (classify frame) t).watch).link (classify frame) frame
    driveSlots := drive, tapsTaken := false }) (f.lock_watch_eq (classify frame) t)

section
variable {f : FrontLink} (t : Nat)

/-- R24: a GOOD frame in SEARCHING. -/
theorem FrontLink.lock_searching_good (h : f.link = .searching) : (f.lock .good t).watch =
    if 48 ≤ f.goodRun + 1 then { f with link := .locked, goodRun := 0, badRun := 0, absentCount := 0, lossStamp := none }
    else { f with goodRun := f.goodRun + 1 } := by
  simp only [FrontLink.lock, h, Config.lockRun]
  split
  · rfl
  · simp only [FrontLink.watch]

/-- R24: any other frame in SEARCHING. -/
theorem FrontLink.lock_searching_other {c : FrameClass} (h : f.link = .searching) (hc : c ≠ .good) :
    (f.lock c t).watch = { f with goodRun := 0 } := by
  cases c
  · exact absurd rfl hc
  all_goals simp only [FrontLink.lock, FrontLink.watch, h]

/-- R24: a GOOD frame in LOCKED. -/
theorem FrontLink.lock_locked_good (h : f.link = .locked) : (f.lock .good t).watch =
    { f with badRun := 0, absentCount := 0, lossStamp := none } := by
  simp only [FrontLink.lock, FrontLink.watch, h]

/-- R24: any other frame in LOCKED. -/
theorem FrontLink.lock_locked_other {c : FrameClass} (h : f.link = .locked) (hc : c ≠ .good) : (f.lock c t).watch =
    if 8 ≤ f.badRun + 1 then { f with
      link := .searching, goodRun := 0, badRun := 0
      absentCount := f.absentCount + (if c = .absent then 1 else 0), lossStamp := some t }
    else { f with
      badRun := f.badRun + 1, absentCount := f.absentCount + (if c = .absent then 1 else 0), lossStamp := none } := by
  cases c
  · exact absurd rfl hc
  all_goals
    simp only [FrontLink.lock, FrontLink.fail, h, Config.lossRun]
    split
    · rfl
    · simp only [FrontLink.watch]
      rfl

end

theorem classify_absent_iff (frame : Option UpstreamFrame) : classify frame = .absent ↔ frame = none := by
  cases frame with
  | none => simp [classify]
  | some f =>
    simp only [classify]
    split <;> simp

/-- R24, R25: the seven values of the lock and the watch. -/
def FrontLink.LockedAs (f : FrontLink) (link : LinkState) (good bad absent : Nat) (loss : Option Nat) : Prop :=
  f.link = link ∧ f.goodRun = good ∧ f.badRun = bad ∧ f.absentCount = absent ∧ f.lossStamp = loss

/-- The frame-end's link front carries the values of the lock and the watch. -/
theorem frame_carry_lock (s : State) (frame : Option UpstreamFrame) (sensors : Byte) (ready : Bool) :
    (takeLink s.fli.link (frameEnd frame sensors ready s)).fli.LockedAs
      ((s.fli.lock (classify frame) s.tmb.stamp).watch).link ((s.fli.lock (classify frame) s.tmb.stamp).watch).goodRun
      ((s.fli.lock (classify frame) s.tmb.stamp).watch).badRun
      ((s.fli.lock (classify frame) s.tmb.stamp).watch).absentCount
      ((s.fli.lock (classify frame) s.tmb.stamp).watch).lossStamp := by
  rw [takeLink_fli]
  exact ⟨rfl, rfl, rfl, rfl, rfl⟩

/-- Settles O28. -/
theorem frameEndUpdatesLockState : Obligations.FrameEndUpdatesLockState := by
  intro frame sensors ready s
  refine ⟨takeLink s.fli.link (frameEnd frame sensors ready s), rfl, by rw [takeLink_tmb]; rfl, ?_, ?_⟩
  · obtain ⟨hlink, hgood, hbad, habsent, hloss⟩ := frame_carry_lock s frame sensors ready
    have hopened : (takeLink s.fli.link (frameEnd frame sensors ready s)).fli.lastOpened = s.fli.lastOpened := by
      rw [takeLink_fli, frameEnd_fli, FrontLink.frame_eq]; rfl
    have absent : (if classify frame = .absent then 1 else 0) = if frame = none then 1 else 0 :=
      if_congr (classify_absent_iff frame) rfl rfl
    dsimp only
    rw [hlink, hgood, hbad, habsent, hloss]
    refine ⟨fun hs hg hr => ?_, fun hs hg hr => ?_, fun hs hg => ?_, fun hl hg => ?_, fun hl hg => ?_, hopened⟩
    · rw [(classify_good_iff frame).2 hg, FrontLink.lock_searching_good _ hs, if_neg (by omega)]
      exact ⟨hs, rfl, rfl, rfl, rfl⟩
    · rw [(classify_good_iff frame).2 hg, FrontLink.lock_searching_good _ hs, if_pos (by omega)]
      exact ⟨rfl, rfl, rfl, rfl, rfl⟩
    · rw [FrontLink.lock_searching_other _ hs fun k => hg ((classify_good_iff frame).1 k)]
      exact ⟨hs, rfl, rfl, rfl, rfl⟩
    · rw [(classify_good_iff frame).2 hg, FrontLink.lock_locked_good _ hl]
      exact ⟨hl, rfl, rfl, rfl, rfl⟩
    · rw [FrontLink.lock_locked_other _ hl fun k => hg ((classify_good_iff frame).1 k), absent]
      split
      · exact ⟨rfl, fun k => by omega, fun _ => ⟨rfl, rfl, rfl, rfl⟩⟩
      · exact ⟨rfl, fun _ => ⟨hl, rfl, rfl, rfl⟩, fun k => by omega⟩
  · obtain ⟨nests, ctx, bka, ht⟩ := takeLink_leaves s.fli.link (frameEnd frame sensors ready s)
    rw [ht]
    exact ⟨rfl, rfl, rfl, rfl, rfl, rfl, rfl, rfl, rfl, rfl, rfl⟩

/-! ### The sensors (O30) -/

/-- R90: what a frame-end makes of a nest's sensor. -/
theorem Nest.sense_eq (x : Nest) (first : Bool) (raw : Level) : ∃ (level : Level) (steady : Nat) (due : Bool),
    x.sense first raw = { x with raw := raw, level := level, steady := steady, eventDue := due } ∧
      (first = true → level = raw ∧ steady = 0 ∧ due = false) ∧
      (first = false → level = x.level ∧ (raw = x.level → steady = 0 ∧ due = false) ∧
        (raw ≠ x.level → x.steady < 65535 → steady = x.steady + 1 ∧ (due = true ↔ x.debounce ≤ x.steady + 1))) := by
  cases first with
  | true => exact ⟨raw, 0, false, rfl, fun _ => ⟨rfl, rfl, rfl⟩, nofun⟩
  | false =>
    by_cases h : raw = x.level
    · exact ⟨x.level, 0, false, by simp [Nest.sense, h], nofun, fun _ => ⟨rfl, fun _ => ⟨rfl, rfl⟩, fun k => absurd h k⟩⟩
    · refine ⟨x.level, min 65535 (x.steady + 1), decide (x.debounce ≤ min 65535 (x.steady + 1)), by simp [Nest.sense, h],
        nofun, fun _ => ⟨rfl, fun k => absurd k h, fun _ hs => ?_⟩⟩
      rw [Nat.min_eq_right hs]
      exact ⟨rfl, decide_eq_true_iff⟩

/-- Settles O30. -/
theorem frameEndDebouncesSensors : Obligations.FrameEndDebouncesSensors := by
  intro frame sensors ready s
  refine ⟨takeLink s.fli.link (frameEnd frame sensors ready s), rfl, fun n => ?_⟩
  obtain ⟨level, steady, due, heq, hfirst, hlater⟩ :=
    (s.nest n).sense_eq (!s.tmb.framed) (levelOfBit (sensors.getLsbD n))
  have hnest : (frameEnd frame sensors ready s).nest n = { s.nest n with
      raw := levelOfBit (sensors.getLsbD n), level := level, steady := steady, eventDue := due } :=
    (frameEnd_nest _ _ _ _ _).trans heq
  have hctx := frameEnd_ctx frame sensors ready s n
  have idle : (s.ctx n).state ≠ .running → (s.ctx n).advance = s.ctx n := fun h => by
    unfold SweepCtx.advance; split <;> simp_all
  refine ⟨level, steady, due, ?_, ?_, ?_, fun h => hfirst (by rw [h]; rfl), fun h => hlater (by rw [h]; rfl)⟩
  · rw [takeLink_fli]
    by_cases h : s.fli.link = .searching ∧ (frameEnd frame sensors ready s).fli.link = .locked ∧ (s.nest n).timer = 0 ∧
        (s.nest n).drive = .idle ∧ ((s.nest n).state = .entry ∨ (s.nest n).state = .retestWait)
    · obtain ⟨hb, hl, ht, hd, hs⟩ := id h
      rw [(takeLink_relocked n hb hl (by rw [hnest]; exact ⟨ht, hd, hs⟩)).1, hnest]
      exact congrArg (fun d => { s.nest n with
        raw := levelOfBit (sensors.getLsbD n), level := level, steady := steady, eventDue := due, drive := d }) (if_pos h).symm
    · rw [(takeLink_waits n fun ⟨hb, hl, hw⟩ => h ⟨hb, hl, by rw [hnest] at hw; exact hw⟩).1, hnest]
      exact congrArg (fun d => { s.nest n with
        raw := levelOfBit (sensors.getLsbD n), level := level, steady := steady, eventDue := due, drive := d }) (if_neg h).symm
  · rw [takeLink_fli]
    rintro ⟨hb, hl, ht, hd, hs⟩ hidle
    have hadv := idle (by rw [hidle]; nofun)
    obtain ⟨hc, ha⟩ := (takeLink_relocked n hb hl (by rw [hnest]; exact ⟨ht, hd, hs⟩)).2.1 (by rw [hctx, hadv, hidle])
    rw [hc, ha]
    exact ⟨rfl, rfl, rfl, rfl⟩
  · rw [takeLink_fli]
    intro h hrun
    rw [(takeLink_waits n fun ⟨hb, hl, hw⟩ => h ⟨hb, hl, by rw [hnest] at hw; exact hw⟩).2.1, hctx, idle hrun]

/-! ### The samples (O29) -/

theorem SweepCtx.advance_state (c : SweepCtx) : c.advance.state = c.state := by
  unfold SweepCtx.advance; split <;> rfl

theorem SweepCtx.sample_eq (c : SweepCtx) : c.sample = if c.state = .running then
    max (-8388351) (sineTable (c.phase.toNat / 2 ^ 18) * (c.gain : Int) / 32768) else 0 := by
  unfold SweepCtx.sample
  split <;> simp [*, driveSample, phaseIndex, Config.driveLimit]

/-- The sum of no more than 24 bytes. -/
theorem byteSum_lt (l : List Byte) : byteSum l < 65536 := Nat.mod_lt _ (by decide)

/-- R22, R191: the bytes of a downstream frame. -/
theorem downstreamBytes_eq (slots : Vector Int 8) : downstreamBytes slots =
    (List.finRange 8).flatMap (fun n => tripleBytes (BitVec.ofInt 24 slots[n])) ++
      [BitVec.ofNat 8 (downstreamCheck slots / 256), BitVec.ofNat 8 (downstreamCheck slots)] := by
  have hlist : slots.toList = (List.finRange 8).map (fun n => slots[n]) := by
    refine List.ext_getElem (by simp) fun i h1 h2 => ?_
    simp
  simp only [downstreamBytes, hlist, List.flatMap_map]
  rfl

/-- R22: the check covers the slot bytes. -/
theorem downstreamBytes_take (slots : Vector Int 8) :
    (downstreamBytes slots).take 24 = slots.toList.flatMap sampleBytes := by
  have hlen : (slots.toList.flatMap sampleBytes).length = 24 := by
    rw [flatMap_length_const _ 3 fun _ => rfl]
    simp
  rw [downstreamBytes, List.take_left' hlen]

/-- R27: the samples of a frame are good ones, or lost. -/
theorem frame_samples (s : State) (frame : Option UpstreamFrame) :
    (∀ f, (((s.fli.frame frame s.driveSlots s.tmb.stamp).link = .locked ∧ frame = some f ∧
        byteSum (slotBytes f) = f.check.toNat) →
      (∀ n : NestId, (s.fli.frame frame s.driveSlots s.tmb.stamp).mics[n] = ⟨f.mics[n].toInt, false, f.clip.getLsbD n⟩) ∧
      (s.fli.frame frame s.driveSlots s.tmb.stamp).guardMic =
        if f.clip.getLsbD 8 then ⟨0, true, false⟩ else ⟨f.guard.toInt, false, false⟩)) ∧
    ((∀ f, ¬((s.fli.frame frame s.driveSlots s.tmb.stamp).link = .locked ∧ frame = some f ∧
        byteSum (slotBytes f) = f.check.toNat)) →
      (∀ n : NestId, (s.fli.frame frame s.driveSlots s.tmb.stamp).mics[n] = ⟨0, true, false⟩) ∧
        (s.fli.frame frame s.driveSlots s.tmb.stamp).guardMic = ⟨0, true, false⟩) := by
  have hmic : ∀ n : NestId, (s.fli.frame frame s.driveSlots s.tmb.stamp).mics[n] =
      micSample (s.fli.frame frame s.driveSlots s.tmb.stamp).link (classify frame) frame n := fun n =>
    Vector.getElem_ofFn _
  have hguard : (s.fli.frame frame s.driveSlots s.tmb.stamp).guardMic =
      guardSample (s.fli.frame frame s.driveSlots s.tmb.stamp).link (classify frame) frame := rfl
  simp only [hmic, hguard]
  generalize (s.fli.frame frame s.driveSlots s.tmb.stamp).link = link
  refine ⟨?_, fun h => ?_⟩
  · rintro f ⟨rfl, rfl, hf⟩
    rw [(classify_good_iff (some f)).2 ⟨f, rfl, hf⟩]
    exact ⟨fun _ => rfl, rfl⟩
  · cases hl : link <;> cases hc : classify frame <;> cases hf : frame
    case locked.good.some f =>
      obtain ⟨g, hg, hsum⟩ := (classify_good_iff frame).1 hc
      exact absurd ⟨hl, hg, hsum⟩ (h g)
    all_goals exact ⟨fun _ => rfl, rfl⟩

/-- R32, R37: an analysis context at a frame-end. -/
theorem Analysis.frameEnd_eq (a : Analysis) (x : Sample) (t : Nat) :
    (a.state = .opened → a.count < 480 → a.frameEnd x t = { a with
      buffer := a.buffer ++ [x.value], damaged := a.damaged || x.invalid || x.clipped
      i := a.i + x.value * sineTable (a.refPhase.toNat / 2 ^ 18 + 4096)
      q := a.q + x.value * sineTable (a.refPhase.toNat / 2 ^ 18)
      refPhase := a.refPhase + a.report.freqWord, count := a.count + 1
      residual := a.residual.map (fun r => r.pass t) }) ∧
    (a.state ≠ .opened ∨ 480 ≤ a.count → a.frameEnd x t = { a with residual := a.residual.map (fun r => r.pass t) }) := by
  refine ⟨fun hs hc => ?_, fun h => ?_⟩
  · have : a.frame x = a.takeSample x := by simp only [Analysis.frame, hs]; exact if_pos hc
    rw [Analysis.frameEnd, this]
    rfl
  · have : a.frame x = a := by
      unfold Analysis.frame
      split
      · next hs =>
        refine if_neg fun k => ?_
        rcases h with h | h
        · exact h hs
        · exact absurd k (Nat.not_lt.2 h)
      all_goals rfl
    rw [Analysis.frameEnd, this]

/-- R51: the guard block in progress after the sample of a frame. -/
theorem GuardMon.frame_spec (g : GuardMon) (stamp : Nat) (x : Sample) :
    let step := match g.prev with
      | some p => if p.invalid = true ∨ x.invalid = true then 0 else (x.value - p.value).natAbs
      | none => 0
    (stamp % 480 = 0 → g.frame stamp x = { g with
      start := stamp, eg := step, invalidSeen := x.invalid, threshold := g.current.threshold, closed := false
      prev := some x, configTaken := false }) ∧
    (stamp % 480 ≠ 0 → g.frame stamp x = { g with
      eg := max g.eg step, invalidSeen := g.invalidSeen || x.invalid, prev := some x, configTaken := false }) := by
  have step_eq : guardStep g.prev x = match g.prev with
      | some p => if p.invalid = true ∨ x.invalid = true then 0 else (x.value - p.value).natAbs
      | none => 0 := by
    cases g.prev with
    | none => rfl
    | some p => simp [guardStep]
  dsimp only
  rw [← step_eq]
  refine ⟨fun h => ?_, fun h => ?_⟩
  · rw [GuardMon.frame, if_pos (show onGrid stamp = true from beq_iff_eq.2 h)]
    simp [GuardMon.takeSample, GuardMon.beginBlock]
  · rw [GuardMon.frame, if_neg (show ¬onGrid stamp = true from fun k => h (beq_iff_eq.1 k))]
    rfl

/-- R31: what a slot carries. -/
theorem tapSample_eq (f : FrontLink) (residual : NestId → Option Residual) (t : Nat) (slot : TapSlot) :
    tapSample f residual t slot = match slot.current with
      | .off => 0
      | .mic m => f.mics[m].value
      | .guard => f.guardMic.value
      | .drive m => f.driveSlots[m]
      | .resid m => match residual m with
        | none => 0
        | some r => if r.spent then 0 else
          max (-8388608) (min 8388607 ((r.values[elapsed ((r.b0 + 480) % 4026531840) t]?).getD 0))
      | .follow => match slot.follow with
        | some m => f.mics[m].value
        | none => 0 := by
  unfold tapSample
  cases slot.current with
  | resid m =>
    cases hr : residual m with
    | none => simp [residSample, hr]
    | some r => simp only [residSample, hr]; rfl
  | follow => cases slot.follow <;> rfl
  | _ => rfl

/-- Settles O29. -/
theorem frameEndMovesSamples : Obligations.FrameEndMovesSamples := by
  intro frame sensors ready s
  let f := s.fli.frame frame s.driveSlots s.tmb.stamp
  have hfli : (takeLink s.fli.link (frameEnd frame sensors ready s)).fli =
      f.carry (fun n => (s.ana n).residual) s.tmb.stamp := takeLink_fli _ _
  have hdrive : f.driveSlots = s.driveSlots := rfl
  refine ⟨takeLink s.fli.link (frameEnd frame sensors ready s), rfl, fun n => ⟨?_, fun hrun => ?_⟩, ?_, ?_, fun n => ?_, ?_,
    ?_, fun n => ?_, ?_, fun k => ?_⟩
  · rw [hfli]
    exact (Vector.getElem_ofFn _).trans (s.ctx n).sample_eq
  · have hbusy : ((frameEnd frame sensors ready s).ctx n).state ≠ .idle := by
      rw [frameEnd_ctx, SweepCtx.advance_state, hrun]; nofun
    have hsame : (takeLink s.fli.link (frameEnd frame sensors ready s)).ctx n = (frameEnd frame sensors ready s).ctx n := by
      by_cases hw : s.fli.link = .searching ∧ (frameEnd frame sensors ready s).fli.link = .locked ∧
          ((frameEnd frame sensors ready s).nest n).awaitsLink
      · obtain ⟨hb, hl, hw⟩ := hw
        exact ((takeLink_relocked n hb hl hw).2.2 hbusy).1
      · exact (takeLink_waits n hw).2.1
    rw [hsame, frameEnd_ctx]
    simp only [SweepCtx.advance, hrun]
  · rw [hfli]
    refine ⟨downstreamCheck s.driveSlots, byteSum_lt _, downstreamBytes_eq _, ?_⟩
    rw [show (f.carry (fun n => (s.ana n).residual) s.tmb.stamp).driveSlots = s.driveSlots from rfl,
      downstreamBytes_take]
    rfl
  · rw [hfli]
    exact frame_samples s frame
  · obtain ⟨level, steady, due, heq, -, -⟩ := (s.nest n).sense_eq (!s.tmb.framed) (levelOfBit (sensors.getLsbD n))
    have hnest := (frameEnd_nest frame sensors ready s n).trans heq
    refine ⟨(frameEnd frame sensors ready s).ana n, ?_, ?_, fun h => ?_, fun h => ?_⟩
    · rw [hfli, frameEnd_ana]
      exact (Analysis.frameEnd_eq _ _ _).1
    · rw [frameEnd_ana]
      exact (Analysis.frameEnd_eq _ _ _).2
    · by_cases hw : s.fli.link = .searching ∧ (frameEnd frame sensors ready s).fli.link = .locked ∧
          ((frameEnd frame sensors ready s).nest n).awaitsLink
      · obtain ⟨hb, hl, hw⟩ := hw
        refine ((takeLink_relocked n hb hl hw).2.2 fun hidle => h ?_).2
        rw [hnest] at hw
        obtain ⟨ht, hd, hs⟩ := hw
        rw [frameEnd_ctx, SweepCtx.advance_state] at hidle
        exact ⟨hb, (congrArg FrontLink.link (takeLink_fli _ _)).trans hl, ht, hd, hs, hidle⟩
      · exact (takeLink_waits n hw).2.2
    · obtain ⟨hb, hl, ht, hd, hs, hidle⟩ := h
      refine ((takeLink_relocked n hb ((congrArg FrontLink.link (takeLink_fli _ _)).symm.trans hl) ?_).2.1 ?_).2
      · rw [hnest]; exact ⟨ht, hd, hs⟩
      · rw [frameEnd_ctx, SweepCtx.advance_state, hidle]
  · rw [hfli]; rfl
  · rw [takeLink_gdm]; rfl
  · obtain ⟨nests, ctx, bka, ht⟩ := takeLink_leaves s.fli.link (frameEnd frame sensors ready s)
    rw [ht]
    exact Vector.getElem_replicate _
  · rw [hfli, takeLink_gdm, frameEnd_gdm]
    obtain ⟨hon, hoff⟩ := s.gdm.frame_spec s.tmb.stamp f.guardMic
    by_cases hg : s.tmb.stamp % 480 = 0
    · rw [show s.gdm.frame s.tmb.stamp (s.fli.frame frame s.driveSlots s.tmb.stamp).guardMic = _ from hon hg]
      exact ⟨rfl, rfl, rfl, rfl, rfl, rfl, fun _ => ⟨rfl, rfl, rfl, rfl⟩, fun k => absurd hg k⟩
    · rw [show s.gdm.frame s.tmb.stamp (s.fli.frame frame s.driveSlots s.tmb.stamp).guardMic = _ from hoff hg]
      exact ⟨rfl, rfl, rfl, rfl, rfl, rfl, fun k => absurd k hg, fun _ => ⟨rfl, rfl, rfl, rfl⟩⟩
  · rw [hfli]
    have htaps : f.taps = s.fli.taps := (congrArg FrontLink.taps (FrontLink.frame_eq _ _ _ _)).trans rfl
    rw [show (f.carry (fun n => (s.ana n).residual) s.tmb.stamp).taps[k] = { f.taps[k] with
      carried := tapSample f (fun n => (s.ana n).residual) s.tmb.stamp f.taps[k] } from Vector.getElem_map _ _, htaps]
    exact congrArg (fun x => { s.fli.taps[k] with carried := x }) (tapSample_eq f _ _ _)

end Sys2Proof.Machine
end

section
/-! PROOFS. The sweep at its boundaries: its start, the beginning and the end of a drive block, O34 and O35. -/

namespace Sys2Proof.Machine

open Sys2Proof Host

/-! ### What the steps of a sweep may change -/

theorem State.StartsTo.refl (s : State) : s.StartsTo s := ⟨_, _, _, rfl⟩

theorem State.StartsTo.trans {s t u : State} (h : s.StartsTo t) (k : t.StartsTo u) : s.StartsTo u := by
  obtain ⟨_, _, _, rfl⟩ := h
  obtain ⟨_, _, _, rfl⟩ := k
  exact ⟨_, _, _, rfl⟩

theorem setNest_startsTo (n : NestId) (x : Nest) (s : State) : s.StartsTo (s.setNest n x) := ⟨_, _, _, rfl⟩

theorem setCtx_startsTo (n : NestId) (c : SweepCtx) (s : State) : s.StartsTo (s.setCtx n c) := ⟨_, _, _, rfl⟩

theorem beginBlock_startsTo (n : NestId) (c : SweepCtx) (s : State) : s.StartsTo (beginBlock n c s) := ⟨_, _, _, rfl⟩

theorem sweepStarted_startsTo (n : NestId) (s : State) : s.StartsTo (sweepStarted n s) := by
  dsimp only [sweepStarted]; split <;> exact setNest_startsTo _ _ _

theorem beginSweep_startsTo (n : NestId) (b : Binding) (s : State) : s.StartsTo (beginSweep n b s) :=
  (beginBlock_startsTo _ _ _).trans (sweepStarted_startsTo _ _)

theorem driveEnded_startsTo (n : NestId) (last : Option Nat) (s : State) : s.StartsTo (driveEnded n last s) := by
  cases hs : (s.nest n).state
  case sweep => rw [driveEnded_sweep n last s hs]; exact setNest_startsTo _ _ _
  case drain => rw [driveEnded_drain n last s hs]; exact setNest_startsTo _ _ _
  case entry =>
    rw [driveEnded_waiting n last s (Or.inl hs)]
    exact (setNest_startsTo _ _ _).trans (startCheck_leaves _ _)
  case retestWait =>
    rw [driveEnded_waiting n last s (Or.inr hs)]
    exact (setNest_startsTo _ _ _).trans (startCheck_leaves _ _)
  all_goals rw [driveEnded_other n last s (by rw [hs]; rfl)]; exact setNest_startsTo _ _ _

theorem endSweep_startsTo (n : NestId) (c : SweepCtx) (s : State) : s.StartsTo (endSweep n c s) :=
  (setCtx_startsTo _ _ _).trans (driveEnded_startsTo _ _ _)

theorem endBlock_startsTo (n : NestId) (s : State) : s.StartsTo (endBlock n s) := by
  unfold endBlock
  dsimp only
  split
  · exact endSweep_startsTo _ _ _
  · split
    · exact beginBlock_startsTo _ _ _
    · split
      · exact beginBlock_startsTo _ _ _
      · exact endSweep_startsTo _ _ _

/-! ### A block begins -/

/-- R16: the f-code of the block about to begin. -/
theorem SweepCtx.fcode_eq (c : SweepCtx) : c.fcode = if c.copy.type = .quiet then 0 else blockFcode c.copy c.blockIndex := by
  unfold SweepCtx.fcode; split <;> simp [*]

theorem joinHistory_getLast? (h : List DriveReport) (r : DriveReport) : (joinHistory h r).getLast? = some r := by
  have : h.length + 1 - Config.historyPlaces ≤ h.length := by unfold Config.historyPlaces; omega
  rw [joinHistory, List.drop_append_of_le_length this, List.getLast?_append]
  simp

/-- R16, R19: the context and the report of a block that begins. -/
theorem beginBlock_begins (n : NestId) (c : SweepCtx) (s : State) :
    ∃ f : Nat, f = (if c.copy.type = .quiet then 0 else blockFcode c.copy c.blockIndex) ∧
      (beginBlock n c s).ctx n = { c with
        freqWord := if c.copy.type = .quiet then 0 else freqWordOf f
        gain := if c.copy.type = .quiet then 0 else gainOf c.copy.level
        blockStart := s.tmb.stamp } ∧
      ∃ h, (beginBlock n c s).ana n = { s.ana n with history := h } ∧
        h.getLast? = some {
          start := s.tmb.stamp, programBlock := c.programBlock, type := c.copy.type
          settle := decide (c.blockIndex < c.copy.settle)
          lastOfSegment := decide (c.blockIndex + 1 = c.copy.duration), fcode := f, level := c.copy.level
          freqWord := if c.copy.type = .quiet then 0 else freqWordOf f, phase := c.phase
          b0 := (s.tmb.stamp + (s.nest n).delay) % 4026531840 } := by
  refine ⟨_, rfl, ?_, joinHistory (s.ana n).history ((c.begin s.tmb.stamp).report (s.nest n).delay), ?_, ?_⟩
  · rw [← SweepCtx.fcode_eq]
    simp [beginBlock, SweepCtx.begin]
  · simp [beginBlock]
  · rw [joinHistory_getLast?, ← SweepCtx.fcode_eq]
    rfl

/-! ### The start of a sweep (O34) -/

/-- R98: sweep-started in a waiting nest. -/
theorem sweepStarted_waiting {n : NestId} {s : State} (h : (s.nest n).state = .entry ∨ (s.nest n).state = .retestWait) :
    (sweepStarted n s).nest n = { s.nest n with state := .sweep, timer := 0, expiry := none, drive := .running } := by
  rw [sweepStarted, if_pos h]
  simp [Nest.enter]

/-- Settles O34. -/
theorem sweepStartsAtLockedBoundary : Obligations.SweepStartsAtLockedBoundary := by
  intro n b s hb
  have due : s.sweepDue n = true ↔ s.swg.processed[n] = false ∧ (s.ctx n).state = .armed ∧ s.fli.link = .locked :=
    sweepDue_iff n s
  refine ⟨fun h => if_neg fun k => h (s.atBoundary_iff.1 k), fun h hno => ?_, fun h hdue => ?_⟩
  · refine (if_pos (s.atBoundary_iff.2 h)).trans ?_
    rw [considerNest_not_due n s.markBoundary fun k => hno (due.1 k)]
    rfl
  · have hstep : exec (.sweepStart n) s = .next ((beginSweep n b s.markBoundary).setProcessed n) := by
      refine (if_pos (s.atBoundary_iff.2 h)).trans ?_
      rw [considerNest_due n b s.markBoundary hb (due.2 hdue)]
    obtain ⟨nests, ctx, bka, hleaves⟩ := beginSweep_startsTo n b s.markBoundary
    obtain ⟨f, hf, hctx, hist, hana, hlast⟩ :=
      beginBlock_begins n ((s.ctx n).starting s.swg.segments b.firstSegment) s.markBoundary
    subst hf
    refine ⟨_, hstep, ?_, ⟨?_, hist, ?_, hlast⟩, fun hw => ?_, fun m hm => ⟨?_, ?_, ?_⟩, ?_⟩
    · rw [hleaves]; rfl
    · exact (sweepStarted_ctx _ _ _).trans hctx
    · exact (sweepStarted_ana _ _ _).trans hana
    · have hnest := beginBlock_nest n ((s.ctx n).starting s.swg.segments b.firstSegment) s.markBoundary n
      refine (sweepStarted_waiting (n := n) (s := beginBlock n ((s.ctx n).starting s.swg.segments b.firstSegment)
        s.markBoundary) ?_).trans ?_
      · rw [hnest]; exact hw
      · rw [hnest]; rfl
    · exact (sweepStarted_nest_other _ _ hm).trans (beginBlock_nest _ _ _ _)
    · exact (sweepStarted_ctx _ _ _).trans (beginBlock_ctx_other _ _ _ hm)
    · exact (sweepStarted_ana _ _ _).trans (beginBlock_ana_other _ _ _ hm)
    · rw [hleaves]
      exact ⟨rfl, rfl, rfl, rfl, rfl, rfl, rfl, rfl, rfl, rfl, rfl⟩

/-! ### The end of a drive block (O35) -/

/-- R18: the drive block of nest n ends at this boundary. -/
theorem State.blockEndDue_iff (s : State) (n : NestId) : s.blockEndDue n = true ↔
    s.tmb.stamp % 480 = 0 ∧ (s.ctx n).state = .running ∧
      ((s.ctx n).blockStart + 480) % 4026531840 = s.tmb.stamp % 4026531840 := by
  simp only [State.blockEndDue, Bool.and_eq_true, State.atBoundary_iff, beq_iff_eq, and_assoc]
  rfl

section
variable (n : NestId) (c : SweepCtx) (s : State)

/-- R101: drive-ended in a nest with no waiting ticket leaves the contexts to SWG and BKA. -/
theorem endSweep_ctx (he : (s.nest n).state ≠ .entry) (hr : (s.nest n).state ≠ .retestWait) :
    (endSweep n c s).ctx n = { c with state := .idle, stopRequested := false } ∧ (endSweep n c s).ana n = s.ana n := by
  let ended := s.setCtx n { c with state := .idle, stopRequested := false }
  have hn : ended.nest n = s.nest n := rfl
  rw [show endSweep n c s = driveEnded n c.lastDriven ended from rfl]
  cases hs : (s.nest n).state
  case entry => exact absurd hs he
  case retestWait => exact absurd hs hr
  case sweep => rw [driveEnded_sweep n _ ended (hn ▸ hs)]; simp [ended]
  case drain => rw [driveEnded_drain n _ ended (hn ▸ hs)]; simp [ended]
  all_goals
    rw [driveEnded_other n _ ended (by rw [hn, hs]; rfl)]
    simp [ended]

theorem endSweep_nest_sweep (h : (s.nest n).state = .sweep) : (endSweep n c s).nest n = { s.nest n with
    state := .drain, timer := 0, expiry := none, drive := .idle
    ticket := (s.nest n).ticket.map (fun x => { x with lastDriven := c.lastDriven }) } := by
  rw [endSweep, driveEnded_sweep n _ (s.setCtx n _) h]
  simp [Nest.enter]

theorem endSweep_nest_drain (h : (s.nest n).state = .drain) : (endSweep n c s).nest n = { s.nest n with
    drive := .idle
    ticket := if (s.nest n).drive = .running then (s.nest n).ticket
      else (s.nest n).ticket.map (fun x => { x with lastDriven := c.lastDriven }) } := by
  rw [endSweep, driveEnded_drain n _ (s.setCtx n _) h]
  exact State.setNest_nest_self _ _ _

theorem endSweep_nest_untested (h : (s.nest n).state.underTest = false) :
    (endSweep n c s).nest n = { s.nest n with drive := .idle } := by
  rw [endSweep, driveEnded_other n _ (s.setCtx n _) h]
  simp

/-- R101, R15: drive-ended in a nest with a waiting ticket, which checks its own start. -/
theorem endSweep_waiting (h : (s.nest n).state = .entry ∨ (s.nest n).state = .retestWait) :
    let starts := (s.nest n).timer = 0 ∧ s.tkc.linkView = .locked
    (starts → (endSweep n c s).nest n = { s.nest n with drive := .starting } ∧
      (endSweep n c s).ctx n = { c with state := .armed, stopRequested := false } ∧
      (endSweep n c s).ana n = (s.ana n).start) ∧
    (¬starts → (endSweep n c s).nest n = { s.nest n with drive := .idle } ∧
      (endSweep n c s).ctx n = { c with state := .idle, stopRequested := false } ∧
      (endSweep n c s).ana n = s.ana n) := by
  let idle := (s.setCtx n { c with state := .idle, stopRequested := false }).setNest n { s.nest n with drive := .idle }
  have hnest : idle.nest n = { s.nest n with drive := .idle } := by simp [idle]
  have hctx : idle.ctx n = { c with state := .idle, stopRequested := false } := by simp [idle]
  have hana : idle.ana n = s.ana n := by simp [idle]
  have hcan : idle.canStart n = true ↔ (s.nest n).timer = 0 ∧ s.tkc.linkView = .locked := by
    rw [canStart_iff, hnest]
    exact ⟨fun ⟨_, ht, hl, _⟩ => ⟨ht, hl⟩, fun ⟨ht, hl⟩ => ⟨h, ht, hl, rfl⟩⟩
  have heq : endSweep n c s = startCheck n idle := driveEnded_waiting n _ _ h
  rw [heq]
  refine ⟨fun hs => ?_, fun hs => ?_⟩
  · obtain ⟨hn, hidle, -⟩ := startCheck_due (hcan.2 hs)
    obtain ⟨hc, ha⟩ := hidle (by rw [hctx])
    rw [hn, hc, ha, hnest, hctx, hana]
    exact ⟨rfl, rfl, rfl⟩
  · rw [startCheck_not_due n idle fun k => hs (hcan.1 k)]
    exact ⟨hnest, hctx, hana⟩

end

/-- Settles O35. -/
theorem driveBlockEndTakesFirstCase : Obligations.DriveBlockEndTakesFirstCase := by
  intro n s
  refine ⟨fun h => if_neg fun k => h ((s.blockEndDue_iff n).1 k), fun h => ?_⟩
  obtain ⟨nests, ctx, bka, hleaves⟩ := endBlock_startsTo n s.markBoundary
  refine ⟨_, if_pos ((s.blockEndDue_iff n).2 h), by rw [hleaves]; rfl, ?_, fun m hm => ⟨?_, ?_, ?_⟩, ?_⟩
  · let c : SweepCtx := { s.ctx n with lastDriven := some (s.ctx n).programBlock }
    refine ⟨fun hstop => ?_, fun hstop hmore => ?_, fun hstop hlast => ⟨fun k hk => ?_, fun hk => ?_⟩⟩
    · have heq : endBlock n s.markBoundary = endSweep n c s.markBoundary := if_pos hstop
      rw [heq]
      exact ⟨endSweep_ctx n c s.markBoundary, endSweep_nest_sweep n c s.markBoundary,
        endSweep_nest_drain n c s.markBoundary, endSweep_nest_untested n c s.markBoundary,
        endSweep_waiting n c s.markBoundary⟩
    · let next : SweepCtx := { c with blockIndex := c.blockIndex + 1, programBlock := c.programBlock + 1 }
      have heq : endBlock n s.markBoundary = beginBlock n next s.markBoundary :=
        (if_neg (Bool.eq_false_iff.1 hstop)).trans (if_pos hmore)
      rw [heq]
      exact ⟨beginBlock_begins n next s.markBoundary, beginBlock_nest n next s.markBoundary n⟩
    · let next : SweepCtx := { c.load s.swg.segments k with programBlock := c.programBlock + 1 }
      have heq : endBlock n s.markBoundary = beginBlock n next s.markBoundary := by
        refine (if_neg (Bool.eq_false_iff.1 hstop)).trans ((if_neg (Nat.not_lt.2 hlast)).trans ?_)
        rw [show (s.markBoundary.ctx n).copy.next = some k from hk]
        rfl
      rw [heq]
      exact ⟨beginBlock_begins n next s.markBoundary, beginBlock_nest n next s.markBoundary n⟩
    · have heq : endBlock n s.markBoundary = endSweep n c s.markBoundary := by
        refine (if_neg (Bool.eq_false_iff.1 hstop)).trans ((if_neg (Nat.not_lt.2 hlast)).trans ?_)
        rw [show (s.markBoundary.ctx n).copy.next = none from hk]
        rfl
      rw [heq]
      exact ⟨endSweep_ctx n c s.markBoundary, endSweep_nest_sweep n c s.markBoundary,
        endSweep_nest_drain n c s.markBoundary, endSweep_nest_untested n c s.markBoundary,
        endSweep_waiting n c s.markBoundary⟩
  · exact endBlock_nest_other _ _ hm
  · exact endBlock_ctx_other _ _ hm
  · exact endBlock_ana_other _ _ hm
  · rw [hleaves]
    exact ⟨rfl, rfl, rfl, rfl, rfl, rfl, rfl, rfl, rfl, rfl, rfl⟩

end Sys2Proof.Machine
end

section
/-! PROOFS. A proposal by the disposition order, O41, and the three checks of a band, O39. -/

namespace Sys2Proof.Machine

open Sys2Proof Host

/-! ### The ticket after a proposal (R86, R99) -/

/-- R99: the proposal changes the disposition. -/
def Disp.ChangedBy (d p : Disp) : Prop :=
  d = .opened ∨ (d = .marginal ∧ p ≠ .marginal) ∨ (d = .retest ∧ (p = .reject ∨ p = .abort))

/-- R99: the table, as what it changes. -/
theorem Disp.resolve_spec {d p : Disp} (hp : p ≠ .opened) :
    (d.ChangedBy p → d.resolve p = p ∧ p ≠ d) ∧ (¬d.ChangedBy p → d.resolve p = d) := by
  cases d <;> cases p <;> simp_all [Disp.ChangedBy, Disp.resolve]

/-- R86, R99: what a proposal makes of a ticket x. -/
def Ticket.TakenTo (x : Ticket) (p : Proposal) (y : Ticket) : Prop :=
  (x.disp.ChangedBy p.disp → y.disp = p.disp ∧ y.dispStage = some p.stage ∧ y.dispClass = some p.cls) ∧
  (¬x.disp.ChangedBy p.disp → y.disp = x.disp ∧ y.dispStage = x.dispStage ∧ y.dispClass = x.dispClass) ∧
  (y.marginal = true ↔ x.marginal = true ∨ p.disp = .marginal) ∧
  (p.defect = none → y.firstDefect = x.firstDefect ∧ y.later = x.later) ∧
  (∀ d, p.defect = some d → y.firstDefect = some (x.firstDefect.getD d) ∧ y.later = x.later.add d.cls) ∧
  y.serial = x.serial ∧ y.lotId = x.lotId ∧ y.attempt = x.attempt ∧ y.final = x.final ∧ y.entry = x.entry

/-- R99: the fields that a proposal sets. -/
theorem Ticket.take_eq (t : Ticket) (p : Proposal) : t.take p = { t.takeDefect p.defect with
    marginal := t.marginal || p.disp == .marginal
    disp := t.disp.resolve p.disp
    dispStage := if t.disp.resolve p.disp = t.disp then t.dispStage else some p.stage
    dispClass := if t.disp.resolve p.disp = t.disp then t.dispClass else some p.cls } := by
  have defect : (t.takeDefect p.defect).marginal = t.marginal ∧ (t.takeDefect p.defect).disp = t.disp ∧
      (t.takeDefect p.defect).dispStage = t.dispStage ∧ (t.takeDefect p.defect).dispClass = t.dispClass := by
    cases p.defect <;> exact ⟨rfl, rfl, rfl, rfl⟩
  obtain ⟨hm, hd, hs, hc⟩ := defect
  simp only [Ticket.take]
  simp only [← hm, ← hd, ← hs, ← hc]
  generalize t.takeDefect p.defect = u
  generalize u.disp.resolve p.disp = d
  by_cases hp : p.disp = .marginal <;> by_cases hr : d = u.disp <;> simp [hp, hr, beq_eq_decide]

/-- R86, R99. -/
theorem Ticket.take_takenTo (x : Ticket) {p : Proposal} (hp : p.disp ≠ .opened) : x.TakenTo p (x.take p) := by
  obtain ⟨changed, kept⟩ := Disp.resolve_spec (d := x.disp) hp
  rw [Ticket.take_eq]
  refine ⟨fun h => ?_, fun h => ?_, by simp, fun h => ?_, fun d h => ?_, ?_⟩
  · obtain ⟨hr, hne⟩ := changed h
    simp [hr, hne]
  · simp [kept h]
  · simp [h, Ticket.takeDefect]
  · simp [h, Ticket.takeDefect]
  · cases p.defect <;> exact ⟨rfl, rfl, rfl, rfl, rfl⟩

/-! ### The proposal (O41) -/

section
variable {c : SweepCtx}

theorem SweepCtx.stop_of_running (h : c.state = .running) : c.stop = { c with stopRequested := true } := by
  unfold SweepCtx.stop; split <;> simp_all

theorem SweepCtx.stop_of_armed (h : c.state = .armed) : c.stop = { c with state := .idle } := by
  unfold SweepCtx.stop; split <;> simp_all

theorem SweepCtx.stop_of_idle (h : c.state = .idle) : c.stop = c := by
  unfold SweepCtx.stop; split <;> simp_all

end

section
variable {n : NestId} {x : Ticket} {p : Proposal} {s : State}

/-- R100: a REJECT that sends a stop request. -/
theorem Nest.stopsFor_iff {x : Nest} {t : Ticket} (hp : p.disp ≠ .opened) (ha : p.disp ≠ .abort) (early : Bool) :
    x.stopsFor t p early = true ↔
      p.disp = .reject ∧ t.disp.ChangedBy p.disp ∧ x.state = .sweep ∧ early = true := by
  obtain ⟨changed, kept⟩ := Disp.resolve_spec (d := t.disp) hp
  have hwaits : x.abortsWaiting p = false := by simp [Nest.abortsWaiting, ha]
  have hdisp : (t.take p).disp ≠ t.disp ↔ t.disp.ChangedBy p.disp := by
    rw [Ticket.take_eq]
    by_cases h : t.disp.ChangedBy p.disp
    · obtain ⟨hr, hne⟩ := changed h
      simp [hr, hne, h]
    · simp [kept h, h]
  simp only [Nest.stopsFor, hwaits, Bool.false_eq_true, if_false, Bool.and_eq_true, Bool.or_eq_true, beq_iff_eq, ha,
    false_or, bne_iff_ne, hdisp]
  tauto

/-- R100: the lot has early-out on. -/
theorem State.earlyOut_iff (s : State) : s.earlyOut = true ↔ ∃ b, s.ltc.binding = some b ∧ b.earlyOut = true :=
  Option.any_eq_true _ _

/-- R99: the ticket and the sweep context after a proposal. -/
theorem propose_at (hx : (s.nest n).ticket = some x) :
    (propose n p s).nest n = (s.nest n).proposed x p ((s.nest n).stopsFor x p s.earlyOut && (s.ctx n).state == .armed) ∧
      (propose n p s).ctx n = if (s.nest n).stopsFor x p s.earlyOut then (s.ctx n).stop else s.ctx n := by
  rw [propose_eq p hx]
  simp

/-- R99: the ticket after a proposal, but for its last driven block. -/
theorem propose_ticket (hx : (s.nest n).ticket = some x) (hp : p.disp ≠ .opened) :
    let ended := (s.nest n).stopsFor x p s.earlyOut && (s.ctx n).state == .armed
    ∃ y, ((propose n p s).nest n).ticket = some y ∧ x.TakenTo p y ∧ (p.disp ≠ .abort → ended = false → y = x.take p) ∧
      (ended = true → y = { x.take p with lastDriven := none }) := by
  intro ended
  have hticket := (congrArg Nest.ticket (propose_at (p := p) hx).1).trans (Nest.proposed_ticket _ _ _ _)
  refine ⟨_, hticket, ?_, fun ha he => ?_, fun he => ?_⟩
  · split
    · exact x.take_takenTo hp
    · exact x.take_takenTo hp
  · have hw : (s.nest n).abortsWaiting p = false := by simp [Nest.abortsWaiting, ha]
    exact if_neg (Bool.eq_false_iff.1 (Bool.or_eq_false_iff.2 ⟨hw, he⟩))
  · exact if_pos (Bool.or_eq_true_iff.2 (Or.inr he))

theorem propose_bka (n : NestId) (p : Proposal) (s : State) : (propose n p s).bka = s.bka := by
  cases hx : (s.nest n).ticket with
  | none => rw [propose_none p hx]
  | some x => rw [propose_eq p hx]; rfl

/-- R99: a proposal of no ABORT that sends no stop request. -/
theorem Nest.proposed_kept {y : Nest} (ha : p.disp ≠ .abort) : y.proposed x p false = { y with ticket := some (x.take p) } := by
  simp [Nest.proposed, Nest.abortsWaiting, ha]

/-- R99 to R101: a proposal whose stop request met an ARMED context. -/
theorem Nest.proposed_ended {y : Nest} : y.proposed x p true = { y with
    state := .drain, timer := 0, expiry := none, drive := .idle, ticket := some { x.take p with lastDriven := none } } := by
  simp [Nest.proposed, Nest.enter]

end

/-- Settles O41. -/
theorem proposalFollowsDispositionOrder : Obligations.ProposalFollowsDispositionOrder := by
  intro n p s x hx hp
  obtain ⟨hnest, hctx⟩ := propose_at (p := p) hx
  obtain ⟨y, hy, taken, hkept, hended⟩ := propose_ticket hx hp
  obtain ⟨c1, c2, c3, c4, c5, c6, c7, c8, c9, c10⟩ := taken
  have stops : p.disp ≠ .abort → ((s.nest n).stopsFor x p s.earlyOut = true ↔ p.disp = .reject ∧
      x.disp.ChangedBy p.disp ∧ (s.nest n).state = .sweep ∧ ∃ b, s.ltc.binding = some b ∧ b.earlyOut = true) := fun ha => by
    rw [Nest.stopsFor_iff hp ha, State.earlyOut_iff]
  have others : (∀ m, m ≠ n → (propose n p s).nest m = s.nest m ∧ (propose n p s).ctx m = s.ctx m) ∧
      (propose n p s).bka = s.bka ∧ (propose n p s).jdu = s.jdu ∧ (propose n p s).yct = s.yct ∧
      (propose n p s).ltc = s.ltc ∧ (propose n p s).flg = s.flg ∧ (propose n p s).svc = s.svc :=
    ⟨fun m hm => ⟨propose_nest_other n p s hm, propose_ctx_other n p s hm⟩, propose_bka n p s, propose_jdu n p s,
      propose_yct n p s, propose_ltc n p s, propose_flg n p s, propose_svc n p s⟩
  refine ⟨y, hy, c1, c2, c3, c4, c5, c6, c7, c8, c9, c10, fun hs hrun => ?_, fun hs harm => ?_, fun hs hidle => ?_,
    fun hno ha => ?_, others⟩
  · have ha : p.disp ≠ .abort := by rw [hs.1]; nofun
    have hstop := (stops ha).2 hs
    have hend : ((s.nest n).stopsFor x p s.earlyOut && (s.ctx n).state == .armed) = false := by rw [hstop, hrun]; rfl
    rw [hctx, hnest, if_pos hstop, hend, Nest.proposed_kept ha, hkept ha hend, SweepCtx.stop_of_running hrun]
    exact ⟨rfl, rfl⟩
  · have ha : p.disp ≠ .abort := by rw [hs.1]; nofun
    have hstop := (stops ha).2 hs
    have hend : ((s.nest n).stopsFor x p s.earlyOut && (s.ctx n).state == .armed) = true := by rw [hstop, harm]; rfl
    rw [hctx, hnest, if_pos hstop, hend, Nest.proposed_ended, hended hend, SweepCtx.stop_of_armed harm]
    exact ⟨rfl, rfl, rfl⟩
  · have ha : p.disp ≠ .abort := by rw [hs.1]; nofun
    have hstop := (stops ha).2 hs
    have hend : ((s.nest n).stopsFor x p s.earlyOut && (s.ctx n).state == .armed) = false := by rw [hstop, hidle]; rfl
    rw [hctx, hnest, if_pos hstop, hend, Nest.proposed_kept ha, hkept ha hend, SweepCtx.stop_of_idle hidle]
    exact ⟨rfl, rfl⟩
  · have hstop : (s.nest n).stopsFor x p s.earlyOut = false := Bool.eq_false_iff.2 fun k => hno ((stops ha).1 k)
    have hend : ((s.nest n).stopsFor x p s.earlyOut && (s.ctx n).state == .armed) = false := by rw [hstop]; rfl
    rw [hctx, hnest, if_neg (Bool.eq_false_iff.1 hstop), hend, Nest.proposed_kept ha, hkept ha hend]
    exact ⟨rfl, rfl⟩

/-! ### The band of a MEASURE record (O39) -/

/-- R80: the band in use that holds the f-code, when there is none and when k is the first. -/
theorem LimitSet.bandFor_spec (l : LimitSet) (fcode : Nat) :
    let holds := fun k : Fin 32 => k.val < l.header.bandCount ∧ l.bands[k].fLo ≤ fcode ∧ fcode < l.bands[k].fHi
    ((∀ k, ¬holds k) → l.bandFor fcode = none) ∧
      ∀ k, holds k → (∀ j, j < k → ¬holds j) → l.bandFor fcode = some k := by
  intro holds
  have cond : ∀ k : Fin 32, (decide (k.val < l.header.bandCount) &&
      decide (l.bands[k].fLo ≤ fcode ∧ fcode < l.bands[k].fHi)) = true ↔ holds k := fun k => by
    rw [Bool.and_eq_true, decide_eq_true_iff, decide_eq_true_iff]
  refine ⟨fun h => List.find?_eq_none.2 fun k _ hk => h k ((cond k).1 hk), fun k hk hfirst => ?_⟩
  refine List.find?_eq_some_iff_getElem.2 ⟨(cond k).2 hk, k.val, by simp, by simp, fun j hj => ?_⟩
  rw [List.getElem_finRange]
  exact Bool.not_eq_true' _ ▸ (Bool.eq_false_iff.2 fun hc => hfirst _ (Fin.lt_def.2 hj) ((cond _).1 hc))

/-- R83: the check rejects. -/
def Check.fires (c : Check) (b : Band) (r : BlockRecord) (t : BandTally) : Bool :=
  c.exceeds b r && decide (b.persistence ≤ c.count t) && !c.declared t

/-- R83: the proposal of a check that rejects. -/
def Check.rejection (c : Check) (k : Fin 32) (b : Band) (r : BlockRecord) : Proposal :=
  ⟨.reject, .sweep, c.cls, some (c.defect k b r)⟩

/-- The ticket takes a proposal, or stays. -/
def Ticket.TakesIf (f : Bool) (x : Ticket) (p : Proposal) (y : Ticket) : Prop :=
  (f = true → x.TakenTo p y) ∧ (f = false → y = x)

theorem State.setBand_band (s : State) (n : NestId) (k : Fin 32) (t : BandTally) :
    ((s.setBand n k t).tally n).bands[k] = t := by simp [State.setBand]

/-- R83: one check, on the band tally and on the ticket. -/
theorem rejectCheck_spec {n : NestId} {k : Fin 32} {b : Band} {r : BlockRecord} {s : State} {x : Ticket} (c : Check)
    (hx : (s.nest n).ticket = some x) :
    let t := (s.tally n).bands[k]
    ((rejectCheck n k b r s c).tally n).bands[k] = (if c.fires b r t then c.declare t else t) ∧
      ∃ y, ((rejectCheck n k b r s c).nest n).ticket = some y ∧ x.TakesIf (c.fires b r t) (c.rejection k b r) y := by
  intro t
  by_cases hf : c.fires b r t = true
  · have heq : rejectCheck n k b r s c = propose n (c.rejection k b r) (s.setBand n k (c.declare t)) := if_pos hf
    obtain ⟨y, hy, taken, -, -⟩ := propose_ticket (s := s.setBand n k (c.declare t)) (p := c.rejection k b r) hx nofun
    rw [heq, propose_tally, State.setBand_band, if_pos hf]
    exact ⟨rfl, y, hy, fun _ => taken, fun h => absurd hf (Bool.eq_false_iff.1 h)⟩
  · have heq : rejectCheck n k b r s c = s := if_neg hf
    rw [heq, if_neg hf]
    exact ⟨rfl, x, hx, fun h => absurd h hf, fun _ => rfl⟩

/-- R83: a check reads its own count and its own flag, so that the declaration of another does not matter. -/
theorem Check.fires_declare {c d : Check} (h : c ≠ d) (b : Band) (r : BlockRecord) (f : Bool) (t : BandTally) :
    c.fires b r (if f then d.declare t else t) = c.fires b r t := by
  have count : c.count (d.declare t) = c.count t := by cases c <;> cases d <;> rfl
  have flag : c.declared (d.declare t) = c.declared t := by
    cases c <;> cases d <;> simp [Check.declared, Check.declare] at h ⊢
  cases f
  · rfl
  · simp only [Check.fires, if_true, count, flag]

/-- R83: the flags of the three checks after the checks that reject. -/
def BandTally.declaredIf (t : BandTally) (response distortion rub : Bool) : BandTally :=
  { t with responseDeclared := t.responseDeclared || response, distortionDeclared := t.distortionDeclared || distortion,
           rubDeclared := t.rubDeclared || rub }

theorem BandTally.declaredIf_eq (t : BandTally) (f1 f2 f3 : Bool) :
    (if f3 then Check.rub.declare (if f2 then Check.distortion.declare (if f1 then Check.response.declare t else t)
      else if f1 then Check.response.declare t else t) else if f2 then Check.distortion.declare
        (if f1 then Check.response.declare t else t) else if f1 then Check.response.declare t else t) =
      t.declaredIf f1 f2 f3 := by
  cases f1 <;> cases f2 <;> cases f3 <;> simp [BandTally.declaredIf, Check.declare]

/-- R83: the three checks in their order. -/
theorem rejectChecks_spec {n : NestId} {k : Fin 32} {b : Band} {r : BlockRecord} {s : State} {x : Ticket}
    (hx : (s.nest n).ticket = some x) :
    let t := (s.tally n).bands[k]
    let u := [Check.response, .distortion, .rub].foldl (rejectCheck n k b r) s
    (u.tally n).bands[k] = t.declaredIf (Check.response.fires b r t) (Check.distortion.fires b r t)
        (Check.rub.fires b r t) ∧
      ∃ x₁ x₂ y, (u.nest n).ticket = some y ∧
        x.TakesIf (Check.response.fires b r t) (Check.response.rejection k b r) x₁ ∧
        x₁.TakesIf (Check.distortion.fires b r t) (Check.distortion.rejection k b r) x₂ ∧
        x₂.TakesIf (Check.rub.fires b r t) (Check.rub.rejection k b r) y := by
  intro t u
  obtain ⟨b₁, x₁, h₁, t₁⟩ := rejectCheck_spec (k := k) (b := b) (r := r) .response hx
  obtain ⟨b₂, x₂, h₂, t₂⟩ := rejectCheck_spec (k := k) (b := b) (r := r) .distortion h₁
  obtain ⟨b₃, y, h₃, t₃⟩ := rejectCheck_spec (k := k) (b := b) (r := r) .rub h₂
  rw [b₁, Check.fires_declare (c := .distortion) (d := .response) nofun] at b₂ t₂
  rw [b₂, Check.fires_declare (c := .rub) (d := .distortion) nofun,
    Check.fires_declare (c := .rub) (d := .response) nofun] at b₃ t₃
  exact ⟨b₃.trans (BandTally.declaredIf_eq _ _ _ _), x₁, x₂, y, h₃, t₁, t₂, t₃⟩

/-- R82: the counts of the three checks. -/
def BandTally.checked (t : BandTally) (b : Band) (r : BlockRecord) : BandTally :=
  { t with
    judged := tallyUp t.judged
    respExceed := if Check.response.exceeds b r then tallyUp t.respExceed else t.respExceed
    dnExceed := if Check.distortion.exceeds b r then tallyUp t.dnExceed else t.dnExceed
    rbExceed := if Check.rub.exceeds b r then tallyUp t.rbExceed else t.rbExceed }

theorem BandTally.checked_eq (t : BandTally) (b : Band) (r : BlockRecord) :
    [Check.response, .distortion, .rub].foldl (fun t c => c.bump (c.exceeds b r) t) { t with judged := tallyUp t.judged } =
      t.checked b r := by
  simp only [List.foldl_cons, List.foldl_nil, BandTally.checked]
  cases Check.response.exceeds b r <;> cases Check.distortion.exceeds b r <;> cases Check.rub.exceeds b r <;> rfl

/-- R84: the record is marginal in some check. -/
def nearMargin (b : Band) (r : BlockRecord) : Bool :=
  [Check.response, .distortion, .rub].any (fun c => c.marginal b r)

/-- R84: the proposal of MARGINAL. -/
def marginalProposal : Proposal := ⟨.marginal, .sweep, .marginal, none⟩

/-- R82 to R84: a CLEAN record in its band, on the band tally and on the ticket. -/
theorem judgeBand_spec {n : NestId} {k : Fin 32} {b : Band} {r : BlockRecord} {s : State} {x : Ticket}
    (hx : (s.nest n).ticket = some x) :
    let t := ((s.tally n).bands[k]).checked b r
    let u := judgeBand n k b r s
    (u.tally n).bands[k] = t.declaredIf (Check.response.fires b r t) (Check.distortion.fires b r t)
        (Check.rub.fires b r t) ∧
      ∃ x₁ x₂ x₃ y, (u.nest n).ticket = some y ∧
        x.TakesIf (Check.response.fires b r t) (Check.response.rejection k b r) x₁ ∧
        x₁.TakesIf (Check.distortion.fires b r t) (Check.distortion.rejection k b r) x₂ ∧
        x₂.TakesIf (Check.rub.fires b r t) (Check.rub.rejection k b r) x₃ ∧
        x₃.TakesIf (nearMargin b r) marginalProposal y := by
  intro t u
  obtain ⟨hband, x₁, x₂, x₃, h₃, t₁, t₂, t₃⟩ := rejectChecks_spec (k := k) (b := b) (r := r) (s := s.setBand n k t) hx
  rw [State.setBand_band] at hband t₁ t₂ t₃
  have heq : u = if nearMargin b r then
      propose n marginalProposal ([Check.response, .distortion, .rub].foldl (rejectCheck n k b r) (s.setBand n k t))
      else [Check.response, .distortion, .rub].foldl (rejectCheck n k b r) (s.setBand n k t) := by
    simp only [u, judgeBand, BandTally.checked_eq]
    rfl
  rw [heq]
  by_cases hm : nearMargin b r = true
  · obtain ⟨y, hy, taken, -, -⟩ := propose_ticket (p := marginalProposal) h₃ nofun
    rw [if_pos hm, propose_tally]
    exact ⟨hband, x₁, x₂, x₃, y, hy, t₁, t₂, t₃, fun _ => taken, fun h => absurd hm (Bool.eq_false_iff.1 h)⟩
  · rw [if_neg hm]
    exact ⟨hband, x₁, x₂, x₃, x₃, h₃, t₁, t₂, t₃, fun h => absurd h hm, fun _ => rfl⟩

/-! ### What the proposals of the checks leave in the ticket -/

section
variable {f : Bool} {x y : Ticket} {c : Check} {k : Fin 32} {b : Band} {r : BlockRecord}

theorem Ticket.TakesIf.takes (h : x.TakesIf f p y) (hf : f = true) : x.TakenTo p y := h.1 hf

theorem Ticket.TakesIf.stays (h : x.TakesIf f p y) (hf : ¬f = true) : y = x := h.2 (Bool.eq_false_iff.2 hf)

/-- R86: the later-class set after a check. -/
theorem rejection_later (h : x.TakesIf f (c.rejection k b r) y) :
    y.later = if f then x.later.add c.cls else x.later := by
  cases f with
  | true => obtain ⟨-, -, -, -, later, -⟩ := h.takes rfl; exact (later _ rfl).2
  | false => rw [h.stays nofun]; rfl

/-- R86: the first defect after a check. -/
theorem rejection_firstDefect (h : x.TakesIf f (c.rejection k b r) y) :
    y.firstDefect = if f then some (x.firstDefect.getD (c.defect k b r)) else x.firstDefect := by
  cases f with
  | true => obtain ⟨-, -, -, -, first, -⟩ := h.takes rfl; exact (first _ rfl).1
  | false => rw [h.stays nofun]; rfl

theorem rejection_marginal (h : x.TakesIf f (c.rejection k b r) y) : y.marginal = x.marginal := by
  cases f with
  | true => obtain ⟨-, -, marginal, -⟩ := h.takes rfl; exact Bool.eq_iff_iff.2 (marginal.trans (or_iff_left nofun))
  | false => rw [h.stays nofun]

/-- R99: the standing of an attempt. -/
def Ticket.standing (x : Ticket) : Disp × Option Stage × Option Cls := (x.disp, x.dispStage, x.dispClass)

/-- R99: a check that rejects makes an attempt that stands no REJECT nor ABORT a REJECT of its class. -/
theorem rejection_standing (h : x.TakesIf f (c.rejection k b r) y) (hf : f = true) (hr : x.disp ≠ .reject)
    (ha : x.disp ≠ .abort) : y.standing = (.reject, some .sweep, some c.cls) := by
  obtain ⟨changed, -⟩ := h.takes hf
  obtain ⟨hd, hs, hc⟩ := changed (by
    cases hx : x.disp
    · exact Or.inl rfl
    · exact Or.inr (Or.inl ⟨rfl, nofun⟩)
    · exact Or.inr (Or.inr ⟨rfl, Or.inl rfl⟩)
    · exact absurd hx hr
    · exact absurd hx ha)
  simp only [Ticket.standing, hd, hs, hc]
  rfl

/-- R99: a REJECT stands under REJECT and MARGINAL. -/
theorem Ticket.TakesIf.keeps_reject {p : Proposal} (h : x.TakesIf f p y) (hx : x.disp = .reject) : y.standing = x.standing := by
  by_cases hf : f = true
  · obtain ⟨-, kept, -⟩ := h.takes hf
    obtain ⟨hd, hs, hc⟩ := kept (by rw [hx]; rintro (h | ⟨h, -⟩ | ⟨h, -⟩) <;> cases h)
    simp only [Ticket.standing, hd, hs, hc]
  · rw [h.stays hf]

theorem standing_iff {d : Disp} {stage : Option Stage} {cls : Option Cls} :
    x.standing = (d, stage, cls) ↔ x.disp = d ∧ x.dispStage = stage ∧ x.dispClass = cls := by
  simp [Ticket.standing]

theorem Ticket.TakesIf.keeps_standing {p : Proposal} {stage : Option Stage} {cls : Option Cls} (h : x.TakesIf f p y)
    (hx : x.standing = (.reject, stage, cls)) : y.standing = (.reject, stage, cls) := by
  obtain ⟨hd, -, -⟩ := standing_iff.1 hx
  exact (h.keeps_reject hd).trans hx

/-- R86: a first defect stays. -/
theorem rejection_keeps_defect {d : Defect} (h : x.TakesIf f (c.rejection k b r) y) (hd : x.firstDefect = some d) :
    y.firstDefect = some d := by
  rw [rejection_firstDefect h, hd]
  split <;> rfl

/-- R84, R99: what a proposal of MARGINAL makes of a ticket. -/
theorem marginal_takesIf (h : x.TakesIf f marginalProposal y) :
    y.later = x.later ∧ y.firstDefect = x.firstDefect ∧ (y.marginal = true ↔ x.marginal = true ∨ f = true) ∧
      (f = true → x.disp = .opened → y.standing = (.marginal, some .sweep, some .marginal)) ∧
      (¬f = true ∨ x.disp ≠ .opened → y.standing = x.standing) := by
  by_cases hf : f = true
  · obtain ⟨changed, kept, marginal, none, -⟩ := h.takes hf
    have changes : x.disp.ChangedBy .marginal ↔ x.disp = .opened := by simp [Disp.ChangedBy]
    refine ⟨(none rfl).2, (none rfl).1, marginal.trans (by simp [hf, marginalProposal]), fun _ ho => ?_, fun ho => ?_⟩
    · obtain ⟨hd, hs, hc⟩ := changed (changes.2 ho)
      simp only [Ticket.standing, hd, hs, hc]
      rfl
    · obtain ⟨hd, hs, hc⟩ := kept fun k => ho.elim (fun n => n hf) fun n => n (changes.1 k)
      simp only [Ticket.standing, hd, hs, hc]
  · rw [h.stays hf]
    exact ⟨rfl, rfl, (or_iff_left hf).symm, fun k => absurd k hf, fun _ => rfl⟩

end

/-- R86: the later-class set after the three checks. -/
theorem ClassSet.after_checks (l : ClassSet) (f₁ f₂ f₃ : Bool) :
    let a := if f₁ then l.add Check.response.cls else l
    let b := if f₂ then a.add Check.distortion.cls else a
    let c := if f₃ then b.add Check.rub.cls else b
    (c.response = true ↔ l.response = true ∨ f₁ = true) ∧ (c.distortion = true ↔ l.distortion = true ∨ f₂ = true) ∧
      (c.rub = true ↔ l.rub = true ∨ f₃ = true) ∧ c.polarity = l.polarity := by
  cases f₁ <;> cases f₂ <;> cases f₃ <;> simp [ClassSet.add, Check.cls]

/-! ### The conditions of the checks -/

section
variable {b : Band} {r : BlockRecord}

theorem response_exceeds : Check.response.exceeds b r = true ↔ r.silent = true ∨ r.g < b.gLo ∨ b.gHi < r.g := by
  simp [Check.exceeds]

theorem distortion_exceeds : Check.distortion.exceeds b r = true ↔ r.silent = false ∧ b.dnMax < r.dn := by
  simp [Check.exceeds]

theorem rub_exceeds : Check.rub.exceeds b r = true ↔ r.silent = false ∧ b.rbMax < r.rb := by
  simp [Check.exceeds]

/-- R84: a value within the margin of a limit that it does not exceed. -/
theorem nearMargin_iff : nearMargin b r = true ↔ r.silent = false ∧
    ((¬(r.silent = true ∨ r.g < b.gLo ∨ b.gHi < r.g) ∧ (r.g < b.gLo + b.margin ∨ b.gHi - b.margin < r.g)) ∨
      (¬(r.silent = false ∧ b.dnMax < r.dn) ∧ b.dnMax - b.margin < r.dn) ∨
        (¬(r.silent = false ∧ b.rbMax < r.rb) ∧ b.rbMax - b.margin < r.rb)) := by
  cases hs : r.silent
  · simp [nearMargin, Check.marginal, Check.exceeds, hs]
    omega
  · simp [nearMargin, Check.marginal, hs]

theorem Check.fires_iff (c : Check) (t : BandTally) : c.fires b r t = true ↔
    c.exceeds b r = true ∧ b.persistence ≤ c.count t ∧ c.declared t = false := by
  simp [Check.fires, and_assoc]

end

/-- Settles O39. -/
theorem bandChecksCountRejectAndMark : Obligations.BandChecksCountRejectAndMark := by
  refine ⟨fun n l r mark s => ?_, fun n k b r s x hx => ?_⟩
  · obtain ⟨hnone, hsome⟩ := l.bandFor_spec r.fcode
    refine ⟨fun h => ?_, fun k hk hfirst => ⟨fun hm => ?_, fun hm => ?_⟩⟩
    · simp only [judgeMeasure, hnone h]
    · simp only [judgeMeasure, hsome k hk hfirst, hm]
      rfl
    · simp only [judgeMeasure, hsome k hk hfirst, hm]
  · obtain ⟨hband, x₁, x₂, x₃, y, hy, t₁, t₂, t₃, tm⟩ := judgeBand_spec (k := k) (b := b) (r := r) hx
    let t := ((s.tally n).bands[k]).checked b r
    have fires₁ := (Check.fires_iff (b := b) (r := r) .response t).trans (and_congr_left' response_exceeds)
    have fires₂ := (Check.fires_iff (b := b) (r := r) .distortion t).trans (and_congr_left' distortion_exceeds)
    have fires₃ := (Check.fires_iff (b := b) (r := r) .rub t).trans (and_congr_left' rub_exceeds)
    obtain ⟨mlater, mfirst, mmarginal, mstands, mkeeps⟩ := marginal_takesIf tm
    obtain ⟨l₁, l₂, l₃, l₄⟩ := ClassSet.after_checks x.later (Check.response.fires b r t) (Check.distortion.fires b r t)
      (Check.rub.fires b r t)
    rw [← rejection_later t₁, ← rejection_later t₂, ← rejection_later t₃, ← mlater] at l₁ l₂ l₃ l₄
    dsimp only
    rw [hband]
    refine ⟨rfl, rfl, fun h => if_pos (response_exceeds.2 h), fun h => if_neg (mt response_exceeds.1 h),
      fun h => if_pos (distortion_exceeds.2 h), fun h => if_neg (mt distortion_exceeds.1 h),
      fun h => if_pos (rub_exceeds.2 h), fun h => if_neg (mt rub_exceeds.1 h),
      Bool.or_eq_true_iff.trans (or_congr_right fires₁), Bool.or_eq_true_iff.trans (or_congr_right fires₂),
      Bool.or_eq_true_iff.trans (or_congr_right fires₃), y, hy, l₁.trans (or_congr_right fires₁),
      l₂.trans (or_congr_right fires₂), l₃.trans (or_congr_right fires₃), l₄, ?_, fun h₁ => ?_, fun n₁ h₂ => ?_,
      fun n₁ n₂ h₃ => ?_, fun n₁ n₂ n₃ => ?_⟩
    · rw [mmarginal, rejection_marginal t₃, rejection_marginal t₂, rejection_marginal t₁]
      exact or_congr_right nearMargin_iff
    · have h₁ := fires₁.2 h₁
      refine ⟨mfirst.trans (rejection_keeps_defect t₃ (rejection_keeps_defect t₂
        ((rejection_firstDefect t₁).trans (if_pos h₁)))), fun hr ha => ?_⟩
      exact standing_iff.1 (tm.keeps_standing (t₃.keeps_standing (t₂.keeps_standing (rejection_standing t₁ h₁ hr ha))))
    · have n₁ := mt fires₁.1 n₁
      have h₂ := fires₂.2 h₂
      rw [t₁.stays n₁] at t₂
      refine ⟨mfirst.trans (rejection_keeps_defect t₃ ((rejection_firstDefect t₂).trans (if_pos h₂))), fun hr ha => ?_⟩
      exact standing_iff.1 (tm.keeps_standing (t₃.keeps_standing (rejection_standing t₂ h₂ hr ha)))
    · have n₁ := mt fires₁.1 n₁
      have n₂ := mt fires₂.1 n₂
      have h₃ := fires₃.2 h₃
      rw [t₂.stays n₂, t₁.stays n₁] at t₃
      refine ⟨mfirst.trans ((rejection_firstDefect t₃).trans (if_pos h₃)), fun hr ha => ?_⟩
      exact standing_iff.1 (tm.keeps_standing (rejection_standing t₃ h₃ hr ha))
    · have same : x₃ = x := by
        rw [t₃.stays (mt fires₃.1 n₃), t₂.stays (mt fires₂.1 n₂), t₁.stays (mt fires₁.1 n₁)]
      rw [same] at mfirst mstands mkeeps
      refine ⟨mfirst, fun hn ho => standing_iff.1 (mstands (nearMargin_iff.2 hn) ho), fun hn => ?_⟩
      exact standing_iff.1 (mkeeps (hn.imp_left (mt nearMargin_iff.1)))

end Sys2Proof.Machine
end

section
/-! PROOFS. The departure of due records and what the judging of one may change: O38. -/

namespace Sys2Proof.Machine

open Sys2Proof Host

/-! ### What judging may change -/

/-- The ticket of nest n is in SWEEP or DRAIN. -/
def State.Tests (s : State) (n : NestId) : Prop :=
  ((s.nest n).state = .sweep ∨ (s.nest n).state = .drain) ∧ ∃ x, (s.nest n).ticket = some x

/-- What the judging of a record of nest n may change, and that the nest's ticket stays under test. -/
def State.JudgedTo (n : NestId) (s t : State) : Prop :=
  (∃ nests ctx tally live, t = { s with
    tkc := { s.tkc with nests := nests }, swg := { s.swg with ctx := ctx }
    jdu := { s.jdu with tally := tally }, yct := { s.yct with live := live } }) ∧ (s.Tests n → t.Tests n)

theorem State.JudgedTo.refl (n : NestId) (s : State) : s.JudgedTo n s := ⟨⟨_, _, _, _, rfl⟩, id⟩

theorem State.JudgedTo.trans {n : NestId} {s t u : State} (h : s.JudgedTo n t) (k : t.JudgedTo n u) : s.JudgedTo n u := by
  obtain ⟨⟨_, _, _, _, rfl⟩, h⟩ := h
  obtain ⟨⟨_, _, _, _, rfl⟩, k⟩ := k
  exact ⟨⟨_, _, _, _, rfl⟩, k ∘ h⟩

section
variable (n : NestId) (s : State)

theorem setTally_judgedTo (y : Tally) : s.JudgedTo n (s.setTally n y) := ⟨⟨_, _, _, _, rfl⟩, id⟩

theorem setBand_judgedTo (k : Fin 32) (t : BandTally) : s.JudgedTo n (s.setBand n k t) := setTally_judgedTo n s _

theorem propose_judgedTo (p : Proposal) : s.JudgedTo n (propose n p s) := by
  cases hx : (s.nest n).ticket with
  | none => rw [propose_none p hx]; exact .refl n s
  | some x =>
    refine ⟨?_, fun ⟨hs, _⟩ => ?_⟩
    · rw [propose_eq p hx]; exact ⟨_, _, _, _, rfl⟩
    · rw [State.Tests, (propose_at (p := p) hx).1, Nest.proposed_ticket]
      refine ⟨?_, _, rfl⟩
      unfold Nest.proposed
      split
      · exact Or.inr rfl
      · exact hs

theorem countRecord_judgedTo (mark : Mark) : s.JudgedTo n (countRecord n mark s) := by
  cases mark <;> exact ⟨⟨_, _, _, _, rfl⟩, id⟩

theorem judgePresence_judgedTo (h : LimitHeader) (r : BlockRecord) (mark : Mark) :
    s.JudgedTo n (judgePresence n h r mark s) := by
  simp only [judgePresence]
  split
  · exact (setTally_judgedTo n s _).trans (propose_judgedTo n _ _)
  · exact setTally_judgedTo n s _

theorem judgePolarity_judgedTo (h : LimitHeader) (r : BlockRecord) (mark : Mark) :
    s.JudgedTo n (judgePolarity n h r mark s) := by
  simp only [judgePolarity]
  split
  · split
    · exact (setTally_judgedTo n s _).trans (propose_judgedTo n _ _)
    · exact setTally_judgedTo n s _
  · exact .refl n s

theorem rejectCheck_judgedTo (k : Fin 32) (b : Band) (r : BlockRecord) (c : Check) :
    s.JudgedTo n (rejectCheck n k b r s c) := by
  simp only [rejectCheck]
  split
  · exact (setBand_judgedTo n s k _).trans (propose_judgedTo n _ _)
  · exact .refl n s

theorem judgeBand_judgedTo (k : Fin 32) (b : Band) (r : BlockRecord) : s.JudgedTo n (judgeBand n k b r s) := by
  have checks : ∀ u : State,
      u.JudgedTo n ([Check.response, .distortion, .rub].foldl (rejectCheck n k b r) u) := fun u =>
    ((rejectCheck_judgedTo n u k b r _).trans (rejectCheck_judgedTo n _ k b r _)).trans (rejectCheck_judgedTo n _ k b r _)
  simp only [judgeBand]
  split
  · exact ((setBand_judgedTo n s k _).trans (checks _)).trans (propose_judgedTo n _ _)
  · exact (setBand_judgedTo n s k _).trans (checks _)

theorem judgeMeasure_judgedTo (l : LimitSet) (r : BlockRecord) (mark : Mark) :
    s.JudgedTo n (judgeMeasure n l r mark s) := by
  simp only [judgeMeasure]
  split
  · exact setTally_judgedTo n s _
  · split
    · exact setBand_judgedTo n s _ _
    · exact judgeBand_judgedTo n s _ _ r

theorem judgeByType_judgedTo (l : LimitSet) (r : BlockRecord) (mark : Mark) : s.JudgedTo n (judgeByType n l r mark s) := by
  have counted := countRecord_judgedTo n s mark
  simp only [judgeByType]
  split
  · exact counted.trans (judgePresence_judgedTo n _ _ r mark)
  · exact counted.trans (judgePolarity_judgedTo n _ _ r mark)
  · exact counted.trans (judgeMeasure_judgedTo n _ l r mark)
  all_goals exact counted

end

/-! ### The judging of one record -/

section
variable {n : NestId} {r : BlockRecord} {s : State}

/-- R73: a record of any other nest is dropped. -/
theorem judgeRecord_dropped (h : ¬((s.nest n).state = .sweep ∨ (s.nest n).state = .drain)) : judgeRecord n r s = s := by
  simp only [judgeRecord]
  split
  · exact if_neg h
  · rfl

/-- R101: the report that a record has been judged. -/
theorem blockJudged_tests {z : Ticket} (index : Nat) (hs : (s.nest n).state = .sweep ∨ (s.nest n).state = .drain)
    (hz : (s.nest n).ticket = some z) : blockJudged n index s =
      s.setNest n { s.nest n with ticket := some { z with lastJudged := some index } } := by
  rw [blockJudged, if_pos hs, hz]
  rfl

/-- R73: a record of a nest in SWEEP or DRAIN. -/
theorem judgeRecord_judged {x : Ticket} {b : Binding} {mark : Mark} (hb : s.ltc.binding = some b)
    (hx : (s.nest n).ticket = some x) (hm : r.mark = some mark)
    (hs : (s.nest n).state = .sweep ∨ (s.nest n).state = .drain) :
    judgeRecord n r s = blockJudged n r.programBlock (if r.settle = true ∨ r.type = .quiet then s
      else judgeByType n s.jdu.sets[b.activeSet x.attempt] r mark s) := by
  have hlot : s.lot = some b := hb
  simp only [judgeRecord, hlot, hx, hm, if_pos hs]

section
variable {l : LimitSet} {mark : Mark}

theorem judgeByType_presence (h : r.type = .presence) :
    judgeByType n l r mark s = judgePresence n l.header r mark (countRecord n mark s) := by simp only [judgeByType, h]

theorem judgeByType_polarity (h : r.type = .polarity) :
    judgeByType n l r mark s = judgePolarity n l.header r mark (countRecord n mark s) := by simp only [judgeByType, h]

theorem judgeByType_measure (h : r.type = .measure) :
    judgeByType n l r mark s = judgeMeasure n l r mark (countRecord n mark s) := by simp only [judgeByType, h]

end

theorem judgeRecord_judgedTo (n : NestId) (r : BlockRecord) (s : State) : s.JudgedTo n (judgeRecord n r s) := by
  by_cases hs : (s.nest n).state = .sweep ∨ (s.nest n).state = .drain
  · simp only [judgeRecord]
    split
    next b x mark hb hx hm =>
      rw [if_pos hs]
      have judged : s.JudgedTo n (if r.settle = true ∨ r.type = .quiet then s
          else judgeByType n s.jdu.sets[b.activeSet x.attempt] r mark s) := by
        split
        · exact .refl n s
        · exact judgeByType_judgedTo n s _ r mark
      obtain ⟨hu, z, hz⟩ := judged.2 ⟨hs, x, hx⟩
      refine judged.trans ?_
      rw [blockJudged_tests _ hu hz]
      exact ⟨⟨_, _, _, _, rfl⟩, fun ⟨hw, _⟩ => ⟨by rw [State.setNest_nest_self]; exact hw, _, by rw [State.setNest_nest_self]⟩⟩
    next => exact .refl n s
  · rw [judgeRecord_dropped hs]; exact .refl n s

end

/-! ### The records that depart -/

theorem judgeRecords_judgedTo (n : NestId) (l : List BlockRecord) (s : State) :
    s.JudgedTo n (l.foldl (fun u r => judgeRecord n r u) s) := by
  induction l generalizing s with
  | nil => exact .refl n s
  | cons r rest ih => exact (judgeRecord_judgedTo n r s).trans (ih _)

/-- R73: the records of a nest that is not in SWEEP or DRAIN are dropped. -/
theorem judgeRecords_dropped {n : NestId} {s : State} (l : List BlockRecord)
    (h : ¬((s.nest n).state = .sweep ∨ (s.nest n).state = .drain)) : l.foldl (fun u r => judgeRecord n r u) s = s := by
  induction l with
  | nil => rfl
  | cons r rest ih => rw [List.foldl_cons, judgeRecord_dropped h, ih]

/-- R49: the record with the mark that GDM gives it. -/
def BlockRecord.released (r : BlockRecord) (g : GuardMon) : BlockRecord := { r with mark := some (releaseMark g r) }

/-- R49: the state from which the due records are judged. -/
def departed (n : NestId) (g : GuardMon) (kept : List BlockRecord) (s : State) : State :=
  { s with tmb := { s.tmb with boundary := true }, gdm := g, bka := (s.bka.set n { s.ana n with queue := kept }) }

theorem departBlocks_eq (n : NestId) (s : State) :
    let g := s.gdm.atBoundary s.tmb.stamp
    departBlocks n s.markBoundary =
      (((s.ana n).queue.takeWhile (isDue g.current.post s.tmb.stamp)).map (fun r => r.released g)).foldl
        (fun u r => judgeRecord n r u)
        (departed n g ((s.ana n).queue.dropWhile (isDue g.current.post s.tmb.stamp)) s) := by
  intro g
  rw [List.foldl_map]
  rfl

/-- R57, R62: GDM's work at a boundary is that of the end of saturation, with the fields that it takes there. -/
theorem GuardMon.atBoundary_eq (g : GuardMon) (stamp : Nat) : g.atBoundary stamp =
    { (g.removeOld stamp).checkSaturation stamp with
      current := if g.configTaken then g.current else g.pending, configTaken := true } := by
  rw [GuardMon.atBoundary, GuardMon.applyConfig_eq]
  unfold GuardMon.checkSaturation
  by_cases h : (g.removeOld stamp).saturationOver stamp = true
  · rw [if_pos h]; exact if_pos h
  · rw [if_neg h]; exact if_neg h

/-- R58: stamp a lies before stamp b. -/
theorem isBefore_iff (a b : Nat) : isBefore a b = true ↔ ¬elapsed b a < 2013265920 := by
  rw [isBefore, Bool.not_eq_true']
  exact decide_eq_false_iff_not

/-- R49, R59, R61: the records that are marked VOID. -/
theorem releaseMark_void_iff (g : GuardMon) (r : BlockRecord) : releaseMark g r = .void ↔
    r.damaged = true ∨ g.saturated = true ∨
      ∃ p ∈ g.trips, ¬elapsed ((r.b0 + (480 + g.current.post)) % 4026531840) p.t < 2013265920 ∧
        ¬elapsed ((p.t + 480) % 4026531840) ((r.b0 + (4026531840 - g.current.pre)) % 4026531840) < 2013265920 := by
  have meets : ∀ p : Trip, overlaps g.current r.b0 p.t = true ↔
      ¬elapsed ((r.b0 + (480 + g.current.post)) % 4026531840) p.t < 2013265920 ∧
        ¬elapsed ((p.t + 480) % 4026531840) ((r.b0 + (4026531840 - g.current.pre)) % 4026531840) < 2013265920 :=
    fun p => (Bool.and_eq_true_iff).trans (and_congr (isBefore_iff _ _) (isBefore_iff _ _))
  have void : (r.damaged || g.rulesVoid r.b0) = true ↔ r.damaged = true ∨ g.saturated = true ∨
      ∃ p ∈ g.trips, overlaps g.current r.b0 p.t = true := by
    rw [Bool.or_eq_true_iff, GuardMon.rulesVoid, Bool.or_eq_true_iff, List.any_eq_true]
  rw [← exists_congr fun p => and_congr_right fun _ => meets p, ← void, releaseMark]
  cases (r.damaged || g.rulesVoid r.b0) <;> simp

/-- Settles O38. -/
theorem dueBlocksDepartAndAreJudged : Obligations.DueBlocksDepartAndAreJudged := by
  refine ⟨fun n s => ⟨fun h => if_neg fun k => h (s.atBoundary_iff.1 k), fun h => ?_⟩, fun n r mark s hm =>
    ⟨fun h1 h2 => judgeRecord_dropped fun k => k.elim h1 h2, fun x b hs hx hb => ?_⟩⟩
  · let g := s.gdm.atBoundary s.tmb.stamp
    let gone := (s.ana n).queue.takeWhile (isDue g.current.post s.tmb.stamp)
    let kept := (s.ana n).queue.dropWhile (isDue g.current.post s.tmb.stamp)
    let marked := gone.map (fun r => r.released g)
    obtain ⟨hsplit, hgone, hkept⟩ := taken_from_head (isDue g.current.post s.tmb.stamp) (s.ana n).queue
    obtain ⟨hcurrent, -, -, -, -⟩ := s.gdm.atBoundary_fields s.tmb.stamp
    have heq : departBlocks n s.markBoundary = marked.foldl (fun u r => judgeRecord n r u) (departed n g kept s) :=
      departBlocks_eq n s
    obtain ⟨⟨nests, ctx, tally, live, hleaves⟩, -⟩ := judgeRecords_judgedTo n marked (departed n g kept s)
    have hgdm : (departBlocks n s.markBoundary).gdm = g := by rw [heq, hleaves]; rfl
    refine ⟨departBlocks n s.markBoundary, gone, kept, marked, if_pos (s.atBoundary_iff.2 h), hsplit, ?_⟩
    rw [hgdm]
    intro guard
    have hguard : g.current = guard := hcurrent
    have hdue : ∀ r : BlockRecord, isDue g.current.post s.tmb.stamp r = true ↔
        elapsed ((r.b0 + (480 + guard.post)) % 4026531840) s.tmb.stamp < 2013265920 := fun r => by
      rw [hguard]; exact decide_eq_true_iff
    have hvoid := releaseMark_void_iff g
    rw [hguard] at hvoid
    refine ⟨fun r hr => (hdue r).1 (hgone r hr), fun r hr k => hkept r hr ((hdue r).2 k), fun v hv => ?_,
      ⟨List.length_map _, fun i r hr => ⟨fun k => ?_, fun k => ?_⟩⟩, heq, ?_, fun m hm => ⟨?_, ?_, ?_, ?_⟩, ?_⟩
    · obtain rfl := Outcome.next.inj ((if_pos (s.atBoundary_iff.2 h)).symm.trans hv)
      exact s.gdm.atBoundary_eq s.tmb.stamp
    · rw [List.getElem?_map, hr, Option.map_some, BlockRecord.released, (hvoid r).2 k]
    · have hclean : releaseMark g r = .clean := by
        cases hmark : releaseMark g r
        · rfl
        · exact absurd ((hvoid r).1 hmark) k
      rw [List.getElem?_map, hr, Option.map_some, BlockRecord.released, hclean]
    · rw [heq, hleaves]
      exact congrArg Analysis.queue (Vector.getElem_set_self _)
    · exact departBlocks_nest_other n s.markBoundary hm
    · exact departBlocks_ctx_other n s.markBoundary hm
    · exact departBlocks_ana_other n s.markBoundary hm
    · exact departBlocks_tally_other n s.markBoundary hm
    · have dropped : gone = [] ∨ ((s.nest n).state ≠ .sweep ∧ (s.nest n).state ≠ .drain) →
          departBlocks n s.markBoundary = departed n g kept s := by
        rintro (hnil | ⟨hsweep, hdrain⟩)
        · rw [heq, show marked = [] from congrArg (List.map _) hnil]; rfl
        · rw [heq]; exact judgeRecords_dropped marked fun k => k.elim hsweep hdrain
      refine ⟨?_, ?_, ?_, ?_, ?_, ?_, ?_, ?_, fun k => ?_⟩
      on_goal 9 => rw [dropped k]; exact ⟨rfl, rfl, rfl, rfl⟩
      all_goals
        rw [heq, hleaves]
        rfl
  · have hu : s.JudgedTo n (if r.settle = true ∨ r.type = .quiet then s
        else judgeByType n s.jdu.sets[b.activeSet x.attempt] r mark s) := by
      split
      · exact .refl n s
      · exact judgeByType_judgedTo n s _ r mark
    obtain ⟨hstate, z, hz⟩ := hu.2 ⟨hs, x, hx⟩
    refine ⟨_, fun k => if_pos k, fun h1 h2 => ?_, fun h1 h2 => ?_, fun h1 h2 => ?_, z, hz, ?_⟩
    · cases mark <;> exact (if_neg (by simp [h1, h2])).trans (judgeByType_presence h2)
    · cases mark <;> exact (if_neg (by simp [h1, h2])).trans (judgeByType_polarity h2)
    · cases mark <;> exact (if_neg (by simp [h1, h2])).trans (judgeByType_measure h2)
    · rw [judgeRecord_judged hb hx hm hs, blockJudged_tests _ hstate hz]

end Sys2Proof.Machine
end

section
/-! PROOFS. An arrival at the fault log, O51, and what the raising of a fault reads. -/

namespace Sys2Proof.Machine

open Sys2Proof Host

/-! ### The log (R162, R163, R167) -/

theorem kindBit_getLsbD (kind : FaultKind) (k : Nat) : (kindBit kind).getLsbD k = true ↔ k = kind.code := by
  have code : kind.code < 16 := by cases kind <;> decide
  rw [kindBit, BitVec.getLsbD_shiftLeft, BitVec.getLsbD_one]
  simp only [Bool.and_eq_true, decide_eq_true_iff, Bool.not_eq_true', decide_eq_false_iff_not]
  omega

theorem FaultLog.log_next (f : FaultLog) (r : FaultRecord) (k : Nat) :
    (f.log r).next.getLsbD k = true ↔ f.next.getLsbD k = true ∨ (¬f.clean = true ∧ k = r.kind.code) := by
  by_cases hc : f.clean = true
  · simp [FaultLog.log, hc]
  · simp [FaultLog.log, hc, kindBit_getLsbD]

theorem FaultLog.log_first (f : FaultLog) (r : FaultRecord) :
    (f.log r).first = if f.clean then some r else f.first := by
  unfold FaultLog.log; split <;> rfl

/-- R162: after an arrival the log is not clean. -/
theorem FaultLog.log_not_clean (f : FaultLog) (r : FaultRecord) : ¬((f.log r).first = none ∧ (f.log r).next = 0) := by
  rintro ⟨hfirst, hnext⟩
  rw [FaultLog.log_first] at hfirst
  have hclean : ¬f.clean = true := fun k => by rw [if_pos k] at hfirst; cases hfirst
  have hbit := (f.log_next r r.kind.code).2 (Or.inr ⟨hclean, rfl⟩)
  rw [hnext] at hbit
  simp at hbit

/-- R167: the line-stop output after an arrival. -/
theorem FaultLog.stop_spec (f : FaultLog) (kind : FaultKind) :
    (f.stop kind).first = f.first ∧ (f.stop kind).next = f.next ∧ (f.stop kind).held = f.held ∧
      (f.stop kind).stopMask = f.stopMask ∧
      (f.stopMask.getLsbD kind.code = true ∧ f.armed = true → (f.stop kind).lineStop = true ∧ (f.stop kind).armed = false) ∧
      (¬(f.stopMask.getLsbD kind.code = true ∧ f.armed = true) →
        (f.stop kind).lineStop = f.lineStop ∧ (f.stop kind).armed = f.armed) := by
  have cond : (hasKind f.stopMask kind && f.armed) = true ↔ f.stopMask.getLsbD kind.code = true ∧ f.armed = true :=
    Bool.and_eq_true_iff
  unfold FaultLog.stop
  split
  next h => exact ⟨rfl, rfl, rfl, rfl, fun _ => ⟨rfl, rfl⟩, fun k => absurd (cond.1 h) k⟩
  next h => exact ⟨rfl, rfl, rfl, rfl, fun k => absurd (cond.2 k) h, fun _ => ⟨rfl, rfl⟩⟩

theorem FaultLog.log_keeps_rest (f : FaultLog) (r : FaultRecord) : (f.log r).held = f.held ∧
    (f.log r).stopMask = f.stopMask ∧ (f.log r).lineStop = f.lineStop ∧ (f.log r).armed = f.armed := by
  unfold FaultLog.log; split <;> exact ⟨rfl, rfl, rfl, rfl⟩

/-- R162, R163, R167: the log after an arrival, part by part. -/
theorem logArrival_flg (r : FaultRecord) (s : State) :
    let g := (logArrival r s).flg
    g.first = (s.flg.log r).first ∧ g.next = (s.flg.log r).next ∧
      g.held = (match captureOf r s with | some h => some h | none => s.flg.held) ∧ g.stopMask = s.flg.stopMask ∧
      (s.flg.stopMask.getLsbD r.kind.code = true ∧ s.flg.armed = true → g.lineStop = true ∧ g.armed = false) ∧
      (¬(s.flg.stopMask.getLsbD r.kind.code = true ∧ s.flg.armed = true) →
        g.lineStop = s.flg.lineStop ∧ g.armed = s.flg.armed) := by
  obtain ⟨hheld, hmask, hstop, harmed⟩ := s.flg.log_keeps_rest r
  obtain ⟨h1, h2, h3, h4, h5, h6⟩ := FaultLog.stop_spec { s.flg.log r with
    held := match captureOf r s with | some h => some h | none => (s.flg.log r).held } r.kind
  refine ⟨h1, h2, h3.trans (by rw [hheld]), h4.trans hmask, fun k => h5 (by rw [hmask, harmed]; exact k), fun k => ?_⟩
  obtain ⟨kstop, karmed⟩ := h6 (by rw [hmask, harmed]; exact k)
  exact ⟨kstop.trans hstop, karmed.trans harmed⟩

/-! ### The capture (R163) -/

/-- R163: the conditions of a capture. -/
def FaultRecord.Captures (r : FaultRecord) (s : State) : Prop :=
  (s.flg.first = none ∧ s.flg.next = 0) ∧ (r.kind = .nestStuck ∨ r.kind = .unitPulled) ∧
    ∃ n serial x, r.nest = some n ∧ r.serial = some serial ∧ (s.nest n).state.holdsTicket = true ∧
      (s.nest n).ticket = some x ∧ x.serial = serial

theorem FaultKind.captures_iff (k : FaultKind) : k.captures = true ↔ k = .nestStuck ∨ k = .unitPulled := by
  cases k <;> simp [FaultKind.captures]

theorem State.holdsSerial_iff (s : State) (n : NestId) (serial : Nat) : s.holdsSerial n serial = true ↔
    (s.nest n).state.holdsTicket = true ∧ ∃ x, (s.nest n).ticket = some x ∧ x.serial = serial := by
  simp [State.holdsSerial, Option.any_eq_true]

/-- R163: a capture holds the ticket that the arrival names. -/
theorem captureOf_of_captures {r : FaultRecord} {s : State} (h : r.Captures s) :
    ∃ n serial, r.nest = some n ∧ r.serial = some serial ∧ captureOf r s = some ⟨n, serial⟩ := by
  obtain ⟨hclean, hkind, n, serial, x, hn, hserial, hholds, hx, hxs⟩ := h
  refine ⟨n, serial, hn, hserial, ?_⟩
  have hs := (s.holdsSerial_iff n serial).2 ⟨hholds, x, hx, hxs⟩
  simp only [captureOf, hn, hserial, s.flg.clean_iff.2 hclean, r.kind.captures_iff.2 hkind, hs]
  rfl

theorem captureOf_of_not_captures {r : FaultRecord} {s : State} (h : ¬r.Captures s) : captureOf r s = none := by
  unfold captureOf
  split
  next n serial hn hserial =>
    refine if_neg fun k => h ?_
    rw [Bool.and_eq_true, Bool.and_eq_true, FaultLog.clean_iff, FaultKind.captures_iff, State.holdsSerial_iff] at k
    obtain ⟨⟨hclean, hkind⟩, hholds, x, hx, hxs⟩ := k
    exact ⟨hclean, hkind, n, serial, x, hn, hserial, hholds, hx, hxs⟩
  next => rfl

theorem captureOf_isSome_iff (r : FaultRecord) (s : State) : (captureOf r s).isSome = true ↔ r.Captures s := by
  by_cases h : r.Captures s
  · obtain ⟨n, serial, -, -, hc⟩ := captureOf_of_captures h
    simp [hc, h]
  · simp [captureOf_of_not_captures h, h]

/-! ### The notice (R169, R186) -/

section
variable {r : FaultRecord} {s : State}

/-- R169: an arrival with a free place in the notice FIFO. -/
theorem raiseFault_noticed (h : s.svc.notices.length < 8) : raiseFault r s = (logArrival r s).setSvc { s.svc with
    noticeSeq := s.svc.noticeSeq + 1, notices := s.svc.notices ++ [⟨65, s.svc.noticeSeq, faultNoticePayload r s⟩] } := by
  have hplaces : (logArrival r s).svc.notices.length < Config.noticePlaces := by rw [logArrival_svc]; exact h
  rw [raiseFault, offerNotice, if_pos hplaces, queueNotice, if_pos hplaces, logArrival_svc]

/-- R186: an arrival at a full notice FIFO. -/
theorem raiseFault_overflow (h : 8 ≤ s.svc.notices.length) : ∃ log,
    (logArrival r s).flg.OverflowArrived log r.stamp (BitVec.ofNat 16 r.kind.code) ∧
      raiseFault r s = ({ s with flg := log }).setSvc { s.svc with noticeSeq := s.svc.noticeSeq + 2 } := by
  have hfull : ¬(logArrival r s).svc.notices.length < Config.noticePlaces := by
    rw [logArrival_svc]; exact Nat.not_lt.2 h
  obtain ⟨log, arrived, heq⟩ := logArrival_overflow r.stamp (BitVec.ofNat 16 r.kind.code)
    (queueNotice 65 (faultNoticePayload r s) (logArrival r s))
  refine ⟨log, arrived, ?_⟩
  have full : ¬s.svc.notices.length < 8 := Nat.not_lt.2 h
  rw [raiseFault, offerNotice, if_neg hfull, raiseOverflow, heq]
  simp [queueNotice, Config.noticePlaces, full, State.setSvc, BitVec.add_assoc]

end

/-- Settles O51. -/
theorem faultArrivesAtTheLog : Obligations.FaultArrivesAtTheLog := by
  intro r s
  obtain ⟨first, next, held, mask, stops, runs⟩ := logArrival_flg r s
  have hclean := s.flg.clean_iff
  have hcap : r.Captures s → ∃ n serial, r.nest = some n ∧ r.serial = some serial ∧
      (logArrival r s).flg.held = some ⟨n, serial⟩ := fun h => by
    obtain ⟨n, serial, hn, hs, hc⟩ := captureOf_of_captures h
    exact ⟨n, serial, hn, hs, by rw [held, hc]⟩
  have hnocap : ¬r.Captures s → (logArrival r s).flg.held = s.flg.held := fun h => by
    rw [held, captureOf_of_not_captures h]
  have hfirst : s.flg.first = none ∧ s.flg.next = 0 → (logArrival r s).flg.first = some r := fun h => by
    rw [first, FaultLog.log_first, if_pos (hclean.2 h)]
  have hkept : ¬(s.flg.first = none ∧ s.flg.next = 0) → (logArrival r s).flg.first = s.flg.first := fun h => by
    rw [first, FaultLog.log_first, if_neg fun k => h (hclean.1 k)]
  have hbits : ∀ k, (logArrival r s).flg.next.getLsbD k = true ↔ s.flg.next.getLsbD k = true ∨
      (¬(s.flg.first = none ∧ s.flg.next = 0) ∧ k = r.kind.code) := fun k => by
    rw [next, FaultLog.log_next, hclean]
  have frame : (raiseFault r s).tmb = s.tmb ∧ (raiseFault r s).swg = s.swg ∧ (raiseFault r s).fli = s.fli ∧
      (raiseFault r s).bka = s.bka ∧ (raiseFault r s).gdm = s.gdm ∧ (raiseFault r s).jdu = s.jdu ∧
      (raiseFault r s).tkc = s.tkc ∧ (raiseFault r s).bmu = s.bmu ∧ (raiseFault r s).yct = s.yct ∧
      (raiseFault r s).ltc = s.ltc ∧ (raiseFault r s).pending = s.pending := by simp
  by_cases hfull : 8 ≤ s.svc.notices.length
  · obtain ⟨log, ⟨oheld, omask, -, onot, ostops, oruns⟩, heq⟩ := raiseFault_overflow (r := r) hfull
    obtain ⟨ofirst, onext⟩ := onot (by rw [first, next]; exact s.flg.log_not_clean r)
    have hflg : (raiseFault r s).flg = log := by rw [heq]; rfl
    have hsvc : (raiseFault r s).svc = { s.svc with noticeSeq := s.svc.noticeSeq + 2 } := by rw [heq]; rfl
    dsimp only
    rw [hflg, hsvc]
    refine ⟨fun h => ofirst.trans (hfirst h), fun h => ofirst.trans (hkept h), fun k => ?_, fun h => ?_,
      fun h => oheld.trans (hnocap h), omask.trans mask, fun h => ?_, fun _ h => absurd hfull h, fun h => absurd hfull h,
      fun _ => rfl, frame⟩
    · rw [onext, hbits, or_assoc]
      exact or_congr_right (or_congr_right ⟨fun h => ⟨hfull, h⟩, And.right⟩)
    · obtain ⟨n, serial, hn, hs, hheld⟩ := hcap h
      exact ⟨n, serial, hn, hs, oheld.trans hheld⟩
    · obtain ⟨hstop, harmed⟩ := stops h
      obtain ⟨kstop, karmed⟩ := oruns fun k => by rw [harmed] at k; cases k.2
      exact ⟨kstop.trans hstop, karmed.trans harmed⟩
  · have heq := raiseFault_noticed (r := r) (Nat.not_le.1 hfull)
    have hflg : (raiseFault r s).flg = (logArrival r s).flg := by rw [heq]; rfl
    have hsvc : (raiseFault r s).svc = { s.svc with noticeSeq := s.svc.noticeSeq + 1, notices := s.svc.notices ++
      [⟨65, s.svc.noticeSeq, faultNoticePayload r s⟩] } := by rw [heq]; rfl
    dsimp only
    rw [hflg, hsvc]
    refine ⟨hfirst, hkept, fun k => ?_, hcap, hnocap, mask, stops, fun h _ => runs h, fun _ => ?_,
      fun h => absurd h hfull, frame⟩
    · rw [hbits]
      exact ⟨fun h => h.imp_right Or.inl, fun h => h.imp_right fun h => h.resolve_right fun k => hfull k.1⟩
    · refine ⟨[!s.flg.clean, (captureOf r s).isSome, r.nest.isSome], rfl, _, _, _, rfl, ?_, captureOf_isSome_iff r s, ?_⟩
      · rw [Bool.not_eq_false', hclean]
      · exact Option.isSome_iff_ne_none

end Sys2Proof.Machine
end

section
/-! PROOFS. The loss of the front, the pull of a unit and the open event: O31 and O46. -/

namespace Sys2Proof.Machine

open Sys2Proof Host

/-! ### What the raising of a fault reads -/

/-- The log and the notices are those of before. -/
def SameNotices (s u : State) : Prop :=
  u.flg = s.flg ∧ u.svc.notices = s.svc.notices ∧ u.svc.noticeSeq = s.svc.noticeSeq

theorem logArrival_sameNotices {r : FaultRecord} {s u : State} (h : SameNotices s u)
    (hc : captureOf r u = captureOf r s) : SameNotices (logArrival r s) (logArrival r u) := by
  obtain ⟨hf, hv, hs⟩ := h
  refine ⟨?_, hv, hs⟩
  simp only [logArrival, hf, hc]
  rfl

theorem queueNotice_sameNotices {s u : State} (type : Byte) (payload : List Byte) (h : SameNotices s u) :
    SameNotices (queueNotice type payload s) (queueNotice type payload u) := by
  obtain ⟨hf, hv, hs⟩ := h
  refine ⟨hf, ?_, ?_⟩
  · simp only [queueNotice, State.setSvc, hv, hs]
  · simp only [queueNotice, State.setSvc, hs]

theorem faultNoticePayload_congr {r : FaultRecord} {s u : State} (hf : u.flg = s.flg)
    (hc : captureOf r u = captureOf r s) : faultNoticePayload r u = faultNoticePayload r s := by
  simp only [faultNoticePayload, hf, hc]

theorem raiseOverflow_sameNotices {s u : State} (detail : Half) (stamp : Nat) (h : SameNotices s u) :
    SameNotices (raiseOverflow detail stamp s) (raiseOverflow detail stamp u) := by
  rw [raiseOverflow, raiseOverflow, faultNoticePayload_congr h.1 rfl]
  exact queueNotice_sameNotices _ _ (logArrival_sameNotices h rfl)

/-- R162, R169, R186: the raising reads the log, the notices and the test of a capture. -/
theorem raiseFault_sameNotices {r : FaultRecord} {s u : State} (h : SameNotices s u)
    (hc : captureOf r u = captureOf r s) : SameNotices (raiseFault r s) (raiseFault r u) := by
  have logged := logArrival_sameNotices h hc
  have queued := queueNotice_sameNotices 65 (faultNoticePayload r s) logged
  rw [raiseFault, raiseFault, offerNotice, offerNotice, faultNoticePayload_congr h.1 hc, logged.2.1]
  split
  · exact queued
  · exact raiseOverflow_sameNotices _ _ queued

/-- R162, R186: the raising changes the log and the notices alone. -/
theorem raiseFault_leaves (r : FaultRecord) (s : State) : raiseFault r s = { s with
    flg := (raiseFault r s).flg
    svc := { s.svc with notices := (raiseFault r s).svc.notices, noticeSeq := (raiseFault r s).svc.noticeSeq } } := by
  by_cases hfull : 8 ≤ s.svc.notices.length
  · obtain ⟨log, -, heq⟩ := raiseFault_overflow (r := r) hfull
    rw [heq]; rfl
  · rw [raiseFault_noticed (Nat.not_le.1 hfull)]; rfl

/-- The log and the service are those of before. -/
def SameLog (s u : State) : Prop := u.flg = s.flg ∧ u.svc = s.svc

theorem raiseFault_congr {r : FaultRecord} {s u : State} (h : SameLog s u) (hc : captureOf r u = captureOf r s) :
    SameLog (raiseFault r s) (raiseFault r u) := by
  obtain ⟨hf, hv⟩ := h
  obtain ⟨hflg, hnotices, hseq⟩ := raiseFault_sameNotices (r := r) ⟨hf, congrArg _ hv, congrArg _ hv⟩ hc
  refine ⟨hflg, ?_⟩
  rw [raiseFault_leaves r u, raiseFault_leaves r s, hnotices, hseq, hv]

/-- R163: nothing that leaves the log and each nest's state and ticket changes the test of a capture. -/
theorem captureOf_of_nests {s u : State} (r : FaultRecord) (hf : u.flg = s.flg)
    (hn : ∀ n, (u.nest n).state = (s.nest n).state ∧ (u.nest n).ticket = (s.nest n).ticket) :
    captureOf r u = captureOf r s :=
  captureOf_congr r hf fun n serial => by
    obtain ⟨hs, ht⟩ := hn n
    simp only [State.holdsSerial, hs, ht]

/-! ### FRONT_LOST (O31) -/

theorem State.frontLostDue_iff (s : State) : s.frontLostDue = true ↔ s.tmb.framed = true ∧ s.fli.link = .searching ∧
    ∃ l, s.fli.lossStamp = some l ∧ elapsed l s.lastFrame = 4800 := by
  simp [State.frontLostDue, Option.any_eq_true, and_assoc, Config.frontLostFrames]

/-- R25: the state in which FRONT_LOST has been raised. -/
def frontRaised (s : State) : State :=
  raiseFault ⟨.frontLost, s.lastFrame, none, none, BitVec.ofNat 16 s.fli.absentCount⟩
    (s.setFli { s.fli with lossStamp := none, absentCount := 0 })

theorem loseFront_eq (s : State) : loseFront s =
    if s.ltc.line.hasTickets then State.eachNest frontLostAbort (frontRaised s) else frontRaised s := rfl

/-- R159: the proposals of FRONT_LOST seen from one nest. -/
theorem eachNest_frontLostAbort_at (n : NestId) (s : State) :
    ((s.nest n).state = .sweep ∨ (s.nest n).state = .drain ∨ (s.nest n).state = .retestWait →
        TestAborted n s (State.eachNest frontLostAbort s)) ∧
      (¬((s.nest n).state = .sweep ∨ (s.nest n).state = .drain ∨ (s.nest n).state = .retestWait) →
        SameAt n s (State.eachNest frontLostAbort s)) := by
  obtain ⟨u, ⟨hn, hc⟩, hafter, hafter'⟩ := eachNest_at (E := SameAt n) (fun _ => ⟨rfl, rfl⟩) SameAt.trans n
    (fun m s h => ⟨frontLostAbort_nest_other m s (Ne.symm h), frontLostAbort_ctx_other m s (Ne.symm h)⟩) s
  constructor
  · intro h
    have hown : frontLostAbort n u = abortTicket n u := by
      rcases h with h | h | h <;> simp only [frontLostAbort, hn, h]
    rw [hown] at hafter hafter'
    exact testAborted_congr hn.symm hc.symm hafter hafter' abortTicket_testAborted
  · intro h
    have hown : frontLostAbort n u = u := by
      unfold frontLostAbort
      rw [hn]
      split <;> simp_all
    rw [hown] at hafter hafter'
    exact ⟨hafter.trans hn, hafter'.trans hc⟩

/-- Settles O31. -/
theorem frontLostRaisedWhenTheWatchEnds : Obligations.FrontLostRaisedWhenTheWatchEnds := by
  intro s
  refine ⟨fun h => if_neg fun k => h (s.frontLostDue_iff.1 k), fun h => ?_⟩
  have runs := loseFront_runs s
  obtain ⟨hflg, hsvc⟩ := raiseFault_congr (r := ⟨.frontLost, s.lastFrame, none, none, BitVec.ofNat 16 s.fli.absentCount⟩)
    (s := s) (u := s.setFli { s.fli with lossStamp := none, absentCount := 0 }) ⟨rfl, rfl⟩ rfl
  refine ⟨loseFront s, if_pos (s.frontLostDue_iff.2 h), ?_, ⟨?_, ?_⟩, fun n => ⟨fun hl hs => ?_, fun hno => ?_⟩,
    loseFront_ltc s, loseFront_tmb s, loseFront_gdm s, loseFront_jdu s, loseFront_bmu s, loseFront_yct s,
    runs.segments, loseFront_pending s⟩
  · rw [loseFront_eq]
    split <;> simp [frontRaised]
  · rw [loseFront_eq]
    split
    · rw [eachNest_frontLostAbort_flg]; exact hflg
    · exact hflg
  · rw [loseFront_eq]
    split
    · rw [eachNest_frontLostAbort_svc]; exact hsvc
    · exact hsvc
  · have hline : s.ltc.line.hasTickets = true := by rcases hl with h | h <;> rw [h] <;> rfl
    have hn : (frontRaised s).nest n = s.nest n := by simp [frontRaised]
    have hc : (frontRaised s).ctx n = s.ctx n := by simp [frontRaised]
    rw [loseFront_eq, if_pos hline]
    exact testAborted_congr hn.symm hc.symm rfl rfl ((eachNest_frontLostAbort_at n (frontRaised s)).1 (by rw [hn]; exact hs))
  · have same : SameAt n s (frontRaised s) := ⟨by simp [frontRaised], by simp [frontRaised]⟩
    rw [loseFront_eq]
    by_cases hline : s.ltc.line.hasTickets = true
    · rw [if_pos hline]
      refine same.trans ((eachNest_frontLostAbort_at n (frontRaised s)).2 ?_)
      rw [same.1]
      rcases hno with h | h | ⟨h1, h2, h3⟩
      · rw [h] at hline; cases hline
      · rw [h] at hline; cases hline
      · rintro (h | h | h)
        · exact h1 h
        · exact h2 h
        · exact h3 h
    · rw [if_neg hline]
      exact same

/-! ### Entry to REPORT and the pull of a unit -/

/-- R107, R122: entry to REPORT from a state with the report-wait time and the bin map of `s`. -/
theorem enterReport_entered {n : NestId} {b : Binding} {t : Ticket} {f : Final} {s u : State}
    (hw : u.tkc.reportWait = s.tkc.reportWait) (hb : u.bmu.binMap = s.bmu.binMap) :
    EnteredReport n b t f s (enterReport n b t f u) := by
  unfold EnteredReport
  rw [enterReport_nest]
  intro index
  have hindex : binIndex b f.cls n t.attempt = index := rfl
  refine ⟨rfl, hw, fun h => ?_⟩
  have hmod : binIndex b f.cls n t.attempt % 256 = index := by rw [hindex, Nat.mod_eq_of_lt h]
  have hentry : u.binEntry (binIndex b f.cls n t.attempt) = s.bmu.binMap[index] := by
    rw [State.binEntry, hb]
    exact getElem_congr_idx hmod
  rw [hentry]

/-- R106: the state of a pull before UNIT_PULLED is raised. -/
def pulledFrom (n : NestId) (s : State) : State :=
  (if (s.nest n).drive = .starting ∨ (s.nest n).drive = .running then s.setCtx n (s.ctx n).stop else s).setAna n
    (s.ana n).discard

/-- R106: the drive status after a pull. -/
def pulledDrive (n : NestId) (s : State) : DriveStatus :=
  if ((s.nest n).drive = .starting ∨ (s.nest n).drive = .running) ∧ (s.ctx n).state = .armed then .idle
  else (s.nest n).drive

theorem pulledFrom_nest (n m : NestId) (s : State) : (pulledFrom n s).nest m = s.nest m := by
  unfold pulledFrom; split <;> rfl

theorem pulledFrom_leaves (n : NestId) (s : State) : ∃ ctx bka,
    pulledFrom n s = { s with swg := { s.swg with ctx := ctx }, bka := bka } := by
  unfold pulledFrom; split <;> exact ⟨_, _, rfl⟩

theorem pulledFrom_now (n : NestId) (s : State) : (pulledFrom n s).now = s.now := by
  unfold pulledFrom; split <;> rfl

/-- R106: the ticket, the final disposition and the parts of the state of a pull. -/
theorem pullUnit_eq (n : NestId) (b : Binding) (t : Ticket) (stage : Stage) (s : State) :
    pullUnit n b t stage s =
      enterReport n b (t.take ⟨.abort, stage, .abort, none⟩)
        (if (t.take ⟨.abort, stage, .abort, none⟩).disp = .reject
          then (t.take ⟨.abort, stage, .abort, none⟩).rejected else (t.take ⟨.abort, stage, .abort, none⟩).aborted)
        ((raiseFault ⟨.unitPulled, s.now, some n, some t.serial, BitVec.ofNat 16 stage.code⟩ (pulledFrom n s)).setNest n
          { s.nest n with drive := pulledDrive n s }) := by
  have hunfold : pullUnit n b t stage s =
      enterReport n b (t.take ⟨.abort, stage, .abort, none⟩)
        (if (t.take ⟨.abort, stage, .abort, none⟩).disp = .reject
          then (t.take ⟨.abort, stage, .abort, none⟩).rejected else (t.take ⟨.abort, stage, .abort, none⟩).aborted)
        ((raiseFault ⟨.unitPulled, (pulledFrom n s).now, some n, some t.serial, BitVec.ofNat 16 stage.code⟩
          (pulledFrom n s)).setNest n
          { (raiseFault ⟨.unitPulled, (pulledFrom n s).now, some n, some t.serial, BitVec.ofNat 16 stage.code⟩
            (pulledFrom n s)).nest n with drive := pulledDrive n s }) := by
    by_cases h : (s.nest n).drive = .starting ∨ (s.nest n).drive = .running
    · simp only [pullUnit, pulledFrom, pulledDrive, if_pos h]
      rfl
    · simp only [pullUnit, pulledFrom, pulledDrive, if_neg h]
  rw [hunfold, raiseFault_nest, pulledFrom_nest, pulledFrom_now]

theorem pulledFrom_tkc (n : NestId) (s : State) : (pulledFrom n s).tkc = s.tkc := by
  unfold pulledFrom; split <;> rfl

theorem pulledFrom_bmu (n : NestId) (s : State) : (pulledFrom n s).bmu = s.bmu := by
  unfold pulledFrom; split <;> rfl

section
variable (n : NestId) (b : Binding) (t : Ticket) (stage : Stage) (s : State)

theorem pullUnit_ctx : (pullUnit n b t stage s).ctx n =
    if (s.nest n).drive = .starting ∨ (s.nest n).drive = .running then (s.ctx n).stop else s.ctx n := by
  rw [pullUnit_eq, enterReport_ctx, State.setNest_ctx, raiseFault_ctx]
  unfold pulledFrom
  split <;> simp

theorem pullUnit_ana : (pullUnit n b t stage s).ana n = (s.ana n).discard := by
  rw [pullUnit_eq, enterReport_ana, State.setNest_ana, raiseFault_ana]
  simp [pulledFrom]

theorem pullUnit_drive : ((pullUnit n b t stage s).nest n).drive = pulledDrive n s := by
  rw [pullUnit_eq, enterReport_nest, State.setNest_nest_self]
  rfl

theorem pullUnit_level : ((pullUnit n b t stage s).nest n).level = (s.nest n).level := by
  rw [pullUnit_eq, enterReport_nest, State.setNest_nest_self]
  rfl

theorem pullUnit_log : SameLog
    (raiseFault ⟨.unitPulled, s.now, some n, some t.serial, BitVec.ofNat 16 stage.code⟩ (pulledFrom n s))
    (pullUnit n b t stage s) := by
  rw [pullUnit_eq]
  exact ⟨enterReport_flg _ _ _ _ _, enterReport_svc _ _ _ _ _⟩

end

/-! ### The open event (O46) -/

section
variable {n : NestId} {s : State}

/-- R90: the state in which the level has become OPEN. -/
def levelOpened (n : NestId) (s : State) : State := s.setNest n ((s.nest n).settle .opened)

theorem levelOpened_nest (n : NestId) (s : State) : (levelOpened n s).nest n = (s.nest n).settle .opened :=
  State.setNest_nest_self _ _ _

theorem execOpenEvent_due (he : (s.nest n).eventDue = true) (hl : (s.nest n).level = .closed) :
    execOpenEvent n s = .next (if (s.nest n).sensor = .used then openEffect n (levelOpened n s) else levelOpened n s) := by
  refine (if_pos ⟨he, hl⟩).trans ?_
  split <;> rfl

theorem openEffect_idle (h : (s.nest n).state.underTest = false) (hu : (s.nest n).state ≠ .unload) :
    openEffect n s = s := by
  simp only [openEffect]
  split <;> simp_all [NestState.underTest]

theorem openEffect_unload (h : (s.nest n).state = .unload) : openEffect n s = retireTicket n s := by
  simp only [openEffect, h]

theorem openEffect_pulls {b : Binding} {x : Ticket} (h : (s.nest n).state.underTest = true) (hb : s.ltc.binding = some b)
    (hx : (s.nest n).ticket = some x) : openEffect n s = pullUnit n b x (s.currentStage n) s := by
  have hlot : s.lot = some b := hb
  cases hs : (s.nest n).state <;> simp_all [openEffect, NestState.underTest]

/-- R112: what a retire leaves before the drain check. -/
theorem retiredState_levelOpened : retiredState n (levelOpened n s) = { s with
    ltc := { s.ltc with ticketCount := s.ltc.ticketCount - 1 }
    tkc := { s.tkc with nests := (s.tkc.nests.set n { s.nest n with
      level := .opened, steady := 0, eventDue := false
      state := if (s.nest n).disablePending then .disabled else .vacant, timer := 0, expiry := none
      ticket := none, verdict := false, disablePending := false }) } } := by
  rw [retiredState, levelOpened_nest, levelOpened, State.setNest_setNest]
  rfl

end

/-- Settles O46. -/
theorem openEventPullsOrRetires : Obligations.OpenEventPullsOrRetires := by
  intro n s
  refine ⟨fun h => if_neg fun k => ?_, fun he hl => ⟨fun h => (execOpenEvent_due he hl).trans ?_, fun hu hs => ?_,
    fun b x hu ht hb hx => ?_⟩⟩
  · obtain ⟨he, hl⟩ := k
    rcases h with h | h
    · rw [he] at h; cases h
    · rw [hl] at h; cases h
  · have hn := levelOpened_nest n s
    split
    next hu =>
      have hstate : (s.nest n).state.underTest = false ∧ (s.nest n).state ≠ .unload :=
        h.resolve_left fun k => by rw [hu] at k; cases k
      rw [openEffect_idle (by rw [hn]; exact hstate.1) (by rw [hn]; exact hstate.2)]
      rfl
    next => rfl
  · have hstep : exec (.openEvent n) s = .next (drainCheck (retiredState n (levelOpened n s))) := by
      refine (execOpenEvent_due he hl).trans ?_
      rw [if_pos hu, openEffect_unload (by rw [levelOpened_nest]; exact hs)]
      rfl
    have hcount : (retiredState n (levelOpened n s)).ltc.ticketCount = s.ltc.ticketCount - 1 := rfl
    refine ⟨fun h => hstep.trans (congrArg Outcome.next ?_), fun b hline hone hb => ⟨_, hstep, ?_⟩⟩
    · have hnot := drainCheck_not_due (retiredState n (levelOpened n s)) (h.imp id fun k => by rw [hcount]; omega)
      exact hnot.trans retiredState_levelOpened
    · have drained := drainCheck_drained b (retiredState n (levelOpened n s)) hline (by rw [hcount, hone]) hb
      exact (congrArg (fun u => LotDrained b u _) retiredState_levelOpened).mp drained
  · have hn := levelOpened_nest n s
    have hstage : (levelOpened n s).currentStage n = s.currentStage n := by
      simp only [State.currentStage, hn]; rfl
    let v := levelOpened n s
    let y := x.take ⟨.abort, s.currentStage n, .abort, none⟩
    have took : x.AbortedTo y (s.currentStage n) := x.take_abort (s.currentStage n)
    obtain ⟨-, -, -, -, -, stands, aborts⟩ := id took
    obtain ⟨ctx, bka, hleaves⟩ := pulledFrom_leaves n v
    have stopping : ((v.nest n).drive = .starting ∨ (v.nest n).drive = .running) ↔ (s.nest n).drive ≠ .idle := by
      rw [hn]
      show (s.nest n).drive = .starting ∨ (s.nest n).drive = .running ↔ _
      cases (s.nest n).drive <;> simp
    have hstep : exec (.openEvent n) s = .next (pullUnit n b x (s.currentStage n) v) := by
      refine (execOpenEvent_due he hl).trans ?_
      rw [if_pos hu, openEffect_pulls (s := levelOpened n s) (by rw [hn]; exact ht) hb (by rw [hn]; exact hx), hstage]
    refine ⟨_, y, if y.disp = .reject then y.rejected else y.aborted, hstep, took, ?_, fun hr => ?_,
      fun stage cls hr hstage hcls => ?_, fun hd => ⟨fun harm => ?_, fun hrun => ?_⟩, fun hd => ?_,
      pullUnit_ana n b x _ v, ?_, (pullUnit_level n b x _ v).trans (congrArg Nest.level hn), fun m hm => ⟨?_, ?_, ?_⟩, ?_⟩
    · rw [pullUnit_eq]
      exact enterReport_entered (by simp [pulledFrom_tkc]; rfl) (by simp [pulledFrom_bmu]; rfl)
    · have hy : y.disp ≠ .reject := by
        by_cases ha : x.disp = .abort
        · rw [(stands (Or.inr ha)).1, ha]; nofun
        · rw [(aborts hr ha).1]; nofun
      exact if_neg hy
    · obtain ⟨hd, hs, hc⟩ := stands (Or.inl hr)
      refine (if_pos (hd.trans hr)).trans ?_
      rw [Ticket.rejected, hs, hc, hstage, hcls]
      rfl
    · have hstops := stopping.2 hd
      rw [pullUnit_ctx, if_pos hstops, pullUnit_drive, pulledDrive, if_pos ⟨hstops, harm⟩]
      exact ⟨congrArg SweepCtx.state (SweepCtx.stop_of_armed harm), rfl⟩
    · have hstops := stopping.2 hd
      have hnot : ¬(((v.nest n).drive = .starting ∨ (v.nest n).drive = .running) ∧ (v.ctx n).state = .armed) :=
        fun k => by rw [show (v.ctx n).state = .running from hrun] at k; cases k.2
      rw [pullUnit_ctx, if_pos hstops, pullUnit_drive, pulledDrive, if_neg hnot]
      exact ⟨SweepCtx.stop_of_running hrun, (congrArg Nest.drive hn).trans rfl⟩
    · have hstops : ¬((v.nest n).drive = .starting ∨ (v.nest n).drive = .running) := fun k => stopping.1 k hd
      rw [pullUnit_ctx, if_neg hstops, pullUnit_drive, pulledDrive, if_neg fun k => hstops k.1]
      exact ⟨rfl, (congrArg Nest.drive hn).trans hd⟩
    · have hlog : SameLog s (pulledFrom n v) := by rw [hleaves]; exact ⟨rfl, rfl⟩
      have raised := raiseFault_congr (r := ⟨.unitPulled, s.now, some n, some x.serial,
        BitVec.ofNat 16 (s.currentStage n).code⟩) hlog (captureOf_of_nests _ hlog.1 fun m => ?_)
      · have pulled := pullUnit_log n b x (s.currentStage n) v
        exact ⟨pulled.1.trans raised.1, pulled.2.trans raised.2⟩
      · rw [pulledFrom_nest]
        by_cases hm : m = n
        · rw [hm, hn]; exact ⟨rfl, rfl⟩
        · rw [show v.nest m = s.nest m from (State.setNest_nest _ _ _ _).trans (if_neg hm)]; exact ⟨rfl, rfl⟩
    · exact (pullUnit_nest_other n b x _ v hm).trans ((State.setNest_nest _ _ _ _).trans (if_neg hm))
    · exact pullUnit_ctx_other n b x _ v hm
    · exact pullUnit_ana_other n b x _ v hm
    · have runs := pullUnit_runs n b x (s.currentStage n) v
      exact ⟨pullUnit_ltc n b x _ v, pullUnit_tmb n b x _ v, pullUnit_fli n b x _ v, pullUnit_gdm n b x _ v,
        pullUnit_jdu n b x _ v, pullUnit_bmu n b x _ v, pullUnit_yct n b x _ v, runs.segments, pullUnit_pending n b x _ v⟩

end Sys2Proof.Machine
end

section
/-! PROOFS. DRAIN completes with REVIEW and CLOSE: O42. -/

namespace Sys2Proof.Machine

open Sys2Proof Host

/-! ### REVIEW (R103) -/

section
variable {n : NestId} {b : Binding} {x : Ticket} {s : State}

/-- R103: a band in use of a limit set is void in the tally of nest n. -/
def VoidBand (s : State) (n : NestId) (set : LimitSet) : Prop :=
  ∃ k : Fin 32, k.val < set.header.bandCount ∧
    let y := (s.tally n).bands[k]
    (y.void ≠ 0 ∨ y.judged ≠ 0) ∧ (y.void + y.judged) * set.header.voidPercent < y.void * 100

theorem hasVoidBand_iff (set : Fin 8) : s.hasVoidBand n set = true ↔ VoidBand s n s.jdu.sets[set] := by
  unfold State.hasVoidBand VoidBand
  generalize s.jdu.sets[set] = l
  simp only [List.any_eq_true, BandTally.isVoid, decide_eq_true_iff]
  constructor
  · rintro ⟨t, ht, hv⟩
    obtain ⟨i, hi, rfl⟩ := List.mem_iff_getElem.1 ht
    have hlen : i < l.header.bandCount ∧ i < 32 := by simpa using hi
    refine ⟨⟨i, hlen.2⟩, hlen.1, ?_⟩
    simpa using hv
  · rintro ⟨k, hk, hv⟩
    refine ⟨(s.tally n).bands[k], List.mem_iff_getElem.2 ⟨k.val, by simp; omega, ?_⟩, hv⟩
    simp

/-- R103: REVIEW proposes RETEST or REJECT for the attempt. -/
def Voided (s : State) (n : NestId) (b : Binding) (x : Ticket) : Prop :=
  (x.disp = .opened ∨ x.disp = .marginal) ∧ VoidBand s n s.jdu.sets[b.activeSet x.attempt]

/-- R103: the ticket with the proposal of REVIEW. -/
def Ticket.reviewed (x : Ticket) (b : Binding) : Ticket :=
  { x with disp := if x.attempt < b.attemptLimit then .retest else .reject
           dispStage := some .review, dispClass := some .void }

theorem Ticket.take_review (h : x.disp = .opened ∨ x.disp = .marginal) :
    x.take (x.reviewProposal b) = x.reviewed b := by
  rw [Ticket.take_eq]
  by_cases hl : x.attempt < b.attemptLimit <;> rcases h with h | h <;>
    simp [Ticket.reviewProposal, Ticket.reviewed, Ticket.takeDefect, hl, h, Disp.resolve]

theorem review_voided (hs : (s.nest n).state = .drain) (hx : (s.nest n).ticket = some x) (hv : Voided s n b x) :
    review n b s = s.setNest n { s.nest n with ticket := some (x.reviewed b) } := by
  rw [review_eq b hs hx, if_pos ⟨hv.1, (hasVoidBand_iff _).2 hv.2⟩, Ticket.take_review hv.1]

theorem review_not_voided (hs : (s.nest n).state = .drain) (hx : (s.nest n).ticket = some x) (hv : ¬Voided s n b x) :
    review n b s = s := by
  rw [review_eq b hs hx, if_neg fun h => hv ⟨h.1, (hasVoidBand_iff _).1 h.2⟩]

/-! ### CLOSE (R104) -/

/-- R104: CLOSE of a ticket that stands no RETEST. -/
theorem closeAttempt_enters (hx : (s.nest n).ticket = some x) (hr : x.disp ≠ .retest) : ∃ z f,
    closeAttempt n b s = enterReport n b z f s ∧
      (x.disp = .opened → z = x ∧ f = ⟨.pass, .close, .pass⟩) ∧
      (x.disp = .marginal → z = { x with marginal := true } ∧ f = ⟨.pass, .close, .marginal⟩) ∧
      (x.disp = .reject → z = x ∧ f = x.rejected) ∧ (x.disp = .abort → z = x ∧ f = x.aborted) := by
  simp only [closeAttempt, hx]
  cases hd : x.disp
  case opened => exact ⟨_, _, rfl, fun _ => ⟨rfl, rfl⟩, nofun, nofun, nofun⟩
  case marginal => exact ⟨_, _, rfl, nofun, fun _ => ⟨rfl, rfl⟩, nofun, nofun⟩
  case retest => exact absurd hd hr
  case reject => exact ⟨_, _, rfl, nofun, nofun, fun _ => ⟨rfl, rfl⟩, nofun⟩
  case abort => exact ⟨_, _, rfl, nofun, nofun, nofun, fun _ => ⟨rfl, rfl⟩⟩

theorem closeAttempt_retests (hx : (s.nest n).ticket = some x) (hr : x.disp = .retest) :
    closeAttempt n b s = startRetest n b x s := by
  simp only [closeAttempt, hx, hr]

/-- The parts of a nest that the end of an attempt leaves. -/
def Nest.AttemptEnds (x y : Nest) : Prop :=
  y.level = x.level ∧ y.verdict = x.verdict ∧ y.rejectRun = x.rejectRun ∧ y.disablePending = x.disablePending

theorem enterReport_attemptEnds (f : Final) : (s.nest n).AttemptEnds ((enterReport n b x f s).nest n) := by
  rw [enterReport_nest]; exact ⟨rfl, rfl, rfl, rfl⟩

/-! ### A retest (R105) -/

/-- R105: the state of a retest before the check of its start. -/
def retestedState (n : NestId) (b : Binding) (x : Ticket) (s : State) : State :=
  (countRetest n (s.setTally n Tally.zero)).setNest n
    { (s.nest n).enter .retestWait b.retestDelay with ticket := some x.retested }

theorem startRetest_eq : startRetest n b x s = startCheck n (retestedState n b x s) := rfl

theorem retestedState_nest : (retestedState n b x s).nest n =
    { (s.nest n).enter .retestWait b.retestDelay with ticket := some x.retested } := State.setNest_nest_self _ _ _

theorem startRetest_attemptEnds : (s.nest n).AttemptEnds ((startRetest n b x s).nest n) := by
  rw [startRetest_eq, startCheck_nest, retestedState_nest]
  split <;> exact ⟨rfl, rfl, rfl, rfl⟩

/-- R105: the ticket, the counters and the tally of a retest. -/
theorem startRetest_spec :
    ((startRetest n b x s).nest n).ticket = some x.retested ∧ ((startRetest n b x s).nest n).state = .retestWait ∧
    ((startRetest n b x s).nest n).timer = b.retestDelay ∧ (startRetest n b x s).tally n = Tally.zero ∧
    (∀ m, m ≠ n → (startRetest n b x s).tally m = s.tally m ∧ (startRetest n b x s).ctx m = s.ctx m ∧
      (startRetest n b x s).ana m = s.ana m) ∧ (startRetest n b x s).jdu.sets = s.jdu.sets ∧
    (∀ m : NestId, (startRetest n b x s).yct.live.nests[m] = if m = n then
      { s.yct.live.nests[n] with retests := countUp s.yct.live.nests[n].retests } else s.yct.live.nests[m]) ∧
    (startRetest n b x s).yct.live.bins = s.yct.live.bins ∧
    (startRetest n b x s).yct.live.tickets = s.yct.live.tickets := by
  obtain ⟨nests, ctx, bka, hleaves⟩ := startCheck_leaves n (retestedState n b x s)
  have hjdu : (startRetest n b x s).jdu = (s.setTally n Tally.zero).jdu := by rw [startRetest_eq, hleaves]; rfl
  have hyct : (startRetest n b x s).yct = (countRetest n s).yct := by rw [startRetest_eq, hleaves]; rfl
  have hnest : ((startRetest n b x s).nest n).ticket = some x.retested ∧
      ((startRetest n b x s).nest n).state = .retestWait ∧ ((startRetest n b x s).nest n).timer = b.retestDelay := by
    rw [startRetest_eq, startCheck_nest, retestedState_nest]
    split <;> exact ⟨rfl, rfl, rfl⟩
  obtain ⟨hticket, hstate, htimer⟩ := hnest
  refine ⟨hticket, hstate, htimer, ?_, fun m hm => ⟨?_, ?_, ?_⟩, ?_, fun m => ?_, ?_, ?_⟩
  · simp only [State.tally, hjdu]
    exact Vector.getElem_set_self _
  · exact startRetest_tally_other _ _ _ _ hm
  · exact startRetest_ctx_other _ _ _ _ hm
  · exact startRetest_ana_other _ _ _ _ hm
  · rw [hjdu]; rfl
  · rw [hyct]
    by_cases hm : m = n
    · subst hm
      rw [if_pos rfl]
      exact Vector.getElem_set_self _
    · rw [if_neg hm]
      exact Vector.getElem_set_ne n.isLt m.isLt fun k => hm (Fin.val_inj.1 k.symm)
  · rw [hyct]; rfl
  · rw [hyct]; rfl

theorem closeAttempt_attemptEnds (hx : (s.nest n).ticket = some x) :
    (s.nest n).AttemptEnds ((closeAttempt n b s).nest n) := by
  by_cases hr : x.disp = .retest
  · rw [closeAttempt_retests hx hr]
    exact startRetest_attemptEnds
  · obtain ⟨z, f, heq, -⟩ := closeAttempt_enters (b := b) hx hr
    rw [heq]
    exact enterReport_attemptEnds f

/-- R105: the check of the start of a retest with the drive IDLE. -/
theorem startRetest_starts (hd : (s.nest n).drive = .idle) :
    (b.retestDelay = 0 → s.tkc.linkView = .locked → ((startRetest n b x s).nest n).drive = .starting ∧
      ((s.ctx n).state = .idle → ((startRetest n b x s).ctx n).state = .armed)) ∧
    (b.retestDelay ≠ 0 ∨ s.tkc.linkView ≠ .locked →
      ((startRetest n b x s).nest n).drive = .idle ∧ (startRetest n b x s).ctx n = s.ctx n) := by
  have can : (retestedState n b x s).canStart n = true ↔ b.retestDelay = 0 ∧ s.tkc.linkView = .locked := by
    rw [canStart_iff, retestedState_nest]
    exact ⟨fun ⟨_, ht, hl, _⟩ => ⟨ht, hl⟩, fun ⟨ht, hl⟩ => ⟨Or.inr rfl, ht, hl, hd⟩⟩
  refine ⟨fun ht hl => ?_, fun h => ?_⟩
  · obtain ⟨hn, hidle, -⟩ := startCheck_due (can.2 ⟨ht, hl⟩)
    rw [startRetest_eq, hn]
    exact ⟨rfl, fun hc => by rw [(hidle hc).1]⟩
  · rw [startRetest_eq, startCheck_not_due _ _ fun k => ?_, retestedState_nest]
    · exact ⟨hd, rfl⟩
    · obtain ⟨ht, hl⟩ := can.1 k
      exact h.elim (fun n => n ht) fun n => n hl

end

/-- Settles O42. -/
theorem drainCompletesWithReviewAndClose : Obligations.DrainCompletesWithReviewAndClose := by
  intro n b x s hb hx
  have hlot : s.lot = some b := hb
  have done : s.drainDone n = true ↔ (s.nest n).state = .drain ∧ (s.nest n).drive = .idle ∧
      (x.lastDriven = none ∨ x.lastJudged = x.lastDriven) := by
    rw [drainDone_iff, hx]
    exact and_congr_right fun _ => and_congr_right fun _ => ⟨fun ⟨_, h, k⟩ => by cases h; exact k, fun k => ⟨x, rfl, k⟩⟩
  have hexec : exec (.drainComplete n) s =
      if s.drainDone n then .next (closeAttempt n b (review n b s)) else .next s := by
    show execDrainComplete n s = _
    rw [execDrainComplete, hlot]
  refine ⟨fun h => hexec.trans (if_neg fun k => h (done.1 k)), fun h => ?_⟩
  obtain ⟨hs, hd, hlast⟩ := id h
  have frame : ∀ t, t = closeAttempt n b (review n b s) → (∀ m, m ≠ n → t.nest m = s.nest m) ∧
      (s.nest n).AttemptEnds (t.nest n) ∧ t.tmb = s.tmb ∧ t.fli = s.fli ∧ t.gdm = s.gdm ∧ t.bmu = s.bmu ∧
      t.ltc = s.ltc ∧ t.flg = s.flg ∧ t.svc = s.svc ∧ t.pending = s.pending := by
    rintro t rfl
    refine ⟨fun m hm => by simp [hm], ?_, by simp, by simp, by simp, by simp, by simp, by simp, by simp, by simp⟩
    by_cases hv : Voided s n b x
    · rw [review_voided hs hx hv]
      have hu := State.setNest_nest_self s n { s.nest n with ticket := some (x.reviewed b) }
      have ends := closeAttempt_attemptEnds (b := b) (congrArg Nest.ticket hu)
      rw [hu] at ends
      exact ends
    · rw [review_not_voided hs hx hv]
      exact closeAttempt_attemptEnds hx
  obtain ⟨others, ⟨hlevel, hverdict, hrun, hpending⟩, rest⟩ := frame _ rfl
  refine ⟨_, hexec.trans (if_pos (done.2 h)), ?_, others, hlevel, hverdict, hrun, hpending, rest⟩
  by_cases hv : Voided s n b x
  · rw [review_voided hs hx hv]
    let u := s.setNest n { s.nest n with ticket := some (x.reviewed b) }
    have hu : u.nest n = { s.nest n with ticket := some (x.reviewed b) } := State.setNest_nest_self _ _ _
    have hux : (u.nest n).ticket = some (x.reviewed b) := congrArg Nest.ticket hu
    have notDisp : ∀ d, d ≠ .opened → d ≠ .marginal → x.disp ≠ d := fun d h1 h2 k =>
      hv.1.elim (fun h => h1 (k.symm.trans h)) fun h => h2 (k.symm.trans h)
    by_cases hl : x.attempt < b.attemptLimit
    · have hdisp : (x.reviewed b).disp = .retest := if_pos hl
      rw [closeAttempt_retests hux hdisp]
      obtain ⟨hticket, hstate, htimer, htally, htallies, hsets, hnests, hbins, htickets⟩ :=
        startRetest_spec (n := n) (b := b) (x := x.reviewed b) (s := u)
      obtain ⟨hstart, hwait⟩ := startRetest_starts (n := n) (b := b) (x := x.reviewed b) (s := u) (by rw [hu]; exact hd)
      refine ⟨fun k => absurd hv k, fun k => absurd hv k, fun _ _ k => absurd k (notDisp _ nofun nofun),
        fun _ k => absurd k (notDisp _ nofun nofun), fun _ k => absurd hl (Nat.not_lt.2 k), fun k => absurd ⟨hv, hl⟩ k,
        fun _ _ => ⟨hticket, hstate, htimer, htally, htallies, hsets, hnests, hbins, htickets, hstart, hwait⟩⟩
    · have hdisp : (x.reviewed b).disp = .reject := if_neg hl
      obtain ⟨z, f, heq, -, -, hreject, -⟩ := closeAttempt_enters (b := b) hux (by rw [hdisp]; nofun)
      obtain ⟨rfl, rfl⟩ := hreject hdisp
      rw [heq]
      refine ⟨fun k => absurd hv k, fun k => absurd hv k, fun _ _ k => absurd k (notDisp _ nofun nofun),
        fun _ k => absurd k (notDisp _ nofun nofun), fun _ _ => ?_,
        fun _ _ => ⟨enterReport_swg _ _ _ _ _, enterReport_bka _ _ _ _ _, enterReport_jdu _ _ _ _ _,
          enterReport_yct _ _ _ _ _⟩, fun _ k => absurd k hl⟩
      have entered := enterReport_entered (n := n) (b := b) (t := x.reviewed b) (f := (x.reviewed b).rejected) (s := s)
        (u := u) rfl rfl
      rw [Ticket.reviewed, if_neg hl] at entered
      rw [Ticket.reviewed, if_neg hl]
      exact entered
  · rw [review_not_voided hs hx hv]
    by_cases hr : x.disp = .retest
    · rw [closeAttempt_retests hx hr]
      have notDisp : ∀ d, d ≠ .retest → x.disp ≠ d := fun d hd k => hd (k.symm.trans hr)
      exact ⟨fun _ k => absurd k (notDisp _ nofun), fun _ k => absurd k (notDisp _ nofun),
        fun _ _ k => absurd k (notDisp _ nofun), fun _ k => absurd k (notDisp _ nofun), fun k => absurd k hv,
        fun _ k => absurd hr k, fun k => absurd k hv⟩
    · obtain ⟨z, f, heq, hopened, hmarginal, hreject, habort⟩ := closeAttempt_enters (b := b) hx hr
      rw [heq]
      refine ⟨fun _ k => ?_, fun _ k => ?_, fun stage cls k hstage hcls => ?_, fun stage k hstage => ?_,
        fun k => absurd k hv, fun _ _ => ⟨enterReport_swg _ _ _ _ _, enterReport_bka _ _ _ _ _,
          enterReport_jdu _ _ _ _ _, enterReport_yct _ _ _ _ _⟩, fun k => absurd k hv⟩
      · obtain ⟨rfl, rfl⟩ := hopened k
        exact enterReport_entered rfl rfl
      · obtain ⟨rfl, rfl⟩ := hmarginal k
        exact enterReport_entered rfl rfl
      · obtain ⟨rfl, rfl⟩ := hreject k
        rw [Ticket.rejected, hstage, hcls]
        exact enterReport_entered rfl rfl
      · obtain ⟨rfl, rfl⟩ := habort k
        rw [Ticket.aborted, hstage]
        exact enterReport_entered rfl rfl

end Sys2Proof.Machine
end

section
/-! PROOFS. Report-taken: the tally, the report, the marker job, the reject run, and HELD, UNLOAD or retire: O43. -/

namespace Sys2Proof.Machine

open Sys2Proof Host

section
variable {n : NestId} {b : Binding} {x : Ticket} {f : Final} {e : BinEntry} {s : State}

/-! ### Space, tally and payload -/

/-- R107, R108: report-taken waits for space in the queues. -/
theorem exec_reportTaken (hb : s.ltc.binding = some b) (hs : (s.nest n).state = .report)
    (hx : (s.nest n).ticket = some x) (hf : x.final = some f) (he : x.entry = some e) :
    let space := s.svc.reports.length < 16 ∧ (e.pattern ≠ 0 → s.bmu.queue.length < 16)
    (¬space → exec (.reportTaken n) s = .next s) ∧
      (space → exec (.reportTaken n) s = .next (takeReport n b x f e s)) := by
  have hlot : s.lot = some b := hb
  have hexec : exec (.reportTaken n) s =
      if (s.reportsFull || s.markerFull e) = true then .next s else .next (takeReport n b x f e s) := by
    show execReportTaken n s = _
    simp only [execReportTaken, hlot, hs, hx, hf, he]
  have full : (s.reportsFull || s.markerFull e) = true ↔
      16 ≤ s.svc.reports.length ∨ (e.pattern ≠ 0 ∧ 16 ≤ s.bmu.queue.length) := by
    rw [Bool.or_eq_true_iff, State.reportsFull, State.markerFull, decide_eq_true_iff, decide_eq_true_iff]
    rfl
  refine ⟨fun h => hexec.trans (if_pos (full.2 ?_)), fun ⟨h1, h2⟩ => hexec.trans (if_neg fun k => ?_)⟩
  · by_contra k
    rw [not_or] at k
    exact h ⟨by omega, fun hp => by_contra fun q => k.2 ⟨hp, by omega⟩⟩
  · rcases full.1 k with k | ⟨hp, k⟩
    · omega
    · have := h2 hp; omega

/-- R138: the counters after the verdict. -/
def verdictCounters (n : NestId) (x : Ticket) (f : Final) (e : BinEntry) (tallied : Bool) (c : Counters) : Counters :=
  if tallied then c.tally n e.bin f.disp x.marginal else c.untallied n

theorem Counters.nests_set {c : Counters} {n : NestId} {x : NestCounters} (m : NestId) :
    (c.setNest n x).nests[m] = if m = n then x else c.nests[m] := by
  by_cases hm : m = n
  · subst hm
    rw [if_pos rfl]
    exact Vector.getElem_set_self _
  · rw [if_neg hm]
    exact Vector.getElem_set_ne n.isLt m.isLt fun k => hm (Fin.val_inj.1 k.symm)

/-- R138: the nest counters of a tallied verdict. -/
theorem NestCounters.tallied_eq (x : NestCounters) (disp : FinalDisp) (marginal : Bool) : x.tallied disp marginal = { x with
    tested := countUp x.tested
    passed := if disp = .pass then countUp x.passed else x.passed
    marginal := if disp = .pass ∧ marginal = true then countUp x.marginal else x.marginal
    rejected := if disp = .reject then countUp x.rejected else x.rejected
    aborted := if disp = .abort then countUp x.aborted else x.aborted } := by
  cases disp <;> cases marginal <;> simp [NestCounters.tallied]

/-- R138: the tally of a verdict, or its count as UNTALLIED. -/
theorem verdictCounters_spec (c : Counters) (tallied : Bool) :
    let now := verdictCounters n x f e tallied c
    (tallied = true →
      (∀ k : Fin 32, now.bins[k] = if k = e.bin then countUp c.bins[k] else c.bins[k]) ∧
      now.nests[n] = { c.nests[n] with
        tested := countUp c.nests[n].tested
        passed := if f.disp = .pass then countUp c.nests[n].passed else c.nests[n].passed
        marginal := if f.disp = .pass ∧ x.marginal = true then countUp c.nests[n].marginal else c.nests[n].marginal
        rejected := if f.disp = .reject then countUp c.nests[n].rejected else c.nests[n].rejected
        aborted := if f.disp = .abort then countUp c.nests[n].aborted else c.nests[n].aborted }) ∧
    (tallied = false → now.bins = c.bins ∧
      now.nests[n] = { c.nests[n] with untallied := countUp c.nests[n].untallied }) ∧
    (∀ m : NestId, m ≠ n → now.nests[m] = c.nests[m]) ∧ now.tickets = c.tickets ∧ now.guardTrips = c.guardTrips ∧
      now.voidBlocks = c.voidBlocks ∧ now.cellErrors = c.cellErrors := by
  cases tallied with
  | true =>
    refine ⟨fun _ => ⟨fun k => ?_, ?_⟩, nofun, fun m hm => ?_, rfl, rfl, rfl, rfl⟩
    · by_cases hk : k = e.bin
      · subst hk
        rw [if_pos rfl]
        exact Vector.getElem_set_self _
      · rw [if_neg hk]
        exact Vector.getElem_set_ne e.bin.isLt k.isLt fun h => hk (Fin.val_inj.1 h.symm)
    · exact ((Counters.nests_set n).trans (if_pos rfl)).trans (NestCounters.tallied_eq _ _ _)
    · exact (Counters.nests_set m).trans (if_neg hm)
  | false =>
    exact ⟨nofun, fun _ => ⟨rfl, (Counters.nests_set n).trans (if_pos rfl)⟩,
      fun m hm => (Counters.nests_set m).trans (if_neg hm), rfl, rfl, rfl, rfl⟩

/-- R131, R192: the byte of an absent band is 0 in the unit report. -/
theorem Defect.bytes_zero (d : Defect) : d.bytes (byte 0) = byte d.cls.code ++ byte (d.band.getD 0) ++ bytes3 d.fcode ++
    signed2 d.value ++ signed2 d.limit ++ bytes3 d.programBlock := by
  unfold Defect.bytes
  cases d.band <;> rfl

/-! ### The reject run (R113) -/

/-- R113: the reject run after a verdict. -/
theorem runAfter_eq (run : Nat) (disp : FinalDisp) (tallied : Bool) : runAfter run disp tallied =
    if tallied = true ∧ disp = .reject then min 15 (run + 1) else if tallied = true ∧ disp = .pass then 0 else run := by
  cases tallied <;> cases disp <;> simp [runAfter]

theorem runReached_iff (run : Nat) (disp : FinalDisp) (tallied : Bool) : runReached b run disp tallied = true ↔
    tallied = true ∧ disp = .reject ∧ 1 ≤ b.rejectRun ∧ b.rejectRun ≤ runAfter run disp tallied := by
  simp [runReached, and_assoc]

/-- R108: report-taken before the reject run. -/
def State.reportedTo (s : State) (n : NestId) (b : Binding) (x : Ticket) (f : Final) (e : BinEntry) : State :=
  let tallied := talliedAt f.stage b.tallyPoint
  ((queueJob n x.serial e (queueReport (reportPayload n x f e tallied (s.tally n))
    (s.setLive (verdictCounters n x f e tallied s.yct.live)))).setNest n { s.nest n with verdict := e.good })

theorem queueJob_eq (n : NestId) (serial : Nat) (e : BinEntry) (s : State) : queueJob n serial e s = { s with
    bmu := { s.bmu with queue := if e.pattern = 0 then s.bmu.queue else s.bmu.queue ++ [⟨e.pattern, serial, n⟩] } } := by
  unfold queueJob; split <;> rfl

/-- R108: the parts that report-taken changes before the reject run. -/
theorem State.reportedTo_eq (s : State) : s.reportedTo n b x f e = { s with
    yct := { s.yct with live := verdictCounters n x f e (talliedAt f.stage b.tallyPoint) s.yct.live }
    svc := { s.svc with
      reports := s.svc.reports ++
        [⟨64, s.svc.reportSeq, reportPayload n x f e (talliedAt f.stage b.tallyPoint) (s.tally n)⟩]
      reportSeq := s.svc.reportSeq + 1 }
    bmu := { s.bmu with
      queue := if e.pattern = 0 then s.bmu.queue else s.bmu.queue ++ [⟨e.pattern, x.serial, n⟩] }
    tkc := { s.tkc with nests := (s.tkc.nests.set n { s.nest n with verdict := e.good }) } } := by
  rw [State.reportedTo, queueJob_eq]
  rfl

theorem reportedOn_eq : s.reportedOn n b x f e =
    updateRun n b x f.disp (talliedAt f.stage b.tallyPoint) (s.reportedTo n b x f e) := by
  have hnest : (queueJob n x.serial e (queueReport (reportPayload n x f e (talliedAt f.stage b.tallyPoint) (s.tally n))
      (s.setLive (verdictCounters n x f e (talliedAt f.stage b.tallyPoint) s.yct.live)))).nest n = s.nest n := by
    rw [queueJob_eq]; rfl
  rw [State.reportedTo, ← hnest]
  rfl

/-- R113: the limit is reached at this verdict. -/
def RunReached (s : State) (n : NestId) (b : Binding) (f : Final) : Prop :=
  talliedAt f.stage b.tallyPoint = true ∧ f.disp = .reject ∧ 1 ≤ b.rejectRun ∧
    b.rejectRun ≤ runAfter (s.nest n).rejectRun f.disp (talliedAt f.stage b.tallyPoint)

/-- R113: REJECT_RUN as it is raised at report-taken. -/
def runRecord (s : State) (n : NestId) (b : Binding) (x : Ticket) : FaultRecord :=
  ⟨.rejectRun, s.now, some n, some x.serial, BitVec.ofNat 16 b.rejectRun⟩

theorem State.reportedTo_nest (s : State) :
    (s.reportedTo n b x f e).nest n = { s.nest n with verdict := e.good } := State.setNest_nest_self _ _ _

/-- R113: the limit is not reached. -/
theorem reportedOn_runs (h : ¬RunReached s n b f) : s.reportedOn n b x f e =
    (s.reportedTo n b x f e).setNest n { s.nest n with
      verdict := e.good
      rejectRun := runAfter (s.nest n).rejectRun f.disp (talliedAt f.stage b.tallyPoint) } := by
  rw [reportedOn_eq, updateRun, State.reportedTo_nest]
  exact if_neg fun k => h ((runReached_iff _ _ _).1 k)

/-- R113: the limit is reached. -/
theorem reportedOn_reaches (h : RunReached s n b f) : s.reportedOn n b x f e =
    raiseFault (runRecord s n b x) ((s.reportedTo n b x f e).setNest n { s.nest n with
      verdict := e.good, rejectRun := 0, disablePending := true }) := by
  have hnow : (s.reportedTo n b x f e).now = s.now := by rw [State.reportedTo_eq]; rfl
  rw [reportedOn_eq, updateRun, State.reportedTo_nest, hnow]
  exact if_pos ((runReached_iff _ _ _).2 h)

/-! ### The parts of the state after report-taken -/

/-- R113: the nest before HELD, UNLOAD or retire. -/
theorem reportedOn_nest : ∃ run pending, (s.reportedOn n b x f e).nest n = { s.nest n with
      verdict := e.good, rejectRun := run, disablePending := pending } ∧
    (¬RunReached s n b f → run = runAfter (s.nest n).rejectRun f.disp (talliedAt f.stage b.tallyPoint)) ∧
    (RunReached s n b f → run = 0) ∧ (pending = true ↔ (s.nest n).disablePending = true ∨ RunReached s n b f) := by
  by_cases h : RunReached s n b f
  · rw [reportedOn_reaches h, raiseFault_nest, State.setNest_nest_self]
    exact ⟨_, _, rfl, fun k => absurd h k, fun _ => rfl, ⟨fun _ => Or.inr h, fun _ => rfl⟩⟩
  · rw [reportedOn_runs h, State.setNest_nest_self]
    exact ⟨_, _, rfl, fun _ => rfl, fun k => absurd k h, (or_iff_left h).symm⟩

/-- R108, R113: everything else after report-taken, but for the log and the notices. -/
theorem reportedOn_leaves : ∃ nests flg notices seq, s.reportedOn n b x f e = { s.reportedTo n b x f e with
    tkc := { s.tkc with nests := nests }, flg := flg
    svc := { (s.reportedTo n b x f e).svc with notices := notices, noticeSeq := seq } } := by
  by_cases h : RunReached s n b f
  · rw [reportedOn_reaches h, raiseFault_leaves, State.reportedTo_eq]
    exact ⟨_, _, _, _, rfl⟩
  · rw [reportedOn_runs h, State.reportedTo_eq]
    exact ⟨_, _, _, _, rfl⟩

/-- R113: REJECT_RUN is raised at the limit, and nothing is raised below it. -/
theorem reportedOn_raises :
    (¬RunReached s n b f → (s.reportedOn n b x f e).flg = s.flg ∧
      (s.reportedOn n b x f e).svc.notices = s.svc.notices) ∧
    (RunReached s n b f → (s.reportedOn n b x f e).flg = (raiseFault (runRecord s n b x) s).flg ∧
      (s.reportedOn n b x f e).svc.notices = (raiseFault (runRecord s n b x) s).svc.notices) := by
  refine ⟨fun h => ?_, fun h => ?_⟩
  · rw [reportedOn_runs h, State.reportedTo_eq]
    exact ⟨rfl, rfl⟩
  · have same : SameNotices s ((s.reportedTo n b x f e).setNest n { s.nest n with
        verdict := e.good, rejectRun := 0, disablePending := true }) := by
      rw [State.reportedTo_eq]; exact ⟨rfl, rfl, rfl⟩
    have raised := raiseFault_sameNotices (r := runRecord s n b x) same
      ((captureOf_plain _ rfl).trans (captureOf_plain _ rfl).symm)
    rw [reportedOn_reaches h]
    exact ⟨raised.1, raised.2.1⟩

theorem reportedOn_held : (s.reportedOn n b x f e).flg.held = s.flg.held := (reportedOn_keeps n b x f e s).1

/-- R108, R109, R112: report-taken ends with HELD, UNLOAD or retire, before the drain check. -/
theorem takeReport_ends (hb : s.ltc.binding = some b) : ∃ z l,
    z.rejectRun = ((s.reportedOn n b x f e).nest n).rejectRun ∧
    (let held := s.flg.held = some ⟨n, x.serial⟩
     let gone := (s.nest n).sensor = .ignored ∨ (s.nest n).level = .opened
     let t := ((s.reportedOn n b x f e).setNest n z).setLtc l
     let drains := s.ltc.line = .closing ∧ s.ltc.ticketCount ≤ 1 ∧ ¬held ∧ gone
     (¬drains → takeReport n b x f e s = t) ∧ (drains → LotDrained b t (takeReport n b x f e s)) ∧
     (held → z = ((s.reportedOn n b x f e).nest n).enter .held 0 ∧ l = s.ltc) ∧
     (¬held → (s.nest n).sensor = .used → (s.nest n).level = .closed →
       z = ((s.reportedOn n b x f e).nest n).enter .unload s.tkc.unloadLimit ∧ l = s.ltc) ∧
     (¬held → gone → z = ((s.reportedOn n b x f e).nest n).retired ∧
       l = { s.ltc with ticketCount := s.ltc.ticketCount - 1 })) := by
  have hltc : (s.reportedOn n b x f e).ltc = s.ltc := reportedOn_ltc n b x f e s
  obtain ⟨run, pending, hnest, -, -, -⟩ := reportedOn_nest (n := n) (b := b) (x := x) (f := f) (e := e) (s := s)
  obtain ⟨nests, flg, notices, seq, hleaves⟩ := reportedOn_leaves (n := n) (b := b) (x := x) (f := f) (e := e) (s := s)
  have hlimit : (s.reportedOn n b x f e).tkc.unloadLimit = s.tkc.unloadLimit := by rw [hleaves]
  have hheld : (s.reportedOn n b x f e).isHeld n x.serial = true ↔ s.flg.held = some ⟨n, x.serial⟩ := by
    rw [State.isHeld, reportedOn_held, beq_iff_eq]
  have hsensor : ((s.reportedOn n b x f e).nest n).sensor = (s.nest n).sensor := by rw [hnest]
  have hlevel : ((s.reportedOn n b x f e).nest n).level = (s.nest n).level := by rw [hnest]
  by_cases h : s.flg.held = some ⟨n, x.serial⟩
  · refine ⟨((s.reportedOn n b x f e).nest n).enter .held 0, s.ltc, rfl, fun _ => ?_, fun k => absurd h k.2.2.1,
      fun _ => ⟨rfl, rfl⟩, fun k => absurd h k, fun k => absurd h k⟩
    rw [takeReport_eq, if_pos (hheld.2 h), ← hltc]
    rfl
  · have hunload : takeReport n b x f e s = enterUnload n (s.reportedOn n b x f e) := by
      rw [takeReport_eq, if_neg fun k => h (hheld.1 k)]
    rcases sensor_level_cases (s.nest n) with ⟨hs, hl⟩ | hgone
    · have hnot : ¬((s.nest n).sensor = .ignored ∨ (s.nest n).level = .opened) := by simp [hs, hl]
      refine ⟨((s.reportedOn n b x f e).nest n).enter .unload s.tkc.unloadLimit, s.ltc, rfl, fun _ => ?_,
        fun k => absurd k.2.2.2 hnot, fun k => absurd k h, fun _ _ _ => ⟨rfl, rfl⟩, fun _ k => absurd k hnot⟩
      rw [hunload, enterUnload_waits (by rw [hsensor]; exact hs) (by rw [hlevel]; exact hl), hlimit, ← hltc]
      rfl
    · have hretire := enterUnload_retires (n := n) (s := s.reportedOn n b x f e) (by rw [hsensor, hlevel]; exact hgone)
      have hstate : retiredState n (s.reportedOn n b x f e) =
          ((s.reportedOn n b x f e).setNest n ((s.reportedOn n b x f e).nest n).retired).setLtc
            { s.ltc with ticketCount := s.ltc.ticketCount - 1 } := by
        rw [← hltc]; rfl
      refine ⟨((s.reportedOn n b x f e).nest n).retired, { s.ltc with ticketCount := s.ltc.ticketCount - 1 }, rfl,
        fun k => ?_, fun ⟨hline, hcount, _, _⟩ => ?_, fun k => absurd k h, fun _ h1 h2 => ?_, fun _ _ => ⟨rfl, rfl⟩⟩
      · rw [hunload, hretire, hstate]
        refine drainCheck_not_due _ ?_
        by_contra hdue
        rw [not_or, not_not, not_not] at hdue
        exact k ⟨hdue.1, Nat.sub_eq_zero_iff_le.1 hdue.2, h, hgone⟩
      · rw [hunload, hretire, hstate]
        exact drainCheck_drained b _ hline (Nat.sub_eq_zero_of_le hcount) hb
      · rcases hgone with hgone | hgone
        · rw [hgone] at h1; cases h1
        · rw [hgone] at h2; cases h2

/-- R113: the reject run, with the tally as a comparison of stages. -/
theorem runAfter_talliedAt (run : Nat) : runAfter run f.disp (talliedAt f.stage b.tallyPoint) =
    if b.tallyPoint.code ≤ f.stage.code ∧ f.disp = .reject then min 15 (run + 1)
    else if b.tallyPoint.code ≤ f.stage.code ∧ f.disp = .pass then 0 else run := by
  rw [runAfter_eq, talliedAt]
  simp only [decide_eq_true_eq]

theorem runReached_talliedAt : RunReached s n b f ↔ b.tallyPoint.code ≤ f.stage.code ∧ f.disp = .reject ∧
    1 ≤ b.rejectRun ∧ b.rejectRun ≤ (if b.tallyPoint.code ≤ f.stage.code ∧ f.disp = .reject then
        min 15 ((s.nest n).rejectRun + 1)
      else if b.tallyPoint.code ≤ f.stage.code ∧ f.disp = .pass then 0 else (s.nest n).rejectRun) := by
  rw [RunReached, runAfter_talliedAt, talliedAt, decide_eq_true_iff]

/-- R113: the other nests after report-taken. -/
theorem reportedOn_nest_ne {m : NestId} (hm : m ≠ n) : (s.reportedOn n b x f e).nest m = s.nest m := by
  rw [reportedOn_eq, updateRun_nest_other _ _ _ _ _ _ hm]
  exact (State.setNest_nest ..).trans ((if_neg hm).trans (by rw [queueJob_eq]; rfl))

end

/-- Settles O43. -/
theorem reportTakenTalliesReportsAndUnloads : Obligations.ReportTakenTalliesReportsAndUnloads := by
  intro n b x f e s hb hs hx hf he
  obtain ⟨waits, takes⟩ := exec_reportTaken hb hs hx hf he
  refine ⟨waits, fun hspace => ?_⟩
  obtain ⟨z, l, hzrun, hdry, hdrains, hheld, hunload, hretire⟩ :=
    takeReport_ends (n := n) (x := x) (f := f) (e := e) hb
  obtain ⟨run, pending, hnest, hrun, hreached, hpending⟩ :=
    reportedOn_nest (n := n) (b := b) (x := x) (f := f) (e := e) (s := s)
  obtain ⟨nests, flg, notices, seq, hleaves⟩ := reportedOn_leaves (n := n) (b := b) (x := x) (f := f) (e := e) (s := s)
  obtain ⟨hquiet, hraised⟩ := reportedOn_raises (n := n) (b := b) (x := x) (f := f) (e := e) (s := s)
  have hself : (((s.reportedOn n b x f e).setNest n z).setLtc l).nest n = z := State.setNest_nest_self _ _ _
  have hothers : ∀ m, m ≠ n → (((s.reportedOn n b x f e).setNest n z).setLtc l).nest m = s.nest m := fun m hm =>
    (State.setNest_nest ..).trans ((if_neg hm).trans (reportedOn_nest_ne hm))
  have htallied : talliedAt f.stage b.tallyPoint = true ↔ b.tallyPoint.code ≤ f.stage.code := decide_eq_true_iff
  rw [hnest] at hzrun hheld hunload hretire
  rw [runAfter_talliedAt] at hrun
  rw [runReached_talliedAt] at hrun hreached hpending hquiet hraised
  obtain ⟨hcounted, huncounted, hcounters⟩ :=
    verdictCounters_spec (n := n) (x := x) (f := f) (e := e) s.yct.live (talliedAt f.stage b.tallyPoint)
  refine ⟨((s.reportedOn n b x f e).setNest n z).setLtc l, takeReport n b x f e s, takes hspace, ⟨hdry, hdrains⟩, ?_⟩
  intro tallied run' reached
  refine ⟨?counters, ?reports, ?seq, ?bmu, fun h => ?quiet, fun h => ?raised, ?ends, hothers, ?frame⟩
  case counters =>
    have hyct : (((s.reportedOn n b x f e).setNest n z).setLtc l).yct =
        { s.yct with live := verdictCounters n x f e (talliedAt f.stage b.tallyPoint) s.yct.live } := by
      rw [hleaves, State.reportedTo_eq]; rfl
    rw [hyct]
    obtain ⟨h1, h2, h3, h4, h5⟩ := hcounters
    exact ⟨fun h => hcounted (htallied.2 h), fun h => huncounted (Bool.eq_false_iff.2 fun k => h (htallied.1 k)),
      h1, h2, h3, h4, h5, rfl⟩
  case reports =>
    have hreports : (((s.reportedOn n b x f e).setNest n z).setLtc l).svc.reports = s.svc.reports ++
        [⟨64, s.svc.reportSeq, reportPayload n x f e (talliedAt f.stage b.tallyPoint) (s.tally n)⟩] := by
      rw [hleaves, State.reportedTo_eq]; rfl
    rw [hreports]
    refine congrArg (fun p => s.svc.reports ++ [(⟨64, s.svc.reportSeq, p⟩ : Cell)]) ?_
    unfold reportPayload
    cases x.firstDefect with
    | none => rfl
    | some d => exact congrArg (_ ++ ·) (Defect.bytes_zero d)
  case seq => rw [hleaves, State.reportedTo_eq]; rfl
  case bmu => rw [hleaves, State.reportedTo_eq]; rfl
  case quiet =>
    refine ⟨(hquiet h).1, (hquiet h).2, ?_⟩
    rw [hself, hzrun]
    exact hrun h
  case raised =>
    refine ⟨?_, (hraised h).1, (hraised h).2⟩
    rw [hself, hzrun]
    exact hreached h
  case ends =>
    rw [hself]
    refine ⟨fun h => ?_, fun h h1 h2 => ?_, fun h hgone => ?_⟩
    · obtain ⟨rfl, rfl⟩ := hheld h
      exact ⟨rfl, rfl, hx, rfl, hpending, rfl⟩
    · obtain ⟨rfl, rfl⟩ := hunload h h1 h2
      exact ⟨rfl, rfl, hx, rfl, hpending, rfl⟩
    · obtain ⟨rfl, rfl⟩ := hretire h hgone
      exact ⟨fun k => if_pos (hpending.2 k), fun k => if_neg fun q => k (hpending.1 q), rfl, rfl, rfl, rfl, rfl⟩
  case frame =>
    rw [hleaves, State.reportedTo_eq]
    exact ⟨rfl, rfl, rfl, rfl, rfl, rfl, rfl⟩

end Sys2Proof.Machine
end

section
/-! PROOFS. LOT_OPEN: the conditions on a limit set, the parameters, the checks in order and the binding: O17. -/

namespace Sys2Proof.Machine

open Sys2Proof Host

/-! ### The conditions on a limit set (R69) -/

theorem bandsAscend_iff (l : List Band) :
    bandsAscend l = true ↔ ∀ i (h : i + 1 < l.length), l[i].fHi ≤ l[i + 1].fLo := by
  induction l with
  | nil => simp [bandsAscend]
  | cons b rest ih =>
    cases rest with
    | nil => simp [bandsAscend]
    | cons c rest =>
      rw [bandsAscend, Bool.and_eq_true, ih, decide_eq_true_iff]
      constructor
      · rintro ⟨hb, hrest⟩ (_ | i) h
        · exact hb
        · exact hrest i (Nat.lt_of_succ_lt_succ h)
      · intro h
        exact ⟨h 0 (by simp), fun i hi => h (i + 1) (Nat.succ_lt_succ hi)⟩

theorem Band.valid_iff (b : Band) : b.valid = true ↔
    (100 ≤ b.fLo ∧ b.fLo ≤ 400000) ∧ (100 ≤ b.fHi ∧ b.fHi ≤ 400000) ∧ (-1400 ≤ b.gLo ∧ b.gLo ≤ 600) ∧
      (-1400 ≤ b.gHi ∧ b.gHi ≤ 600) ∧ (-1400 ≤ b.dnMax ∧ b.dnMax ≤ 400) ∧ (-1400 ≤ b.rbMax ∧ b.rbMax ≤ 400) ∧
      (0 ≤ b.margin ∧ b.margin ≤ 60) ∧ (1 ≤ b.persistence ∧ b.persistence ≤ 15) ∧ b.fLo < b.fHi ∧ b.gLo ≤ b.gHi := by
  simp only [Band.valid, Band.inRange, Bool.and_eq_true, inRange_iff, decide_eq_true_eq]
  omega

/-- The bands in use, by their index in the set. -/
theorem getElem_take_bands (l : LimitSet) {i : Nat} (h : i < (l.bands.toList.take l.header.bandCount).length) :
    ∃ h32 : i < 32, i < l.header.bandCount ∧ (l.bands.toList.take l.header.bandCount)[i] = l.bands[(⟨i, h32⟩ : Fin 32)] := by
  rw [List.length_take, Vector.length_toList] at h
  refine ⟨by omega, by omega, ?_⟩
  rw [List.getElem_take, Vector.getElem_toList]
  rfl

theorem LimitSet.valid_iff (l : LimitSet) : l.valid = true ↔ l.header.inRange = true ∧
    (∀ k : Fin 32, k.val < l.header.bandCount → l.bands[k].valid = true) ∧
    ∀ j k : Fin 32, k.val = j.val + 1 → k.val < l.header.bandCount → l.bands[j].fHi ≤ l.bands[k].fLo := by
  have hlen : ∀ k : Fin 32, k.val < l.header.bandCount → k.val < (l.bands.toList.take l.header.bandCount).length := by
    intro k hk
    rw [List.length_take, Vector.length_toList]
    omega
  rw [LimitSet.valid, Bool.and_eq_true, Bool.and_eq_true, bandsAscend_iff, List.all_eq_true, and_assoc]
  refine and_congr_right fun _ => and_congr ⟨fun h k hk => ?_, fun h b hb => ?_⟩ ⟨fun h j k hjk hk => ?_, fun h i hi => ?_⟩
  · obtain ⟨_, _, hget⟩ := getElem_take_bands l (hlen k hk)
    rw [← hget]
    exact h _ (List.getElem_mem _)
  · obtain ⟨i, hi, rfl⟩ := List.mem_iff_getElem.1 hb
    obtain ⟨h32, hcount, hget⟩ := getElem_take_bands l hi
    rw [hget]
    exact h _ hcount
  · obtain ⟨j, hj⟩ := j
    obtain ⟨k, hk32⟩ := k
    obtain rfl : k = j + 1 := hjk
    obtain ⟨_, _, hget⟩ := getElem_take_bands l (hlen _ hk)
    obtain ⟨_, _, hget'⟩ := getElem_take_bands l (Nat.lt_of_succ_lt (hlen _ hk))
    have := h j (hlen _ hk)
    rwa [hget, hget'] at this
  · obtain ⟨h32, hcount, hget⟩ := getElem_take_bands l hi
    obtain ⟨h32', -, hget'⟩ := getElem_take_bands l (Nat.lt_of_succ_lt hi)
    rw [hget, hget']
    exact h ⟨i, h32'⟩ ⟨i + 1, h32⟩ rfl hcount

/-! ### The parameters of LOT_OPEN (R148) -/

/-- R148: every parameter lies in its values. -/
def LotFits (f : LotFields) : Prop :=
  f.primarySet.toNat < 8 ∧ (f.retestSet.toNat < 8 ∨ f.retestSet.toNat = 255) ∧ f.keyMode.toNat ≤ 2 ∧
    (1 ≤ f.attemptLimit.toNat ∧ f.attemptLimit.toNat ≤ 3) ∧ f.tallyPoint.toNat ≤ 3 ∧ f.earlyOut.toNat ≤ 1 ∧
    f.rejectRun.toNat ≤ 15

theorem retestSetOf_some {b : Byte} (h : b.toNat < 8 ∨ b.toNat = 255) : ∃ r, retestSetOf b = some r ∧
    (∀ k, r = some k → b.toNat = k.val) ∧ (r = none → b.toNat = 255) := by
  rcases h with h | h
  · exact ⟨some ⟨b.toNat, h⟩, by rw [retestSetOf, limitSetOf_of_lt h], fun k hk => by cases hk; rfl, nofun⟩
  · exact ⟨none, by rw [retestSetOf, limitSetOf_of_le (by omega)]; exact if_pos h, nofun, fun _ => h⟩

theorem retestSetOf_none {b : Byte} (h : ¬(b.toNat < 8 ∨ b.toNat = 255)) : retestSetOf b = none := by
  rw [not_or] at h
  rw [retestSetOf, limitSetOf_of_le (by omega)]
  exact if_neg h.2

theorem keyModeOf_some {b : Byte} (h : b.toNat ≤ 2) : ∃ m, keyModeOf b = some m ∧
    m.span = if b.toNat = 0 then 8 else if b.toNat = 1 then 64 else 32 := by
  unfold keyModeOf
  generalize b.toNat = x at h
  interval_cases x <;> exact ⟨_, rfl, rfl⟩

theorem keyModeOf_none {b : Byte} (h : ¬b.toNat ≤ 2) : keyModeOf b = none := by
  unfold keyModeOf
  split
  case h_4 => rfl
  all_goals omega

theorem tallyPointOf_some {b : Byte} (h : b.toNat ≤ 3) : ∃ p, tallyPointOf b = some p ∧ p.code = b.toNat := by
  unfold tallyPointOf
  generalize b.toNat = x at h
  interval_cases x <;> exact ⟨_, rfl, rfl⟩

theorem tallyPointOf_none {b : Byte} (h : ¬b.toNat ≤ 3) : tallyPointOf b = none := by
  unfold tallyPointOf
  split
  case h_5 => rfl
  all_goals omega

/-- R149: a parameter out of its values leaves no binding. -/
theorem lotParamsOf_unfit {f : LotFields} (h : ¬LotFits f) : lotParamsOf f = none := by
  unfold lotParamsOf
  by_cases h1 : f.primarySet.toNat < 8
  by_cases h2 : f.retestSet.toNat < 8 ∨ f.retestSet.toNat = 255
  by_cases h3 : f.keyMode.toNat ≤ 2
  by_cases h4 : f.tallyPoint.toNat ≤ 3
  by_cases h5 : f.earlyOut.toNat ≤ 1
  · have hrange : ¬(inRange 1 3 f.attemptLimit.toNat && decide (f.rejectRun.toNat ≤ 15)) = true := by
      rw [Bool.and_eq_true, inRange_iff, decide_eq_true_iff]
      rintro ⟨h6, h7⟩
      exact h ⟨h1, h2, h3, by omega, h4, h5, h7⟩
    split
    · exact if_neg hrange
    · rfl
  · rw [boolOf_of_lt (by omega)]; split <;> simp_all
  · rw [tallyPointOf_none h4]; split <;> simp_all
  · rw [keyModeOf_none h3]; split <;> simp_all
  · rw [retestSetOf_none h2]; split <;> simp_all
  · rw [limitSetOf_of_le (by omega)]

/-- R148: the parameters of a LOT_OPEN as the binding keeps them, before the walk. -/
def bindingOf (f : LotFields) (primary : Fin 8) (retest : Option (Fin 8)) (key : KeyMode) (point : Stage) : Binding :=
  { lotId := f.lotId.toNat, firstSegment := entryOf f.firstSegment, primarySet := primary, retestSet := retest
    binBase := f.binBase.toNat, keyMode := key, attemptLimit := f.attemptLimit.toNat, tallyPoint := point
    earlyOut := decide (f.earlyOut.toNat = 1), nextSerial := f.firstSerial.toNat, firstSerial := f.firstSerial.toNat
    rejectRun := f.rejectRun.toNat, entryDelay := f.entryDelay.toNat, retestDelay := f.retestDelay.toNat
    chain := [], totalBlocks := 0, firstBlocks := [] }

/-- R148: the binding takes the parameters. -/
theorem lotParamsOf_fits {f : LotFields} (h : LotFits f) : ∃ r m p, retestSetOf f.retestSet = some r ∧
    keyModeOf f.keyMode = some m ∧ tallyPointOf f.tallyPoint = some p ∧
    lotParamsOf f = some (bindingOf f ⟨f.primarySet.toNat, h.1⟩ r m p) := by
  obtain ⟨h1, h2, h3, ⟨hmin, hmax⟩, h4, h5, h6⟩ := h
  obtain ⟨r, hr, -⟩ := retestSetOf_some h2
  obtain ⟨m, hm, -⟩ := keyModeOf_some h3
  obtain ⟨p, hp, -⟩ := tallyPointOf_some h4
  have hrange : (inRange 1 3 f.attemptLimit.toNat && decide (f.rejectRun.toNat ≤ 15)) = true := by
    rw [Bool.and_eq_true, inRange_iff, decide_eq_true_iff]
    omega
  refine ⟨r, m, p, hr, hm, hp, ?_⟩
  unfold lotParamsOf
  rw [limitSetOf_of_lt h1, hr, hm, hp, boolOf_of_le h5]
  exact if_pos hrange

/-! ### The checks in order (R150) -/

theorem Judgement.retestPasses_iff (j : Judgement) (b : Binding) : j.retestPasses b = true ↔
    ∀ k, b.retestSet = some k → k ≠ b.primarySet → j.sets[k].valid = true := by
  unfold Judgement.retestPasses
  split
  next h => simp [h]
  next k h =>
    rw [h, Bool.or_eq_true_iff, decide_eq_true_iff, or_iff_not_imp_left]
    constructor
    · rintro hk _ ⟨⟩; exact hk
    · exact fun hk => hk k rfl

/-- R150: the binding with the results of the walk. -/
def boundTo (table : Vector Segment 256) (chain : List (Fin 256)) (p : Binding) : Binding :=
  { p with chain := chain, totalBlocks := totalBlocksOf table chain, firstBlocks := firstBlocksFrom table 0 chain }

section
variable {p : Binding} {s : State} {chain : List (Fin 256)}

theorem validateLot_chain {k : Fin 256} {i : Nat} (h : validateChain s.swg.segments p.firstSegment = .fail k i) :
    validateLot p s = .error (.chain k i) := by
  rw [validateLot, h]

theorem validateLot_pass (h : validateChain s.swg.segments p.firstSegment = .pass chain) : validateLot p s =
    if !s.jdu.sets[p.primarySet].valid then .error .primarySet
    else if !s.jdu.retestPasses p then .error .retestSet
    else if 255 < p.binBase + p.keyMode.span - 1 then .error .span
    else .ok (boundTo s.swg.segments chain p) := by
  rw [validateLot, h]
  rfl

theorem validateLot_primary (h : validateChain s.swg.segments p.firstSegment = .pass chain)
    (hp : s.jdu.sets[p.primarySet].valid = false) : validateLot p s = .error .primarySet := by
  rw [validateLot_pass h, if_pos (by rw [hp]; rfl)]

theorem validateLot_retest (h : validateChain s.swg.segments p.firstSegment = .pass chain)
    (hp : s.jdu.sets[p.primarySet].valid = true) (hr : s.jdu.retestPasses p = false) :
    validateLot p s = .error .retestSet := by
  rw [validateLot_pass h, if_neg (by rw [hp]; nofun), if_pos (by rw [hr]; rfl)]

theorem validateLot_span (h : validateChain s.swg.segments p.firstSegment = .pass chain)
    (hp : s.jdu.sets[p.primarySet].valid = true) (hr : s.jdu.retestPasses p = true)
    (hs : 255 < p.binBase + p.keyMode.span - 1) : validateLot p s = .error .span := by
  rw [validateLot_pass h, if_neg (by rw [hp]; nofun), if_neg (by rw [hr]; nofun), if_pos hs]

theorem validateLot_ok (h : validateChain s.swg.segments p.firstSegment = .pass chain)
    (hp : s.jdu.sets[p.primarySet].valid = true) (hr : s.jdu.retestPasses p = true)
    (hs : ¬255 < p.binBase + p.keyMode.span - 1) : validateLot p s =
      .ok (boundTo s.swg.segments chain p) := by
  rw [validateLot_pass h, if_neg (by rw [hp]; nofun), if_neg (by rw [hr]; nofun), if_neg hs]

end

theorem firstBlocksFrom_length (table : Vector Segment 256) (sum : Nat) (chain : List (Fin 256)) :
    (firstBlocksFrom table sum chain).length = chain.length := by
  induction chain generalizing sum with
  | nil => rfl
  | cons k rest ih => exact congrArg (· + 1) (ih _)

/-- R8: the first block of a segment is the sum of the durations before it. -/
theorem firstBlocksFrom_getElem? (table : Vector Segment 256) (sum : Nat) (chain : List (Fin 256)) {i : Nat}
    (h : i < chain.length) : (firstBlocksFrom table sum chain)[i]? =
      some (sum + ((chain.take i).map (fun k => table[k].duration)).sum) := by
  induction chain generalizing sum i with
  | nil => cases h
  | cons k rest ih =>
    cases i with
    | zero => rfl
    | succ i =>
      rw [firstBlocksFrom, List.getElem?_cons_succ, ih _ (Nat.lt_of_succ_lt_succ h), List.take_succ_cons, List.map_cons,
        List.sum_cons, Nat.add_assoc]

/-! ### The answers -/

section
variable {f : LotFields} {s : State}

theorem actLotOpen_busy (h : s.ltc.line.hasTickets = true) :
    actLotOpen f s = (⟨.badState, byte s.ltc.line.code⟩, s) := if_pos h

theorem actLotOpen_refused {c : LotCheck} (h : s.ltc.line.hasTickets = false) (hc : checkLot f s = .error c) :
    actLotOpen f s = (⟨.badParam, byte s.ltc.line.code ++ c.bytes⟩, s) := by
  rw [actLotOpen, if_neg (by rw [h]; nofun), hc]

theorem actLotOpen_accepted {b : Binding} (h : s.ltc.line.hasTickets = false) (hc : checkLot f s = .ok b) :
    actLotOpen f s = (⟨.ok, lotOpenContent b .opened⟩, acceptLot b s) := by
  rw [actLotOpen, if_neg (by rw [h]; nofun), hc]

theorem checkLot_eq {p : Binding} (h : lotParamsOf f = some p) : checkLot f s = validateLot p s := by
  rw [checkLot, h]

/-- R149: a refused LOT_OPEN is answered with its check. -/
theorem exec_lotOpen_refused {c : LotCheck} (tag : Byte) (hq : s.quiet) (h : s.ltc.line.hasTickets = false)
    (hc : checkLot f s = .error c) :
    exec (.lotOpen tag f) s = .next (s.replying 141 tag ([1] ++ byte s.ltc.line.code ++ c.bytes)) := by
  have hlen : (byte s.ltc.line.code ++ c.bytes).length ≤ 89 := by
    have hbytes : c.bytes.length = 3 := by cases c <;> rfl
    rw [List.length_append, hbytes, byte_length]
    decide
  have := exec_command_quiet (r := .lotOpen f) tag hq (actLotOpen_refused h hc) hlen
  rw [List.append_assoc]
  exact this

/-- R151: an accepted LOT_OPEN. -/
theorem exec_lotOpen_accepted {b : Binding} (tag : Byte) (hq : s.quiet) (h : s.ltc.line.hasTickets = false)
    (hc : checkLot f s = .ok b) : exec (.lotOpen tag f) s = .next { acceptLot b s with
      svc := { s.svc with reply := Reply.cells ⟨.ok, lotOpenContent b .opened⟩ 13 tag } } := by
  have hexec : exec (.lotOpen tag f) s = .next (arrive (.lotOpen f) tag (actLotOpen f) s) := exec_command (.lotOpen f) tag s
  rw [hexec, arrive_quiet _ _ _ _ hq, answer, actLotOpen_accepted h hc]
  rfl

/-- R151: the marks of an accepted lot, and the counters. -/
theorem acceptLot_marks (b : Binding) (s : State) :
    (∀ k ∈ b.chain, (acceptLot b s).ltc.segFrozen[k] = true) ∧ (acceptLot b s).ltc.setFrozen[b.primarySet] = true ∧
      (∀ k, b.retestSet = some k → (acceptLot b s).ltc.setFrozen[k] = true) ∧
      ∀ k : Fin 256, b.binBase ≤ k.val → k.val < b.binBase + b.keyMode.span → (acceptLot b s).ltc.binFrozen[k] = true := by
  rw [acceptLot_ltc]
  refine ⟨fun k hk => ?_, ?_, fun k hk => ?_, fun k hlo hhi => ?_⟩
  · exact (Vector.getElem_ofFn _).trans (by simp [hk])
  · exact (Vector.getElem_ofFn _).trans (by simp)
  · exact (Vector.getElem_ofFn _).trans (by simp [hk])
  · refine (Vector.getElem_ofFn _).trans ?_
    rw [Bool.or_eq_true_iff, decide_eq_true_iff]
    exact Or.inr ⟨hlo, Nat.le_sub_one_of_lt hhi⟩

end

theorem LimitHeader.inRange_iff (h : LimitHeader) : h.inRange = true ↔
    (-1800 ≤ h.phase ∧ h.phase ≤ 1799) ∧ (0 ≤ h.tolerance ∧ h.tolerance ≤ 900) ∧
    (1 ≤ h.persistence ∧ h.persistence ≤ 15) ∧ (-1400 ≤ h.presence ∧ h.presence ≤ 600) ∧
    h.voidPercent ≤ 100 ∧ (1 ≤ h.bandCount ∧ h.bandCount ≤ 32) := by
  simp only [LimitHeader.inRange, Bool.and_eq_true, Machine.inRange_iff]
  omega

/-- Settles O17. -/
theorem lotOpenValidatesAndBinds : Obligations.LotOpenValidatesAndBinds := by
  refine ⟨fun l => ?valid, fun tag f s hq => ⟨fun hl => ?opened, fun hl => ?closing, fun hl => ?free⟩⟩
  case valid =>
    rw [LimitSet.valid_iff, LimitHeader.inRange_iff]
    simp only [Band.valid_iff, and_assoc]
  case opened =>
    have h := exec_command_quiet (r := .lotOpen f) tag hq (actLotOpen_busy (f := f) (s := s) (by rw [hl]; rfl)) (by simp)
    rw [hl] at h
    exact h
  case closing =>
    have h := exec_command_quiet (r := .lotOpen f) tag hq (actLotOpen_busy (f := f) (s := s) (by rw [hl]; rfl)) (by simp)
    rw [hl] at h
    exact h
  case free =>
    have hline : s.ltc.line.hasTickets = false := by rcases hl with hl | hl <;> rw [hl] <;> rfl
    refine ⟨fun hfits => exec_lotOpen_refused (c := .range) tag hq hline ?_, fun hfits => ?_⟩
    · rw [checkLot, lotParamsOf_unfit hfits]
    obtain ⟨r, m, point, hr, hm, hpoint, hparams⟩ := lotParamsOf_fits hfits
    refine ⟨bindingOf f ⟨f.primarySet.toNat, hfits.1⟩ r m point, rfl, rfl, rfl, ?retest, rfl, rfl, ?point, rfl, rfl, rfl,
      rfl, rfl, rfl, ?span, fun k i hfail => ?chain, fun chain hpass => ?checks⟩
    case retest =>
      obtain ⟨r', hr', hsome, hnone⟩ := retestSetOf_some hfits.2.1
      rw [hr] at hr'
      cases hr'
      cases r with
      | none => exact hnone rfl
      | some k => exact hsome k rfl
    case point =>
      obtain ⟨p', hp', hcode⟩ := tallyPointOf_some hfits.2.2.2.2.1
      rw [hpoint] at hp'
      cases hp'
      exact hcode
    case span =>
      obtain ⟨m', hm', hspan⟩ := keyModeOf_some hfits.2.2.1
      rw [hm] at hm'
      cases hm'
      exact hspan
    case chain =>
      exact exec_lotOpen_refused (c := .chain k i) tag hq hline ((checkLot_eq hparams).trans (validateLot_chain hfail))
    case checks =>
      have hretest := Judgement.retestPasses_iff s.jdu
      refine ⟨fun hp => ?_, fun hp hr => ?_, fun hp hr hspan => ?_, fun hp hr hspan => ?_⟩
      · exact exec_lotOpen_refused (c := .primarySet) tag hq hline
          ((checkLot_eq hparams).trans (validateLot_primary hpass hp))
      · exact exec_lotOpen_refused (c := .retestSet) tag hq hline ((checkLot_eq hparams).trans
          (validateLot_retest hpass hp (Bool.eq_false_iff.2 fun k => hr ((hretest _).1 k))))
      · exact exec_lotOpen_refused (c := .span) tag hq hline ((checkLot_eq hparams).trans
          (validateLot_span hpass hp ((hretest _).2 hr) (Nat.lt_of_not_le hspan)))
      · have hok := (checkLot_eq hparams).trans
          (validateLot_ok hpass hp ((hretest _).2 hr) (Nat.not_lt.2 hspan))
        obtain ⟨hchain, hprimary, hretest, hbins⟩ := acceptLot_marks
          (boundTo s.swg.segments chain (bindingOf f ⟨f.primarySet.toNat, hfits.1⟩ r m point)) s
        refine ⟨_, _, exec_lotOpen_accepted tag hq hline hok, rfl, firstBlocksFrom_length _ _ _, fun i hi => ?_,
          rfl, rfl, rfl, rfl, hchain, hprimary, hretest, hbins, rfl, fun n => acceptLot_nest _ s n,
          rfl, rfl, rfl, rfl, rfl, rfl, rfl, rfl, rfl, rfl, rfl, rfl, rfl⟩
        exact (firstBlocksFrom_getElem? _ _ _ hi).trans (by rw [Nat.zero_add])

end Sys2Proof.Machine
end

section
/-! PROOFS. The assembler word by word, and the end of an upstream cell: O49, O50. -/

namespace Sys2Proof.Machine

open Sys2Proof Host

/-! ### The end of an upstream cell (R181, R186 to R188) -/

theorem exec_upstreamCellEnd {v : UpCell} {s : State} (hup : s.svc.up = some v) (hend : v.index = v.cell.wordCount)
    (hchosen : s.svc.upChosen = false) (hreset : ¬(v.source = .reply ∧ v.cell.type = 154)) :
    exec .upstreamCellEnd s = .next (endCell v.source s) := by
  have hended : s.svc.endedCell = some v := by
    rw [Service.endedCell, hup]
    exact if_pos ⟨hend, hchosen⟩
  have hline : ¬v.endsLineReset = true := by
    rw [UpCell.endsLineReset, Bool.and_eq_true, beq_iff_eq, beq_iff_eq]
    exact hreset
  show execUpstreamCellEnd s = _
  rw [execUpstreamCellEnd, hended]
  exact if_neg hline

/-- R188: the selection that ends a step. -/
theorem selected_select (u : State) : ∃ svc : Service, u.setSvc u.svc.select = { u with svc := svc } ∧ Selected u.svc svc :=
  ⟨_, rfl, Service.select_spec _⟩

/-- R181: no request is taken while a reply cell is left, or when none waits. -/
theorem takeWaiting_idle {s : State} (h : s.svc.reply ≠ [] ∨ s.svc.requests = []) : takeWaiting s = s := by
  unfold takeWaiting
  split
  next hr hq =>
    rcases h with h | h
    · exact absurd hr h
    · rw [h] at hq; cases hq
  next => rfl

theorem takeWaiting_takes {s : State} {c : Cell} {rest : List Cell} (hr : s.svc.reply = [])
    (hq : s.svc.requests = c :: rest) : takeWaiting s = takeCell c (s.setSvc { s.svc with requests := rest }) := by
  rw [takeWaiting, hr, hq]

/-- Settles O50. -/
theorem upstreamCellEndSelectsNext : Obligations.UpstreamCellEndSelectsNext := by
  intro v s hup hend hchosen hreset
  refine ⟨_, exec_upstreamCellEnd hup hend hchosen hreset, fun h => ?_, fun h => ?_, fun h hidle => ?_,
    fun c rest h hreply hreq => ?_⟩
  · rw [h]
    exact selected_select (s.setSvc (s.svc.sent .notice))
  · rw [h]
    exact selected_select (s.setSvc (s.svc.sent .report))
  · rw [h, endCell, takeWaiting_idle (s := s.setSvc (s.svc.sent .reply)) hidle]
    exact selected_select (s.setSvc (s.svc.sent .reply))
  · rw [h, endCell, takeWaiting_takes (s := s.setSvc (s.svc.sent .reply)) hreply hreq]
    have hsent : (s.setSvc (s.svc.sent .reply)).setSvc { (s.setSvc (s.svc.sent .reply)).svc with requests := rest } =
        { s with svc := { s.svc with up := none, reply := [], requests := rest } } := by
      rw [← hreply]; rfl
    rw [hsent]
    exact selected_select _

/-! ### The assembler (R177 to R179) -/

/-- R190: the kind of a word from its bits 31 and 30. -/
theorem wordKind_eq (w : Word) : (w.toNat / 2 ^ 30 = 0 → wordKind w = .idle) ∧ (w.toNat / 2 ^ 30 = 1 → wordKind w = .first) ∧
    (w.toNat / 2 ^ 30 = 2 → wordKind w = .middle) ∧ (w.toNat / 2 ^ 30 = 3 → wordKind w = .last) := by
  unfold wordKind
  refine ⟨fun h => ?_, fun h => ?_, fun h => ?_, fun h => ?_⟩ <;> (rw [h]; rfl)

section
variable {w : Word} {s : State}

theorem assemble_idle (hk : wordKind w = .idle) : assemble w s = s := by
  rw [assemble, hk]
  cases s.svc.asm <;> rfl

theorem assemble_first (hk : wordKind w = .first) (ha : s.svc.asm ≠ .assembling) :
    assemble w s = s.setSvc (s.svc.beginCell w) := by
  rw [assemble, hk]
  cases h : s.svc.asm with
  | waiting => rfl
  | assembling => exact absurd h ha
  | discarding => rfl

theorem assemble_restarts (hk : wordKind w = .first) (ha : s.svc.asm = .assembling) :
    assemble w s = cellError 2 (s.setSvc (s.svc.beginCell w)) := by
  rw [assemble, hk, ha]

theorem assemble_stray_middle (hk : wordKind w = .middle) (ha : s.svc.asm = .waiting) :
    assemble w s = cellError 3 (s.setSvc (s.svc.rest .discarding)) := by
  rw [assemble, hk, ha]

theorem assemble_stray_last (hk : wordKind w = .last) (ha : s.svc.asm = .waiting) : assemble w s = cellError 3 s := by
  rw [assemble, hk, ha]

theorem assemble_discards (hk : wordKind w = .middle) (ha : s.svc.asm = .discarding) : assemble w s = s := by
  rw [assemble, hk, ha]

theorem assemble_discarded (hk : wordKind w = .last) (ha : s.svc.asm = .discarding) :
    assemble w s = s.setSvc (s.svc.rest .waiting) := by
  rw [assemble, hk, ha]

theorem assemble_middle (hk : wordKind w = .middle) (ha : s.svc.asm = .assembling) : assemble w s =
    if s.svc.asmWords + 1 = 33 then cellError 4 (s.setSvc (s.svc.rest .discarding)) else s.setSvc (s.svc.keepWord w) := by
  rw [assemble, hk, ha]

theorem assemble_last (hk : wordKind w = .last) (ha : s.svc.asm = .assembling) : assemble w s =
    if s.svc.asmWords + 1 = 33 then cellError 4 (s.setSvc (s.svc.rest .waiting))
    else checkCell (s.svc.asmBytes ++ wordContent w) (s.svc.asmWords + 1) (s.setSvc (s.svc.rest .waiting)) := by
  rw [assemble, hk, ha]

end

/-- R178: a big-endian half, as a number. -/
theorem halfAt_toNat (p : List Byte) (k : Nat) :
    (halfAt p k).toNat = (p.getD k 0).toNat * 256 + (p.getD (k + 1) 0).toNat := by
  rw [halfAt, BitVec.toNat_append, byteAt, byteAt, Nat.shiftLeft_eq, ← Nat.shiftLeft_eq,
    ← Nat.shiftLeft_add_eq_or_of_lt (BitVec.isLt _), Nat.shiftLeft_eq]

theorem lengthFits_iff (bytes : List Byte) (n : Nat) : lengthFits bytes n = true ↔
    (bytes.getD 2 0).toNat ≤ 90 ∧ n = ((bytes.getD 2 0).toNat + 7) / 3 := by
  simp only [lengthFits, Bool.and_eq_true, decide_eq_true_iff]
  rfl

theorem checksumFits_iff (bytes : List Byte) {n : Nat} (hn : 1 ≤ n) : checksumFits bytes n = true ↔
    byteSum (bytes.take (3 * n - 2)) =
      (bytes.getD (3 * n - 2) 0).toNat * 256 + (bytes.getD (3 * n - 1) 0).toNat := by
  rw [checksumFits, beq_iff_eq, halfAt_toNat, show 3 * n - 2 + 1 = 3 * n - 1 by omega]

theorem checkCell_unsized {bytes : List Byte} {n : Nat} (s : State) (h : ¬lengthFits bytes n = true) :
    checkCell bytes n s = cellError 5 s := if_pos (by rw [Bool.not_eq_true] at h; rw [h]; rfl)

theorem checkCell_unsummed {bytes : List Byte} {n : Nat} (s : State) (hl : lengthFits bytes n = true)
    (h : ¬checksumFits bytes n = true) : checkCell bytes n s = cellError 1 s := by
  rw [checkCell, if_neg (by rw [hl]; nofun), if_pos (by rw [Bool.not_eq_true] at h; rw [h]; rfl)]

theorem checkCell_good {bytes : List Byte} {n : Nat} (s : State) (hl : lengthFits bytes n = true)
    (h : checksumFits bytes n = true) : checkCell bytes n s = offerCell (cellOf bytes) (takeCell (cellOf bytes)) s := by
  rw [checkCell, if_neg (by rw [hl]; nofun), if_neg (by rw [h]; nofun)]

/-! ### The next upstream word (R175, R188) -/

theorem Service.choose_next {v : Service} {u : UpCell} (hup : v.up = some u) (hc : v.upChosen = false)
    (hi : u.index < u.cell.wordCount) : v.choose =
      { v with up := some { u with index := u.index + 1 }, upWord := u.cell.word u.index, upChosen := true } := by
  rw [Service.choose, if_neg (by rw [hc]; nofun), hup]
  exact if_pos hi

theorem Service.choose_selects {v : Service} (hup : v.up = none) (hc : v.upChosen = false) : Selected v v.choose := by
  rw [Service.choose, if_neg (by rw [hc]; nofun), hup]
  exact Service.select_spec v

/-- Settles O49. -/
theorem assemblerTakesWords : Obligations.AssemblerTakesWords := by
  intro w s
  obtain ⟨hidle, hfirst, hmiddle, hlast⟩ := wordKind_eq w
  refine ⟨assemble w s, rfl, fun h => assemble_idle (hidle h), fun h ha => assemble_first (hfirst h) ha,
    fun h ha => assemble_restarts (hfirst h) ha, fun ha h => assemble_stray_middle (hmiddle h) ha,
    fun ha h => assemble_stray_last (hlast h) ha, fun ha h => assemble_discards (hmiddle h) ha,
    fun ha h => assemble_discarded (hlast h) ha, fun ha hn => ⟨fun h => ?_, fun h => ?_⟩,
    fun ha hn => ⟨fun h => ?_, fun h => ?_⟩, fun v hup hc hi => Service.choose_next hup hc hi,
    fun hup hc => Service.choose_selects hup hc, fun hc => if_pos hc⟩
  · exact (assemble_middle (hmiddle h) ha).trans (if_pos (by rw [hn]))
  · exact (assemble_last (hlast h) ha).trans (if_pos (by rw [hn]))
  · exact (assemble_middle (hmiddle h) ha).trans ((if_neg (by omega)).trans (by rw [← ha]; rfl))
  · have hchecked := (assemble_last (hlast h) ha).trans (if_neg (by omega))
    rw [hchecked]
    have hsized := lengthFits_iff (s.svc.asmBytes ++ wordContent w) (s.svc.asmWords + 1)
    have hsummed := checksumFits_iff (s.svc.asmBytes ++ wordContent w) (Nat.le_add_left 1 s.svc.asmWords)
    exact ⟨fun hl => checkCell_unsized _ (mt hsized.1 hl),
      fun hl hc => checkCell_unsummed _ (hsized.2 hl) (mt hsummed.1 hc),
      fun hl hc => checkCell_good _ (hsized.2 hl) (hsummed.2 hc)⟩

end Sys2Proof.Machine
end

section
/-! PROOFS. The words of a cell are assembled to it: O52. -/

namespace Sys2Proof.Machine

open Sys2Proof Host

/-! ### The words of a cell (R176, R190) -/

theorem Cell.wordCount_eq (c : Machine.Cell) : c.wordCount = (c.payload.length + 7) / 3 := rfl

theorem Cell.body_eq (c : Machine.Cell) : c.body = ([c.type, c.tag, BitVec.ofNat 8 c.payload.length] ++ c.payload) ++
    List.replicate (3 * c.wordCount - 2 - (c.payload.length + 3)) 0 := by
  rw [Cell.body]
  simp only [List.length_append, List.length_cons, List.length_nil, Cell.wordCount, Nat.add_comm]

theorem Cell.body_length (c : Machine.Cell) : c.body.length = 3 * c.wordCount - 2 := by
  have := c.wordCount_eq
  rw [Cell.body_eq, List.length_append, List.length_append, List.length_replicate]
  simp only [List.length_cons, List.length_nil]
  omega

theorem Cell.content_length (c : Machine.Cell) : c.content.length = 3 * c.wordCount := by
  have := c.wordCount_eq
  rw [Cell.content, List.length_append, Cell.body_length]
  show _ + 2 = _
  omega

theorem toNat_append_add {m n : Nat} (x : BitVec m) (y : BitVec n) : (x ++ y).toNat = x.toNat * 2 ^ n + y.toNat := by
  rw [BitVec.toNat_append, ← Nat.shiftLeft_add_eq_or_of_lt y.isLt, Nat.shiftLeft_eq]

/-- R190: the bits of a word, as a number. -/
theorem wordBits_toNat (kind : BitVec 2) (x y z : Byte) : (kind ++ (0#6) ++ x ++ y ++ z).toNat =
    kind.toNat * 2 ^ 30 + x.toNat * 2 ^ 16 + y.toNat * 2 ^ 8 + z.toNat := by
  rw [toNat_append_add, toNat_append_add, toNat_append_add, toNat_append_add, BitVec.toNat_ofNat]
  omega

/-- R190: a word carries its kind in its top bits. -/
theorem wordBits_kind (kind : BitVec 2) (x y z : Byte) : (kind ++ (0#6) ++ x ++ y ++ z).toNat / 2 ^ 30 = kind.toNat := by
  rw [wordBits_toNat]
  omega

theorem wordContent_bits (kind : BitVec 2) (x y z : Byte) : wordContent (kind ++ (0#6) ++ x ++ y ++ z) = [x, y, z] := by
  have hbits := wordBits_toNat kind x y z
  have hbyte : ∀ (start : Nat) (b : Byte), (kind ++ (0#6) ++ x ++ y ++ z).toNat / 2 ^ start % 2 ^ 8 = b.toNat →
      (kind ++ (0#6) ++ x ++ y ++ z).extractLsb' start 8 = b := fun start b h =>
    BitVec.eq_of_toNat_eq (by rw [BitVec.extractLsb'_toNat, Nat.shiftRight_eq_div_pow, h])
  rw [wordContent, hbyte 16 x (by omega), hbyte 8 y (by omega), hbyte 0 z (by omega)]

theorem Cell.wordKind_word (c : Machine.Cell) (k : Nat) : wordKind (c.word k) =
    if k = 0 then .first else if k + 1 = c.wordCount then .last else .middle := by
  have h := wordKind_eq (c.word k)
  obtain ⟨-, hfirst, hmiddle, hlast⟩ := h
  have hkind := wordBits_kind (if k = 0 then 1 else if k + 1 = c.wordCount then 3 else 2) (byteAt c.content (3 * k))
    (byteAt c.content (3 * k + 1)) (byteAt c.content (3 * k + 2))
  change (c.word k).toNat / 2 ^ 30 = _ at hkind
  split at hkind
  · rw [if_pos ‹_›]; exact hfirst hkind
  split at hkind
  · rw [if_neg ‹_›, if_pos ‹_›]; exact hlast hkind
  · rw [if_neg ‹_›, if_neg ‹_›]; exact hmiddle hkind

theorem take_add_three (l : List Byte) {i : Nat} (h : i + 3 ≤ l.length) :
    l.take (i + 3) = l.take i ++ [byteAt l i, byteAt l (i + 1), byteAt l (i + 2)] := by
  have hget : ∀ j, j < l.length → l[j]?.toList = [byteAt l j] := fun j hj => by
    rw [byteAt, List.getD_eq_getElem _ _ hj, List.getElem?_eq_getElem hj]; rfl
  rw [List.take_add_one, List.take_add_one, List.take_add_one, hget i (by omega), hget (i + 1) (by omega),
    hget (i + 2) (by omega), List.append_assoc, List.append_assoc]
  rfl

/-- R176: the words carry the content of the cell, three bytes at a time. -/
theorem Cell.take_content_word (c : Machine.Cell) {k : Nat} (hk : k < c.wordCount) :
    c.content.take (3 * k) ++ wordContent (c.word k) = c.content.take (3 * (k + 1)) := by
  have hlen := c.content_length
  rw [Cell.word, wordContent_bits]
  exact (take_add_three c.content (i := 3 * k) (by omega)).symm

/-! ### The checks of a good cell (R178) -/

section
variable {c : Machine.Cell}

/-- R176: the head of a cell. -/
theorem Cell.content_eq (c : Machine.Cell) : ∃ rest, c.content =
    c.type :: c.tag :: BitVec.ofNat 8 c.payload.length :: (c.payload ++ rest) := by
  rw [Cell.content, Cell.body_eq, List.append_assoc, List.append_assoc]
  exact ⟨_, rfl⟩

theorem Cell.length_byte (hc : c.payload.length ≤ 90) : (c.content.getD 2 0).toNat = c.payload.length := by
  obtain ⟨rest, h⟩ := c.content_eq
  rw [h]
  show (BitVec.ofNat 8 c.payload.length).toNat = _
  rw [BitVec.toNat_ofNat]
  omega

theorem Cell.lengthFits_content (hc : c.payload.length ≤ 90) : lengthFits c.content c.wordCount = true := by
  rw [lengthFits_iff, Cell.length_byte hc]
  exact ⟨hc, rfl⟩

/-- R176: the checksum stands after the body. -/
theorem Cell.halfAt_content : (halfAt c.content (3 * c.wordCount - 2)).toNat = byteSum c.body := by
  have hsum := byteSum_lt c.body
  have hget : ∀ k, c.content.getD (c.body.length + k) 0 = (bytes2 (byteSum c.body)).getD k 0 := fun k => by
    rw [Cell.content, List.getD_append_right _ _ _ _ (Nat.le_add_right _ _), Nat.add_sub_cancel_left]
  have hhigh := hget 0
  have hlow := hget 1
  rw [halfAt_toNat, ← c.body_length]
  rw [Nat.add_zero] at hhigh
  rw [hhigh, hlow]
  show (BitVec.ofNat 8 (byteSum c.body / 2 ^ 8)).toNat * 256 + (BitVec.ofNat 8 (byteSum c.body)).toNat = _
  rw [BitVec.toNat_ofNat, BitVec.toNat_ofNat]
  omega

theorem Cell.checksumFits_content : checksumFits c.content c.wordCount = true := by
  have htake : c.content.take (3 * c.wordCount - 2) = c.body := by
    rw [Cell.content, ← c.body_length, List.take_left]
  rw [checksumFits, beq_iff_eq, htake, Cell.halfAt_content]

theorem Cell.cellOf_content (hc : c.payload.length ≤ 90) : cellOf c.content = c := by
  have hlen := Cell.length_byte hc
  obtain ⟨rest, h⟩ := c.content_eq
  rw [cellOf, byteAt, byteAt, byteAt, hlen, h]
  show (⟨c.type, c.tag, (c.payload ++ rest).take c.payload.length⟩ : Machine.Cell) = c
  rw [List.take_left]

/-- R177: the assembler after k words of the cell. -/
theorem assemble_words (s : State) (ha : s.svc.asm ≠ .assembling) (hc : c.payload.length ≤ 90) {k : Nat}
    (hk : k + 1 < c.wordCount) : (List.range (k + 1)).foldl (fun u k => assemble (c.word k) u) s =
      { s with svc := { s.svc with asm := .assembling, asmWords := k + 1, asmBytes := c.content.take (3 * (k + 1)) } } := by
  have hcount := c.wordCount_eq
  induction k with
  | zero =>
    have hkind : wordKind (c.word 0) = .first := (c.wordKind_word _).trans (if_pos rfl)
    have hcontent := c.take_content_word (k := 0) (by omega)
    show assemble (c.word 0) s = _
    rw [assemble_first hkind ha, ← hcontent]
    rfl
  | succ k ih =>
    have hkind : wordKind (c.word (k + 1)) = .middle :=
      (c.wordKind_word _).trans ((if_neg (by omega)).trans (if_neg (by omega)))
    rw [List.range_succ, List.foldl_append, ih (by omega)]
    show assemble (c.word (k + 1)) _ = _
    rw [assemble_middle hkind rfl, if_neg (by show ¬k + 1 + 1 = 33; omega), ← c.take_content_word (k := k + 1) (by omega)]
    rfl

end

/-- Settles O52, by induction on the words before the last, which is the one that is checked. -/
theorem wordsOfACellAreAssembledToIt : Obligations.WordsOfACellAreAssembledToIt := by
  intro c s hc ha
  have hcount := c.wordCount_eq
  obtain ⟨k, hk⟩ : ∃ k, c.wordCount = k + 1 + 1 := ⟨c.wordCount - 2, by omega⟩
  have hkind : wordKind (c.word (k + 1)) = .last :=
    (c.wordKind_word _).trans ((if_neg (by omega)).trans (if_pos hk.symm))
  have hcontent : c.content.take (3 * (k + 1)) ++ wordContent (c.word (k + 1)) = c.content := by
    rw [c.take_content_word (by omega), ← hk, ← c.content_length, List.take_length]
  rw [hk, List.range_succ, List.foldl_append, assemble_words s ha hc (by omega)]
  show assemble (c.word (k + 1)) _ = _
  rw [assemble_last hkind rfl, if_neg (by show ¬k + 1 + 1 = 33; omega)]
  show checkCell (c.content.take (3 * (k + 1)) ++ wordContent (c.word (k + 1))) (k + 1 + 1) _ = _
  rw [hcontent, ← hk, checkCell_good _ (Cell.lengthFits_content hc) Cell.checksumFits_content, Cell.cellOf_content hc]
  rfl

end Sys2Proof.Machine
end

section
/-! PROOFS. The payload of a request is read back: O53. -/

namespace Sys2Proof.Machine

open Sys2Proof Host

/-! ### Bytes of a value, read back (R193) -/

theorem append_eq_of_toNat {m n : Nat} {x : BitVec m} {y : BitVec n} {v : BitVec (m + n)}
    (hx : x.toNat = v.toNat / 2 ^ n) (hy : y.toNat = v.toNat % 2 ^ n) : x ++ y = v := by
  refine BitVec.eq_of_toNat_eq ?_
  rw [toNat_append_add, hx, hy]
  exact Nat.div_add_mod' _ _

theorem extract_toNat {n : Nat} (v : BitVec n) (k : Nat) : (v.extractLsb' k 8).toNat = v.toNat / 2 ^ k % 2 ^ 8 := by
  rw [BitVec.extractLsb'_toNat, Nat.shiftRight_eq_div_pow]

section
variable {p : List Byte} {k : Nat}

theorem halfAt_of_bytes {v : Half} (h1 : byteAt p k = v.extractLsb' 8 8) (h0 : byteAt p (k + 1) = v.extractLsb' 0 8) :
    halfAt p k = v := by
  have := v.isLt
  rw [halfAt, h1, h0]
  refine append_eq_of_toNat ?_ ?_ <;> rw [extract_toNat] <;> omega

theorem tripleAt_of_bytes {v : Triple} (h2 : byteAt p k = v.extractLsb' 16 8) (h1 : byteAt p (k + 1) = v.extractLsb' 8 8)
    (h0 : byteAt p (k + 2) = v.extractLsb' 0 8) : tripleAt p k = v := by
  have := v.isLt
  rw [tripleAt, h2, h1, h0]
  refine append_eq_of_toNat ?_ ?_
  · rw [toNat_append_add, extract_toNat, extract_toNat]; omega
  · rw [extract_toNat]; omega

theorem wordAt_of_bytes {v : Word} (h3 : byteAt p k = v.extractLsb' 24 8) (h2 : byteAt p (k + 1) = v.extractLsb' 16 8)
    (h1 : byteAt p (k + 2) = v.extractLsb' 8 8) (h0 : byteAt p (k + 3) = v.extractLsb' 0 8) : wordAt p k = v := by
  have := v.isLt
  rw [wordAt, h3, h2, h1, h0]
  refine append_eq_of_toNat ?_ ?_
  · rw [toNat_append_add, toNat_append_add, extract_toNat, extract_toNat, extract_toNat]; omega
  · rw [extract_toNat]; omega

end

/-! ### The fields of a payload, read back -/

theorem segmentFieldsAt_bytes (index : Byte) (f : SegmentFields) : segmentFieldsAt (index :: segmentFieldBytes f) 1 = f := by
  rw [segmentFieldsAt, SegmentFields.mk.injEq]
  exact ⟨rfl, rfl, tripleAt_of_bytes rfl rfl rfl, tripleAt_of_bytes rfl rfl rfl, halfAt_of_bytes rfl rfl,
    halfAt_of_bytes rfl rfl, halfAt_of_bytes rfl rfl, halfAt_of_bytes rfl rfl⟩

theorem headerFieldsAt_bytes (set : Byte) (f : HeaderFields) : headerFieldsAt (set :: headerFieldBytes f) 1 = f := by
  rw [headerFieldsAt, HeaderFields.mk.injEq]
  exact ⟨halfAt_of_bytes rfl rfl, halfAt_of_bytes rfl rfl, rfl, halfAt_of_bytes rfl rfl, rfl, rfl⟩

theorem bandFieldsAt_bytes (set index : Byte) (f : BandFields) :
    bandFieldsAt (set :: index :: bandFieldBytes f) 2 = f := by
  rw [bandFieldsAt, BandFields.mk.injEq]
  exact ⟨tripleAt_of_bytes rfl rfl rfl, tripleAt_of_bytes rfl rfl rfl, halfAt_of_bytes rfl rfl, halfAt_of_bytes rfl rfl,
    halfAt_of_bytes rfl rfl, halfAt_of_bytes rfl rfl, rfl, rfl⟩

theorem lineFieldsAt_bytes (f : LineFields) : lineFieldsAt (lineFieldBytes f) = f := by
  rw [lineFieldsAt, LineFields.mk.injEq]
  exact ⟨halfAt_of_bytes rfl rfl, halfAt_of_bytes rfl rfl, halfAt_of_bytes rfl rfl, halfAt_of_bytes rfl rfl,
    halfAt_of_bytes rfl rfl, halfAt_of_bytes rfl rfl, halfAt_of_bytes rfl rfl, halfAt_of_bytes rfl rfl,
    halfAt_of_bytes rfl rfl⟩

theorem lotFieldsAt_bytes (f : LotFields) : lotFieldsAt (lotFieldBytes f) = f := by
  rw [lotFieldsAt, LotFields.mk.injEq]
  exact ⟨wordAt_of_bytes rfl rfl rfl rfl, rfl, rfl, rfl, rfl, rfl, rfl, rfl, rfl, wordAt_of_bytes rfl rfl rfl rfl, rfl,
    rfl, rfl⟩

/-- R193: the entries of a WRITE_BINMAP after the bytes before them. -/
theorem binFieldsFrom_bytes (pre : List Byte) (es : List BinFields) :
    binFieldsFrom (pre ++ es.flatMap binFieldBytes) pre.length es.length = es := by
  induction es generalizing pre with
  | nil => rfl
  | cons e es ih =>
    have hbyte : ∀ j, byteAt (pre ++ (binFieldBytes e ++ es.flatMap binFieldBytes)) (pre.length + j) =
        byteAt (binFieldBytes e ++ es.flatMap binFieldBytes) j := fun j => by
      rw [byteAt, List.getD_append_right _ _ _ _ (Nat.le_add_right _ _), Nat.add_sub_cancel_left]
      rfl
    have hrest := ih (pre ++ binFieldBytes e)
    rw [List.append_assoc, List.length_append] at hrest
    rw [List.flatMap_cons, List.length_cons, binFieldsFrom, hbyte 1, hbyte 2]
    exact congrArg₂ List.cons (congrArg (BinFields.mk · e.pattern e.good) (hbyte 0)) hrest

theorem binFieldBytes_length (es : List BinFields) : (es.flatMap binFieldBytes).length = 3 * es.length :=
  (flatMap_length_const binFieldBytes 3 (fun _ => rfl) es).trans (Nat.mul_comm ..)

/-- R193: WRITE_BINMAP carries the entries that its count says. -/
theorem parse_writeBinmap {first count : Byte} {es : List BinFields} (h : binmapEntriesMatch count es = true) :
    Request.parse 7 (first :: count :: es.flatMap binFieldBytes) = .request (.writeBinmap first count es) := by
  have hlength := binFieldBytes_length es
  unfold binmapEntriesMatch at h
  have hread : (if count.toNat ≤ 8 then binFieldsFrom (first :: count :: es.flatMap binFieldBytes) 2 count.toNat else []) = es := by
    split at h
    · rw [if_pos (by omega), ← beq_iff_eq.1 h]
      exact binFieldsFrom_bytes [first, count] es
    · rw [List.isEmpty_iff.1 h]
      split
      · rw [show count.toNat = 0 by omega]; rfl
      · rfl
  have hfits : ¬(first :: count :: es.flatMap binFieldBytes).length <
      requestLength 7 (first :: count :: es.flatMap binFieldBytes) := by
    show ¬(es.flatMap binFieldBytes).length + 1 + 1 <
      if 2 ≤ (es.flatMap binFieldBytes).length + 1 + 1 ∧ 1 ≤ count.toNat ∧ count.toNat ≤ 8 then 2 + 3 * count.toNat else 2
    split at h
    · have := beq_iff_eq.1 h
      split <;> omega
    · rw [if_neg (by omega)]; omega
  rw [Request.parse, if_neg (by decide), if_neg hfits]
  exact congrArg (fun l => Parsed.request (.writeBinmap first count l)) hread

/-- Settles O53, request by request. -/
theorem payloadOfARequestIsReadBack : Obligations.PayloadOfARequestIsReadBack := by
  intro r tag hw
  cases r with
  | writeSegment index e => exact congrArg (fun f => Parsed.request (.writeSegment index f)) (segmentFieldsAt_bytes index e)
  | writeLimitHeader set f => exact congrArg (fun f => Parsed.request (.writeLimitHeader set f)) (headerFieldsAt_bytes set f)
  | writeBand set index f => exact congrArg (fun f => Parsed.request (.writeBand set index f)) (bandFieldsAt_bytes set index f)
  | writeBinmap first count es => exact parse_writeBinmap hw
  | writeNest nest f =>
    have hdebounce : halfAt (Request.writeNest nest f).payload 3 = f.debounce := halfAt_of_bytes rfl rfl
    have hdelay : halfAt (Request.writeNest nest f).payload 5 = f.delay := halfAt_of_bytes rfl rfl
    exact congrArg₂ (fun debounce delay => Parsed.request (.writeNest nest ⟨f.startMode, f.sensor, debounce, delay⟩))
      hdebounce hdelay
  | writeLine f => exact congrArg (fun f => Parsed.request (.writeLine f)) (lineFieldsAt_bytes f)
  | lotOpen f => exact congrArg (fun f => Parsed.request (.lotOpen f)) (lotFieldsAt_bytes f)
  | clearFaults flags kinds =>
    have hkinds : halfAt (Request.clearFaults flags kinds).payload 1 = kinds := halfAt_of_bytes rfl rfl
    exact congrArg (fun k => Parsed.request (.clearFaults flags k)) hkinds
  | _ => rfl

end Sys2Proof.Machine
end

section
/-! PROOFS. Levels are the stated real figures, rounded; the close of a guard block: O47. -/

namespace Sys2Proof.Machine

open Sys2Proof Host

/-! ### Levels (R42, R46, R52) -/

section
variable {num den : Nat}

/-- The real figure of a level: 200 log10 of √(num / den). -/
noncomputable def levelValue (num den : Nat) : Real := 100 * Real.logb 10 ((num : Real) / den)

theorem sub_half_le_levelValue_iff (hn : 0 < num) (hd : 0 < den) (n : Int) :
    (n : Real) - 1 / 2 ≤ levelValue num den ↔ (10 : Real) ^ (2 * n - 1) ≤ ((num : Real) / den) ^ 200 := by
  have hratio : 0 < (num : Real) / den := by positivity
  have hlog : Real.logb 10 (((num : Real) / den) ^ 200) = 200 * Real.logb 10 ((num : Real) / den) := Real.logb_pow ..
  rw [levelValue, ← Real.rpow_intCast, ← Real.le_logb_iff_rpow_le (by norm_num) (by positivity), hlog]
  push_cast
  constructor <;> intro h <;> linarith

/-- The comparison of the model is exact. -/
theorem levelReached_iff (hn : 0 < num) (hd : 0 < den) (n : Int) :
    levelReached num den n = true ↔ (n : Real) - 1 / 2 ≤ levelValue num den := by
  have hden : (0 : Real) < (den : Real) ^ 200 := by positivity
  rw [sub_half_le_levelValue_iff hn hd, div_pow, le_div_iff₀ hden, levelReached]
  rcases le_or_gt 0 (2 * n - 1) with he | he
  · obtain ⟨e, he'⟩ := Int.eq_ofNat_of_zero_le he
    rw [he', zpow_natCast]
    simp only [Int.natCast_nonneg, if_true, Int.toNat_natCast, decide_eq_true_eq]
    exact_mod_cast Iff.rfl
  · obtain ⟨e, he'⟩ := Int.eq_ofNat_of_zero_le (by omega : 0 ≤ -(2 * n - 1))
    have he'' : 2 * n - 1 = -(e : Int) := by omega
    rw [he'', zpow_neg, zpow_natCast, inv_mul_le_iff₀ (by positivity), mul_comm ((10 : Real) ^ e)]
    rw [if_neg (by omega), neg_neg, Int.toNat_natCast, decide_eq_true_iff]
    exact_mod_cast Iff.rfl

theorem padicValRat_two_ten : padicValRat 2 (10 : Rat) = 1 := by
  have h : padicValNat 2 (2 * 5) = 1 := by
    rw [padicValNat.mul (by norm_num) (by norm_num), padicValNat.self (by norm_num),
      padicValNat.eq_zero_of_not_dvd (by norm_num)]
  exact_mod_cast (padicValRat.of_nat (p := 2) (n := 10)).trans (congrArg Nat.cast h)

/-- No level lies on a half: the 200th power of a fraction is no odd power of 10, for it holds an even number of
factors 2. -/
theorem levelValue_ne_half (hn : 0 < num) (hd : 0 < den) (n : Int) : levelValue num den ≠ (n : Real) - 1 / 2 := by
  intro h
  have hpow : ((num : Real) / den) ^ 200 = (10 : Real) ^ (2 * n - 1) := by
    have hratio : 0 < (num : Real) / den := by positivity
    have hlog : Real.logb 10 (((num : Real) / den) ^ 200) = ((2 * n - 1 : Int) : Real) := by
      rw [Real.logb_pow]
      rw [levelValue] at h
      push_cast
      linarith
    rw [← Real.rpow_intCast, ← hlog, Real.rpow_logb (by norm_num) (by norm_num) (by positivity)]
  have hrat : ((num : Rat) / den) ^ 200 = (10 : Rat) ^ (2 * n - 1) :=
    Rat.cast_injective (α := Real) (by push_cast; exact hpow)
  have hval := congrArg (padicValRat 2) hrat
  rw [padicValRat.pow, padicValRat.zpow, padicValRat_two_ten] at hval
  omega

/-- A level is its real figure rounded to nearest and brought into its range. -/
theorem levelOf_rounds (hn : 0 < num) (hd : 0 < den) {lo hi : Int} (hle : lo ≤ hi) (hrange : hi < lo + 2048) :
    ∃ k : Int, |levelValue num den - k| < 1 / 2 ∧ levelOf num den lo hi = max lo (min hi k) := by
  obtain ⟨k, hk⟩ : ∃ k, k = ⌊levelValue num den + 1 / 2⌋ := ⟨_, rfl⟩
  have hreach : ∀ n : Int, levelReached num den n = true ↔ n ≤ k := fun n => by
    rw [levelReached_iff hn hd, hk, Int.le_floor, sub_le_iff_le_add]
  have hspec : ∀ m : Nat, (decide (lo + m ≤ hi) && levelReached num den (lo + m)) = true ↔ lo + m ≤ hi ∧ lo + m ≤ k :=
    fun m => by rw [Bool.and_eq_true, decide_eq_true_iff, hreach]
  refine ⟨k, ?_, ?_⟩
  · obtain ⟨hfloor, hnext⟩ := Int.floor_eq_iff.1 hk.symm
    have hne := levelValue_ne_half hn hd k
    rw [abs_lt]
    refine ⟨lt_of_le_of_ne (by linarith) fun h => hne (by linarith), by linarith⟩
  · obtain ⟨hfound, -, hlt, hgreatest⟩ := greatest_spec
      (fun m : Nat => decide (lo + m ≤ hi) && levelReached num den (lo + m))
      (fun a b hab hb => by simp only [hspec] at hb ⊢; omega) 11 0 (Or.inl rfl)
    rw [levelOf]
    generalize greatest _ 11 0 = m at hfound hlt hgreatest ⊢
    simp only [hspec] at hfound hgreatest
    have hmax := hgreatest (min hi k - lo).toNat
    omega

theorem levelReached_zero (hd : 0 < den) (n : Int) : levelReached 0 den n = false := by
  have hden : 0 < den ^ 200 := by positivity
  have hpow : ∀ e : Nat, 0 < 10 ^ e * den ^ 200 := fun e => by positivity
  rw [levelReached]
  split
  · exact decide_eq_false (by rw [zero_pow (by norm_num)]; exact Nat.not_le.2 (hpow _))
  · exact decide_eq_false (by rw [zero_pow (by norm_num), Nat.zero_mul]; exact Nat.not_le.2 hden)

/-- A figure of 0 has the least level. -/
theorem levelOf_zero (hd : 0 < den) (lo hi : Int) : levelOf 0 den lo hi = lo := by
  have hp : (fun m : Nat => decide (lo + m ≤ hi) && levelReached 0 den (lo + m)) = fun _ => false := by
    funext m
    rw [levelReached_zero hd, Bool.and_false]
  have hzero : greatest (fun _ => false) 11 0 = 0 := by decide
  rw [levelOf, hp, hzero]
  exact Int.add_zero lo

/-- The level of a ratio of squares is 200 log10 of the ratio. -/
theorem levelValue_of_sq {x : Real} (h : (num : Real) / den = x ^ 2) : levelValue num den = 200 * Real.logb 10 x := by
  rw [levelValue, h, Real.logb_pow]
  push_cast
  ring

end

/-! ### The close of a guard block (R52 to R54, R56, R60) -/

theorem guardLevel_zero : guardLevel 0 = -1400 := levelOf_zero (by decide) _ _

/-- A step of at most twice the full scale stays below the upper end of the level's range. -/
theorem logb_step_lt {eg : Nat} (h0 : 0 < eg) (h : eg ≤ 16777215) : 200 * Real.logb 10 ((eg : Real) / 8388607) < 121 / 2 := by
  have hratio : (eg : Real) / 8388607 ≤ 16777215 / 8388607 := by
    gcongr
    exact_mod_cast h
  have hpow : ((eg : Real) / 8388607) ^ 43 < 10 ^ 13 :=
    calc ((eg : Real) / 8388607) ^ 43 ≤ (16777215 / 8388607 : Real) ^ 43 := by gcongr
      _ < 10 ^ 13 := by norm_num
  have hlog := (Real.logb_lt_iff_lt_rpow (b := 10) (by norm_num) (by positivity)).2
    (by rw [← Real.rpow_natCast] at hpow; exact_mod_cast hpow : ((eg : Real) / 8388607) ^ 43 < (10 : Real) ^ (13 : Real))
  rw [Real.logb_pow] at hlog
  push_cast at hlog
  linarith

theorem guardLevel_rounds {eg : Nat} (h0 : 0 < eg) (h : eg ≤ 16777215) : ∃ k : Int,
    |200 * Real.logb 10 ((eg : Real) / 8388607) - k| < 1 / 2 ∧ guardLevel eg = max (-1400) k := by
  have hvalue : levelValue (eg ^ 2) (Config.fullScale ^ 2) = 200 * Real.logb 10 ((eg : Real) / 8388607) :=
    levelValue_of_sq (by rw [div_pow, Nat.cast_pow, Nat.cast_pow, Config.fullScale, Nat.cast_ofNat])
  obtain ⟨k, hk, hlevel⟩ := levelOf_rounds (num := eg ^ 2) (den := Config.fullScale ^ 2) (lo := -1400) (hi := 60)
    (by positivity) (by decide) (by decide) (by decide)
  rw [hvalue] at hk
  have hbound := logb_step_lt h0 h
  have hk60 : k ≤ 60 := by
    have : (k : Real) < 61 := by linarith [(abs_lt.1 hk).1]
    have : k < 61 := by exact_mod_cast this
    omega
  exact ⟨k, hk, by rw [guardLevel, hlevel, min_eq_right hk60]⟩

/-- R60: the highest level of the list is one of its levels, or the least level. -/
theorem foldl_max_spec (l : List Int) (a : Int) : a ≤ l.foldl max a ∧ (∀ x ∈ l, x ≤ l.foldl max a) ∧
    (l.foldl max a = a ∨ l.foldl max a ∈ l) := by
  induction l generalizing a with
  | nil => simp
  | cons x l ih =>
    obtain ⟨hstart, hall, hmem⟩ := ih (max a x)
    rw [List.foldl_cons]
    refine ⟨le_trans (le_max_left _ _) hstart, fun y hy => ?_, ?_⟩
    · rcases List.mem_cons.1 hy with rfl | hy
      · exact le_trans (le_max_right _ _) hstart
      · exact hall y hy
    · rcases hmem with hmem | hmem
      · rw [hmem]
        rcases max_choice a x with h | h <;> rw [h]
        · exact Or.inl rfl
        · exact Or.inr (List.mem_cons_self ..)
      · exact Or.inr (List.mem_cons_of_mem _ hmem)

theorem highestGl_spec (trips : List Trip) : (∀ r ∈ trips, r.gl ≤ highestGl trips) ∧
    (highestGl trips = -1400 ∨ ∃ r ∈ trips, r.gl = highestGl trips) := by
  obtain ⟨-, hall, hmem⟩ := foldl_max_spec (trips.map Trip.gl) (-1400)
  exact ⟨fun r hr => hall _ (List.mem_map_of_mem hr), hmem.imp_right List.mem_map.1⟩

theorem State.guardCloseDue_iff (s : State) : s.guardCloseDue = true ↔
    s.tmb.framed = true ∧ s.gdm.closed = false ∧ s.lastFrame = (s.gdm.start + 479) % 4026531840 := by
  simp only [State.guardCloseDue, Bool.and_eq_true, Bool.not_eq_true', beq_iff_eq, and_assoc]
  rfl

theorem GuardMon.isTrip_iff (g : GuardMon) :
    g.isTrip = true ↔ g.invalidSeen = true ∨ g.threshold ≤ guardLevel g.eg := by
  rw [GuardMon.isTrip, Bool.or_eq_true_iff, decide_eq_true_iff]

/-- R53: the monitor with the close of its block taken. -/
def GuardMon.atClose (g : GuardMon) : GuardMon := { g with closed := true }

theorem closeGuardBlock_quiet {s : State} (h : ¬s.gdm.atClose.isTrip = true) :
    closeGuardBlock s = s.setGdm s.gdm.atClose := if_neg h

theorem closeGuardBlock_offers {s : State} (h : s.gdm.atClose.isTrip = true)
    (he : s.gdm.atClose.enters = false) :
    closeGuardBlock s = countTrip (s.setGdm s.gdm.atClose.offer) :=
  (if_pos h).trans (if_neg (Bool.eq_false_iff.1 he))

theorem closeGuardBlock_storms {s : State} (h : s.gdm.atClose.isTrip = true)
    (he : s.gdm.atClose.enters = true) :
    closeGuardBlock s = raiseFault (stormRecord s.gdm.atClose)
      (countTrip (s.setGdm s.gdm.atClose.offer)) :=
  (if_pos h).trans (if_pos he)

theorem GuardMon.enters_eq (g : GuardMon) : g.enters = (decide (16 ≤ g.trips.length) && !g.saturated) := rfl

theorem GuardMon.offer_joins {g : GuardMon} (h : g.trips.length < 16) :
    g.offer = { g with trips := g.trips ++ [⟨g.start, guardLevel g.eg⟩] } := if_pos h

theorem GuardMon.offer_discards {g : GuardMon} (h : 16 ≤ g.trips.length) :
    g.offer = { g with saturated := true, lastDiscard := some g.start } := if_neg (Nat.not_lt.2 h)

/-- Settles O47. -/
theorem guardBlockCloseOffersTrip : Obligations.GuardBlockCloseOffersTrip := by
  intro s
  have hdue := s.guardCloseDue_iff
  refine ⟨fun h => ?_, fun h0 h => guardLevel_rounds h0 h, fun h => if_neg (mt hdue.1 h), fun h => ?_⟩
  · rw [h]; exact guardLevel_zero
  have hclose : exec .guardBlockClose s = .next (closeGuardBlock s) := if_pos (hdue.2 h)
  have htrip := GuardMon.isTrip_iff s.gdm.atClose
  have henters := GuardMon.enters_eq s.gdm.atClose
  rw [hclose]
  refine ⟨fun k => ?_, fun k => ⟨fun hlen => ?_, fun hlen => ⟨fun hsat => ?_, fun hsat => ?_⟩⟩⟩
  · rw [closeGuardBlock_quiet (mt htrip.1 k)]
    rfl
  · rw [closeGuardBlock_offers (htrip.2 k) (by rw [henters, Bool.and_eq_false_iff]; exact Or.inl (decide_eq_false (Nat.not_le.2 hlen))),
      GuardMon.offer_joins (g := s.gdm.atClose) hlen]
    rfl
  · rw [closeGuardBlock_offers (htrip.2 k) (by rw [henters, Bool.and_eq_false_iff]; exact Or.inr (congrArg not hsat)),
      GuardMon.offer_discards (g := s.gdm.atClose) hlen]
    rfl
  · obtain ⟨hall, htop⟩ := highestGl_spec s.gdm.trips
    refine ⟨highestGl s.gdm.trips, fun r hr => le_trans (hall r hr) (le_max_right _ _), htop, ?_⟩
    rw [closeGuardBlock_storms (htrip.2 k) (by rw [henters, Bool.and_eq_true]; exact ⟨decide_eq_true hlen, congrArg not hsat⟩),
      GuardMon.offer_discards (g := s.gdm.atClose) hlen]
    rfl

end Sys2Proof.Machine
end

section
/-! PROOFS. PH is the stated angle, rounded: the half steps of the model against the angle of the point (Q, I). -/

namespace Sys2Proof.Machine

open Sys2Proof Host

/-! ### The half steps (R44) -/

/-- The angle of half step n: 2n − 1 twentieths of a degree. -/
noncomputable def halfStep (n : Nat) : Real := Real.pi * (2 * n - 1) / 3600

theorem halfStep_bounds {n : Nat} (h1 : 1 ≤ n) (h : n ≤ 1800) :
    Real.pi / 3600 ≤ halfStep n ∧ halfStep n ≤ Real.pi - Real.pi / 3600 := by
  have hpi := Real.pi_pos
  have h1' : (1 : Real) ≤ n := by exact_mod_cast h1
  have h' : (n : Real) ≤ 1800 := by exact_mod_cast h
  rw [halfStep]
  constructor <;> nlinarith

theorem cast_two_mul_sub_one {n : Nat} (h1 : 1 ≤ n) : ((2 * n - 1 : Nat) : Real) = 2 * n - 1 := by
  rw [Nat.cast_sub (by omega)]; push_cast; ring

theorem halfStepSine_near {n : Nat} (h1 : 1 ≤ n) (h : n ≤ 1800) :
    |(halfStepSine n : Real) - 2 ^ 160 * Real.sin (halfStep n)| ≤ 2 ^ 100 := by
  have hcast := cast_two_mul_sub_one h1
  rw [halfStepSine]
  split
  next hm =>
    have hangle : Real.pi * ((2 * n - 1 : Nat) : Real) / (3600 : Nat) = halfStep n := by
      rw [hcast, halfStep]; norm_num
    rw [← hangle]
    exact sineFix_near (by norm_num) (by omega)
  next hm =>
    have hangle : Real.pi * ((3600 - (2 * n - 1) : Nat) : Real) / (3600 : Nat) = Real.pi - halfStep n := by
      rw [Nat.cast_sub (by omega), hcast, halfStep]; push_cast; ring
    rw [← Real.sin_pi_sub, ← hangle]
    exact sineFix_near (by norm_num) (by omega)

theorem halfStepCosine_near {n : Nat} (h1 : 1 ≤ n) (h : n ≤ 1800) :
    |(halfStepCosine n : Real) - 2 ^ 160 * Real.cos (halfStep n)| ≤ 2 ^ 100 := by
  have hcast := cast_two_mul_sub_one h1
  rw [halfStepCosine]
  split
  next hm =>
    have hangle : Real.pi * ((1800 - (2 * n - 1) : Nat) : Real) / (3600 : Nat) = Real.pi / 2 - halfStep n := by
      rw [Nat.cast_sub hm, hcast, halfStep]; push_cast; ring
    rw [← Real.sin_pi_div_two_sub, ← hangle, Int.cast_natCast]
    exact sineFix_near (by norm_num) (by omega)
  next hm =>
    have hangle : Real.pi * ((2 * n - 1 - 1800 : Nat) : Real) / (3600 : Nat) = -(Real.pi / 2 - halfStep n) := by
      rw [Nat.cast_sub (by omega), hcast, halfStep]; push_cast; ring
    have hsine := sineFix_near (by norm_num : 0 < 3600) (by omega : 2 * (2 * n - 1 - 1800) ≤ 3600)
    rw [hangle, Real.sin_neg, Real.sin_pi_div_two_sub] at hsine
    rw [← abs_neg]
    refine le_of_eq_of_le (congrArg abs ?_) hsine
    push_cast
    ring

/-! ### A small sine -/

/-- The error of the comparison, as a sine. -/
noncomputable def sineSlack : Real := 2 / 2 ^ 60

/-- Short of half a turn, an angle whose sine is small is small. -/
theorem le_of_sin_le {x : Real} (h : x ≤ Real.pi - Real.pi / 3600) (hs : Real.sin x ≤ sineSlack) : x ≤ 4 * sineSlack := by
  have hpi := Real.pi_gt_three
  have hpi' := Real.pi_le_four
  have hslack : (0 : Real) < sineSlack ∧ sineSlack < 1 / 3600 := by rw [sineSlack]; norm_num
  by_contra hx
  rw [not_le] at hx
  have hchord : ∀ y, 0 ≤ y → y ≤ Real.pi / 2 → y / 2 ≤ Real.sin y := fun y h0 h1 => by
    refine le_trans ?_ (Real.mul_le_sin h0 h1)
    rw [div_mul_eq_mul_div, div_le_div_iff₀ (by norm_num) (by linarith)]
    nlinarith
  rcases le_or_gt x (Real.pi / 2) with hhalf | hhalf
  · have := hchord x (by linarith) hhalf
    linarith
  · have := hchord (Real.pi - x) (by linarith) (by linarith)
    rw [Real.sin_pi_sub] at this
    linarith

/-! ### The comparison of an angle with a half step -/

section
variable {i : Nat} {q : Int}

/-- The angle of the point (Q, |I|). -/
noncomputable def upperAngle (i : Nat) (q : Int) : Real := Complex.arg ⟨(q : Real), (i : Real)⟩

theorem upperAngle_bounds (i : Nat) (q : Int) : 0 ≤ upperAngle i q ∧ upperAngle i q ≤ Real.pi :=
  ⟨Complex.arg_nonneg_iff.2 (Nat.cast_nonneg i), Complex.arg_le_pi _⟩

/-- The comparison value is that of the sine of the difference, within the error of the fixed-point figures. -/
theorem compare_near (h0 : i ≠ 0 ∨ q ≠ 0) {n : Nat} (h1 : 1 ≤ n) (h : n ≤ 1800) : ∃ radius : Real, 0 < radius ∧
    |((i * halfStepCosine n - q * halfStepSine n : Int) : Real) -
      2 ^ 160 * (radius * Real.sin (upperAngle i q - halfStep n))| ≤ 2 ^ 160 * (radius * sineSlack) := by
  have hz : (⟨(q : Real), (i : Real)⟩ : Complex) ≠ 0 := by
    intro hz
    have hre := congrArg Complex.re hz
    have him := congrArg Complex.im hz
    simp only [Complex.zero_re, Complex.zero_im, Int.cast_eq_zero, Nat.cast_eq_zero] at hre him
    exact h0.elim (· him) (· hre)
  refine ⟨‖(⟨(q : Real), (i : Real)⟩ : Complex)‖, norm_pos_iff.2 hz, ?_⟩
  have hre : ‖(⟨(q : Real), (i : Real)⟩ : Complex)‖ * Real.cos (upperAngle i q) = q := Complex.norm_mul_cos_arg _
  have him : ‖(⟨(q : Real), (i : Real)⟩ : Complex)‖ * Real.sin (upperAngle i q) = i := Complex.norm_mul_sin_arg _
  have hreLe : |(q : Real)| ≤ ‖(⟨(q : Real), (i : Real)⟩ : Complex)‖ := Complex.abs_re_le_norm (⟨(q : Real), (i : Real)⟩ : Complex)
  have himLe : |(i : Real)| ≤ ‖(⟨(q : Real), (i : Real)⟩ : Complex)‖ := Complex.abs_im_le_norm (⟨(q : Real), (i : Real)⟩ : Complex)
  generalize ‖(⟨(q : Real), (i : Real)⟩ : Complex)‖ = radius at hre him hreLe himLe ⊢
  have hcos := halfStepCosine_near h1 h
  have hsin := halfStepSine_near h1 h
  have hradius : 0 ≤ radius := (abs_nonneg _).trans himLe
  rw [Real.sin_sub]
  calc |((i * halfStepCosine n - q * halfStepSine n : Int) : Real) - 2 ^ 160 * (radius *
          (Real.sin (upperAngle i q) * Real.cos (halfStep n) - Real.cos (upperAngle i q) * Real.sin (halfStep n)))|
      = |(i : Real) * (halfStepCosine n - 2 ^ 160 * Real.cos (halfStep n)) -
          q * (halfStepSine n - 2 ^ 160 * Real.sin (halfStep n))| := by
        congr 1
        push_cast
        linear_combination (-(2 ^ 160) * Real.cos (halfStep n)) * him + 2 ^ 160 * Real.sin (halfStep n) * hre
    _ ≤ |(i : Real)| * |(halfStepCosine n : Real) - 2 ^ 160 * Real.cos (halfStep n)| +
          |(q : Real)| * |(halfStepSine n : Real) - 2 ^ 160 * Real.sin (halfStep n)| := by
        refine (abs_sub _ _).trans_eq ?_
        rw [abs_mul, abs_mul]
    _ ≤ radius * 2 ^ 100 + radius * 2 ^ 100 := by gcongr
    _ = 2 ^ 160 * (radius * sineSlack) := by rw [sineSlack]; ring

/-- R44: the search starts from an angle that is always reached. -/
theorem angleReached_zero (i : Nat) (q : Int) : angleReached i q 0 = true := by
  have hsine : halfStepSine 0 = 0 := by decide +kernel
  rw [angleReached, hsine, decide_eq_true (Nat.zero_le 1800), Bool.true_and, decide_eq_true_iff, Nat.cast_zero,
    mul_zero, sub_zero]
  exact mul_nonneg (Nat.cast_nonneg i) (Nat.cast_nonneg _)

theorem angleReached_le {n : Nat} (hr : angleReached i q n = true) : n ≤ 1800 := by
  rw [angleReached, Bool.and_eq_true, decide_eq_true_iff] at hr
  exact hr.1

/-- A half step that is reached lies at most a hair above the angle. -/
theorem halfStep_le_of_reached (h0 : i ≠ 0 ∨ q ≠ 0) {n : Nat} (h1 : 1 ≤ n) (hr : angleReached i q n = true) :
    halfStep n ≤ upperAngle i q + 4 * sineSlack := by
  have h := angleReached_le hr
  rw [angleReached, Bool.and_eq_true, decide_eq_true_iff, decide_eq_true_iff] at hr
  have hvalue : (0 : Real) ≤ ((i * halfStepCosine n - q * halfStepSine n : Int) : Real) := by exact_mod_cast hr.2
  obtain ⟨radius, hpos, hnear⟩ := compare_near h0 h1 h
  have hsin : -sineSlack ≤ Real.sin (upperAngle i q - halfStep n) := by
    have := (abs_le.1 hnear).2
    have : 0 ≤ 2 ^ 160 * radius * (Real.sin (upperAngle i q - halfStep n) + sineSlack) := by linarith
    have := nonneg_of_mul_nonneg_right this (by positivity)
    linarith
  have := le_of_sin_le (x := halfStep n - upperAngle i q)
    (by linarith [(halfStep_bounds h1 h).2, (upperAngle_bounds i q).1])
    (by rw [← neg_sub, Real.sin_neg]; linarith)
  linarith

/-- A half step that is not reached lies at most a hair below the angle. -/
theorem le_halfStep_of_not_reached (h0 : i ≠ 0 ∨ q ≠ 0) {n : Nat} (h1 : 1 ≤ n) (h : n ≤ 1800)
    (hr : ¬angleReached i q n = true) : upperAngle i q ≤ halfStep n + 4 * sineSlack := by
  rw [angleReached, decide_eq_true h, Bool.true_and, decide_eq_true_iff, not_le] at hr
  have hvalue : ((i * halfStepCosine n - q * halfStepSine n : Int) : Real) < 0 := by exact_mod_cast hr
  obtain ⟨radius, hpos, hnear⟩ := compare_near h0 h1 h
  have hsin : Real.sin (upperAngle i q - halfStep n) ≤ sineSlack := by
    have := (abs_le.1 hnear).1
    have : 0 ≤ 2 ^ 160 * radius * (sineSlack - Real.sin (upperAngle i q - halfStep n)) := by linarith
    have := nonneg_of_mul_nonneg_right this (by positivity)
    linarith
  have := le_of_sin_le (x := upperAngle i q - halfStep n)
    (by linarith [(halfStep_bounds h1 h).1, (upperAngle_bounds i q).2]) hsin
  linarith

/-! ### The angle in tenths of a degree -/

/-- The angle in tenths of a degree. -/
noncomputable def tenths (x : Real) : Real := 1800 / Real.pi * x

theorem tenths_halfStep (n : Nat) : tenths (halfStep n) = n - 1 / 2 := by
  have := Real.pi_ne_zero
  rw [tenths, halfStep]
  field_simp
  ring

theorem tenths_le {x y : Real} (h : x ≤ y + 4 * sineSlack) : tenths x ≤ tenths y + 1 / 10 ^ 12 := by
  have hpi := Real.pi_gt_three
  have hfactor : 1800 / Real.pi ≤ 600 := by
    rw [div_le_iff₀ (by linarith)]
    linarith
  have hpos : 0 < 1800 / Real.pi := by positivity
  have hslack : 1800 / Real.pi * (4 * sineSlack) ≤ 1 / 10 ^ 12 :=
    calc 1800 / Real.pi * (4 * sineSlack) ≤ 600 * (4 * sineSlack) := by
          have : (0 : Real) ≤ sineSlack := by rw [sineSlack]; positivity
          gcongr
      _ ≤ 1 / 10 ^ 12 := by rw [sineSlack]; norm_num
  have := mul_le_mul_of_nonneg_left h hpos.le
  rw [tenths, tenths]
  linarith

/-- R44: the search finds the angle rounded to a tenth, but for a hair about each half step. -/
theorem greatest_angleReached_near (h0 : i ≠ 0 ∨ q ≠ 0) : greatest (angleReached i q) 11 0 ≤ 1800 ∧
    |tenths (upperAngle i q) - (greatest (angleReached i q) 11 0 : Nat)| ≤ 1 / 2 + 1 / 10 ^ 12 := by
  have reached : ∀ n, 1 ≤ n → angleReached i q n = true → (n : Real) - 1 / 2 ≤ tenths (upperAngle i q) + 1 / 10 ^ 12 :=
    fun n h1 hr => tenths_halfStep n ▸ tenths_le (halfStep_le_of_reached h0 h1 hr)
  have unreached : ∀ n : Nat, 1 ≤ n → n ≤ 1800 → ¬angleReached i q n = true →
      tenths (upperAngle i q) ≤ (n : Real) - 1 / 2 + 1 / 10 ^ 12 :=
    fun n h1 h hr => tenths_halfStep n ▸ tenths_le (le_halfStep_of_not_reached h0 h1 h hr)
  have mono : ∀ a b, a ≤ b → angleReached i q b = true → angleReached i q a = true := by
    intro a b hab hb
    rcases Nat.eq_zero_or_pos a with rfl | ha
    · exact angleReached_zero i q
    rcases Nat.eq_or_lt_of_le hab with rfl | hlt
    · exact hb
    by_contra hr
    have hup := reached b (by omega) hb
    have hdown := unreached a ha (by have := angleReached_le hb; omega) hr
    have hstep : (a : Real) + 1 ≤ b := by exact_mod_cast hlt
    norm_num at hup hdown
    linarith
  obtain ⟨hfound, -, -, hgreatest⟩ := greatest_spec (angleReached i q) mono 11 0 (Or.inl rfl)
  generalize greatest (angleReached i q) 11 0 = m at hfound hgreatest ⊢
  have hm : m ≤ 1800 := hfound.elim (fun h => by omega) angleReached_le
  have hpi := Real.pi_pos
  obtain ⟨hlow, hhigh⟩ := upperAngle_bounds i q
  have htenths : 0 ≤ tenths (upperAngle i q) ∧ tenths (upperAngle i q) ≤ 1800 := by
    rw [tenths]
    refine ⟨by positivity, ?_⟩
    rw [div_mul_eq_mul_div, div_le_iff₀ hpi]
    linarith
  refine ⟨hm, abs_le.2 ⟨?_, ?_⟩⟩
  · rcases Nat.eq_zero_or_pos m with rfl | hpos
    · norm_num; linarith
    · have := reached m hpos (hfound.resolve_left (by omega))
      linarith
  · rcases Nat.eq_or_lt_of_le hm with rfl | hlt
    · norm_num; linarith
    · have hnext := unreached (m + 1) (by omega) hlt fun hr => by have := hgreatest (m + 1) (by omega) hr; omega
      push_cast at hnext
      linarith

end

/-! ### PH (R44) -/

/-- R44: the phase before +1800 is written −1800. -/
def signedTenths (i q : Int) : Int :=
  if i < 0 then -(greatest (angleReached i.natAbs q) 11 0 : Nat) else (greatest (angleReached i.natAbs q) 11 0 : Nat)

theorem phaseOf_eq (i q : Int) : phaseOf i q = if signedTenths i q = 1800 then -1800 else signedTenths i q := rfl

/-- The angle of the point (Q, I) from that of (Q, |I|). -/
theorem arg_eq_upperAngle (i q : Int) : Complex.arg ⟨(q : Real), (i : Real)⟩ =
    if i < 0 then -upperAngle i.natAbs q else upperAngle i.natAbs q := by
  split
  next hi =>
    have hcast : ((i.natAbs : Nat) : Real) = -(i : Real) := by
      rw [Nat.cast_natAbs, abs_of_neg hi]; push_cast; ring
    have hconj : (⟨(q : Real), (i : Real)⟩ : Complex) = (starRingEnd Complex) ⟨(q : Real), (i.natAbs : Real)⟩ := by
      rw [hcast]
      exact Complex.ext rfl (neg_neg _).symm
    have hne : Complex.arg ⟨(q : Real), (i.natAbs : Real)⟩ ≠ Real.pi := fun h =>
      hi.ne (Int.natAbs_eq_zero.1 (Nat.cast_eq_zero.1 (Complex.arg_eq_pi_iff.1 h).2))
    rw [hconj, Complex.arg_conj, if_neg hne]
    rfl
  next hi =>
    have hcast : ((i.natAbs : Nat) : Real) = (i : Real) := by
      rw [Nat.cast_natAbs, abs_of_nonneg (not_lt.1 hi)]
    rw [upperAngle, hcast]

theorem signedTenths_near {i q : Int} (h0 : i ≠ 0 ∨ q ≠ 0) : -1800 ≤ signedTenths i q ∧ signedTenths i q ≤ 1800 ∧
    |1800 / Real.pi * Complex.arg ⟨(q : Real), (i : Real)⟩ - signedTenths i q| ≤ 1 / 2 + 1 / 10 ^ 12 := by
  obtain ⟨hle, hnear⟩ := greatest_angleReached_near (i := i.natAbs) (q := q) (h0.imp_left Int.natAbs_ne_zero.2)
  rw [arg_eq_upperAngle, signedTenths]
  rw [tenths] at hnear
  split
  · refine ⟨by omega, by omega, ?_⟩
    rw [← abs_neg]
    refine le_of_eq_of_le (congrArg abs ?_) hnear
    push_cast
    ring
  · exact ⟨by omega, by omega, by exact_mod_cast hnear⟩

end Sys2Proof.Machine
end

section
/-! PROOFS. An analysis block opens at its b0 and completes into the stated figures: O37. -/

namespace Sys2Proof.Machine

open Sys2Proof Host

/-! ### The opening of a block (R36, R39) -/

theorem Analysis.openBlock_takeSample (a : Analysis) (r : DriveReport) (x : Sample) :
    (a.openBlock r).takeSample x = { a with
      state := .opened, report := r, b0 := r.b0, count := 1, buffer := [x.value]
      refPhase := r.phase + r.freqWord, damaged := x.invalid || x.clipped
      i := x.value * sineTable (r.phase.toNat / 2 ^ 18 + 4096), q := x.value * sineTable (r.phase.toNat / 2 ^ 18) } := by
  have hi := Int.zero_add (x.value * sineTable (r.phase.toNat / 2 ^ 18 + 4096))
  have hq := Int.zero_add (x.value * sineTable (r.phase.toNat / 2 ^ 18))
  rw [← hi, ← hq]
  rfl

theorem exec_analysisBlockOpen {n : NestId} {s : State} {r : DriveReport} (hw : (s.ana n).state = .waiting)
    (hr : (s.ana n).nextReport = some r) (hf : s.tmb.framed = true) (hb : r.b0 = s.lastFrame) :
    exec (.analysisBlockOpen n) s = .next (s.setAna n (((s.ana n).openBlock r).takeSample s.fli.mics[n])) := by
  show execAnalysisBlockOpen n s = _
  rw [execAnalysisBlockOpen, hw, hr]
  exact if_pos ⟨hf, hb⟩

theorem exec_analysisBlockOpen_idle {n : NestId} {s : State} (hw : (s.ana n).state ≠ .waiting) :
    exec (.analysisBlockOpen n) s = .next s := by
  show execAnalysisBlockOpen n s = _
  rw [execAnalysisBlockOpen]
  split
  next h _ => exact absurd h hw
  next => rfl

theorem exec_analysisBlockComplete {n : NestId} {s : State} (ho : (s.ana n).state = .opened) (hc : (s.ana n).count = 480) :
    exec (.analysisBlockComplete n) s =
      if (s.ana n).queue.length < 8 then .next (s.setAna n ((s.ana n).complete n)) else .fault .pendingQueueFull :=
  if_pos ⟨ho, hc⟩

/-! ### The residual (R45) -/

theorem residualFrom_length (i q : Int) (freqWord p : Word) (l : List Int) :
    (residualFrom i q freqWord p l).length = l.length := by
  induction l generalizing p with
  | nil => rfl
  | cons x rest ih => exact congrArg (· + 1) (ih _)

theorem phase_step (p freqWord : Word) (k : Nat) :
    p + freqWord + BitVec.ofNat 32 k * freqWord = p + BitVec.ofNat 32 (k + 1) * freqWord := by
  rw [BitVec.ofNat_add, BitVec.add_mul, BitVec.one_mul, BitVec.add_assoc, BitVec.add_comm freqWord]

/-- R45: the sample k of the residual. -/
theorem residualFrom_getElem? (i q : Int) (freqWord p : Word) (l : List Int) {k : Nat} {x : Int} (h : l[k]? = some x) :
    (residualFrom i q freqWord p l)[k]? = some (x - fitOf i q
      (sineTable (phaseIndex (p + BitVec.ofNat 32 k * freqWord)))
      (cosineTable (phaseIndex (p + BitVec.ofNat 32 k * freqWord)))) := by
  induction l generalizing p k with
  | nil => cases h
  | cons y rest ih =>
    cases k with
    | zero =>
      cases h
      rw [BitVec.zero_mul, BitVec.add_zero]
      rfl
    | succ k => rw [← phase_step]; exact ih _ h

theorem largestStep_eq (l : List Int) :
    largestStep l = ((l.zip l.tail).map (fun v => (v.2 - v.1).natAbs)).foldl max 0 := by
  induction l with
  | nil => rfl
  | cons x rest ih =>
    cases rest with
    | nil => rfl
    | cons y rest =>
      have hfold : ∀ (d : Nat) (ds : List Nat), (d :: ds).foldl max 0 = max d (ds.foldl max 0) := fun d ds => by
        rw [List.foldl_cons, max_comm, List.foldl_assoc]
      rw [List.tail_cons, List.zip_cons_cons, List.map_cons, hfold]
      exact congrArg (max _) ih

/-- The sum of squares, over the list with each sample taken as a real number. -/
theorem cast_squareSum (l : List Int) : (squareSum l : Real) = ((l : List Real).map (fun v => v ^ 2)).sum := by
  have hcast : (l : List Real) = l.map (fun v : Int => (v : Real)) := List.flatMap_pure_eq_map ..
  rw [squareSum, Nat.cast_list_sum, List.map_map, hcast, List.map_map]
  refine congrArg List.sum (List.map_congr_left fun v _ => ?_)
  show ((v.natAbs ^ 2 : Nat) : Real) = (v : Real) ^ 2
  rw [Nat.cast_pow, Nat.cast_natAbs, Int.cast_abs, sq_abs]

/-! ### The figures (R42, R43, R46) -/

section
variable {i q : Int}

/-- R42: the amplitude A. -/
noncomputable def amplitudeOf (i q : Int) : Real := 2 * √((i : Real) ^ 2 + (q : Real) ^ 2) / 15728160

theorem cast_energy (i q : Int) : (energy i q : Real) = (i : Real) ^ 2 + (q : Real) ^ 2 := by
  rw [energy, Nat.cast_add, Nat.cast_pow, Nat.cast_pow, Nat.cast_natAbs, Nat.cast_natAbs, Int.cast_abs, Int.cast_abs,
    sq_abs, sq_abs]

theorem amplitudeOf_sq (i q : Int) : amplitudeOf i q ^ 2 = 4 * (energy i q : Real) / 15728160 ^ 2 := by
  rw [amplitudeOf, cast_energy, div_pow, mul_pow, Real.sq_sqrt (by positivity)]
  norm_num

theorem amplitudeOf_nonneg (i q : Int) : 0 ≤ amplitudeOf i q := by
  rw [amplitudeOf]; positivity

/-- R42: silence is an amplitude below 1. -/
theorem isSilent_iff (i q : Int) : isSilent i q = true ↔ amplitudeOf i q < 1 := by
  rw [isSilent, decide_eq_true_iff, ← sq_lt_one_iff₀ (amplitudeOf_nonneg i q), amplitudeOf_sq,
    div_lt_one (by positivity), Config.blockScale]
  exact_mod_cast Iff.rfl

theorem energy_pos_of_not_silent (h : isSilent i q = false) : 0 < energy i q := by
  have := of_decide_eq_false h
  rw [Config.blockScale] at this
  omega

theorem lfOf_rounds (h : 0 < energy i q) : ∃ k : Int, |200 * Real.logb 10 (amplitudeOf i q / 8388607) - k| < 1 / 2 ∧
    lfOf i q = max (-1400) (min 0 k) := by
  have hvalue : levelValue (4 * energy i q) (Config.blockScale ^ 2 * Config.fullScale ^ 2) =
      200 * Real.logb 10 (amplitudeOf i q / 8388607) := levelValue_of_sq (by
    rw [div_pow, amplitudeOf_sq, Config.blockScale, Config.fullScale, div_div]
    push_cast
    norm_num)
  rw [← hvalue]
  exact levelOf_rounds (by positivity) (by decide) (by decide) (by decide)

theorem dnOf_zero (h : 0 < energy i q) : dnOf i q 0 = -1400 := by
  rw [dnOf, Nat.zero_mul]
  exact levelOf_zero (by positivity) _ _

theorem dnOf_rounds (h : 0 < energy i q) {sum : Nat} (hs : 0 < sum) : ∃ k : Int,
    |200 * Real.logb 10 (√((sum : Real) / 480) / amplitudeOf i q) - k| < 1 / 2 ∧
    dnOf i q sum = max (-1400) (min 400 k) := by
  have henergy : (energy i q : Real) ≠ 0 := by positivity
  have hvalue : levelValue (sum * Config.blockScale ^ 2) (480 * 4 * energy i q) =
      200 * Real.logb 10 (√((sum : Real) / 480) / amplitudeOf i q) := levelValue_of_sq (by
    rw [div_pow, amplitudeOf_sq, Real.sq_sqrt (by positivity), Config.blockScale]
    push_cast
    field_simp
    norm_num)
  rw [← hvalue]
  exact levelOf_rounds (by rw [Config.blockScale]; positivity) (by positivity) (by decide) (by decide)

theorem rbOf_zero (h : 0 < energy i q) : rbOf i q 0 = -1400 := by
  rw [rbOf, zero_pow (by decide), Nat.zero_mul]
  exact levelOf_zero (by positivity) _ _

theorem rbOf_rounds (h : 0 < energy i q) {step : Nat} (hs : 0 < step) : ∃ k : Int,
    |200 * Real.logb 10 ((step : Real) / amplitudeOf i q) - k| < 1 / 2 ∧ rbOf i q step = max (-1400) (min 400 k) := by
  have henergy : (energy i q : Real) ≠ 0 := by positivity
  have hvalue : levelValue (step ^ 2 * Config.blockScale ^ 2) (4 * energy i q) =
      200 * Real.logb 10 ((step : Real) / amplitudeOf i q) := levelValue_of_sq (by
    rw [div_pow, amplitudeOf_sq, Config.blockScale]
    push_cast
    field_simp
    norm_num)
  rw [← hvalue]
  exact levelOf_rounds (by rw [Config.blockScale]; positivity) (by positivity) (by decide) (by decide)

/-! ### The angles that are exact (R44) -/

theorem ne_zero_of_energy_pos (h : 0 < energy i q) : i ≠ 0 ∨ q ≠ 0 := by
  by_contra hz
  rw [not_or, not_not, not_not] at hz
  rw [hz.1, hz.2] at h
  exact absurd h (by decide)

/-- A whole number of tenths of a degree is found exactly. -/
theorem signedTenths_of_exact (h0 : i ≠ 0 ∨ q ≠ 0) {c : Int}
    (hc : 1800 / Real.pi * Complex.arg ⟨(q : Real), (i : Real)⟩ = c) : signedTenths i q = c := by
  obtain ⟨-, -, hnear⟩ := signedTenths_near h0
  rw [hc, abs_le] at hnear
  have hlow : (signedTenths i q : Real) < c + 1 := by norm_num at hnear; linarith
  have hhigh : (c : Real) < signedTenths i q + 1 := by norm_num at hnear; linarith
  have hlow' : signedTenths i q < c + 1 := by exact_mod_cast hlow
  have hhigh' : c < signedTenths i q + 1 := by exact_mod_cast hhigh
  omega

theorem phaseOf_of_exact (h0 : i ≠ 0 ∨ q ≠ 0) {c : Int}
    (hc : 1800 / Real.pi * Complex.arg ⟨(q : Real), (i : Real)⟩ = c) :
    phaseOf i q = if c = 1800 then -1800 else c := by
  rw [phaseOf_eq, signedTenths_of_exact h0 hc]

theorem phaseOf_right (h : 0 < q) : phaseOf 0 q = 0 := by
  have harg : Complex.arg ⟨(q : Real), ((0 : Int) : Real)⟩ = 0 :=
    Complex.arg_eq_zero_iff.2 ⟨Int.cast_nonneg h.le, Int.cast_zero⟩
  exact phaseOf_of_exact (c := 0) (Or.inr h.ne') (by rw [harg, mul_zero, Int.cast_zero])

theorem phaseOf_left (h : q < 0) : phaseOf 0 q = -1800 := by
  have harg : Complex.arg ⟨(q : Real), ((0 : Int) : Real)⟩ = Real.pi :=
    Complex.arg_eq_pi_iff.2 ⟨Int.cast_lt_zero.2 h, Int.cast_zero⟩
  exact phaseOf_of_exact (c := 1800) (Or.inr h.ne) (by rw [harg, div_mul_cancel₀ _ Real.pi_ne_zero]; norm_num)

theorem phaseOf_up (h : 0 < i) : phaseOf i 0 = 900 := by
  have hpi := Real.pi_ne_zero
  have harg : Complex.arg ⟨((0 : Int) : Real), (i : Real)⟩ = Real.pi / 2 :=
    Complex.arg_eq_pi_div_two_iff.2 ⟨Int.cast_zero, Int.cast_pos.2 h⟩
  exact phaseOf_of_exact (c := 900) (Or.inl h.ne') (by rw [harg]; field_simp; norm_num)

theorem phaseOf_down (h : i < 0) : phaseOf i 0 = -900 := by
  have hpi := Real.pi_ne_zero
  have harg : Complex.arg ⟨((0 : Int) : Real), (i : Real)⟩ = -(Real.pi / 2) :=
    Complex.arg_eq_neg_pi_div_two_iff.2 ⟨Int.cast_zero, Int.cast_lt_zero.2 h⟩
  exact phaseOf_of_exact (c := -900) (Or.inl h.ne) (by rw [harg]; field_simp; norm_num)

theorem phaseOf_diagonal (h : 0 < i) : phaseOf i i = 450 := by
  have hpi := Real.pi_pos
  have hi : (0 : Real) < i := Int.cast_pos.2 h
  have hpoint : (⟨(i : Real), (i : Real)⟩ : Complex) =
      ((i * √2 : Real) : Complex) * (Complex.cos ((Real.pi / 4 : Real) : Complex) + Complex.sin ((Real.pi / 4 : Real) : Complex) * Complex.I) := by
    rw [← Complex.ofReal_cos, ← Complex.ofReal_sin, Real.cos_pi_div_four, Real.sin_pi_div_four]
    have hroot : (i : Real) * √2 * (√2 / 2) = i := by
      rw [mul_assoc, ← mul_div_assoc, Real.mul_self_sqrt (by norm_num)]; ring
    apply Complex.ext <;> simp [hroot]
  have harg : Complex.arg ⟨(i : Real), (i : Real)⟩ = Real.pi / 4 := by
    rw [hpoint]
    exact Complex.arg_mul_cos_add_sin_mul_I (by positivity) ⟨by linarith, by linarith⟩
  exact phaseOf_of_exact (c := 450) (Or.inl h.ne') (by rw [harg]; field_simp; norm_num)

end

/-- Settles O37. -/
theorem analysisBlockOpensAndCompletes : Obligations.AnalysisBlockOpensAndCompletes := by
  refine ⟨fun n s r hw hr hf hb => ?opens, fun n s ho hc => ⟨fun hfull => ?full, fun hplace => ?completes⟩,
    fun n s => ⟨exec_analysisBlockOpen_idle, fun h => if_neg fun k => ?idle⟩⟩
  case opens =>
    rw [exec_analysisBlockOpen hw hr hf hb, Analysis.openBlock_takeSample]
    rfl
  case full => exact (exec_analysisBlockComplete ho hc).trans (if_neg (Nat.not_lt.2 hfull))
  case idle => exact h.elim (· k.1) (· k.2)
  case completes =>
    have hsum : √((squareSum (s.ana n).residue : Real) / 480) =
        √((((s.ana n).residue : List Real).map (fun v => v ^ 2)).sum / 480) := by rw [cast_squareSum]
    have hstep := largestStep_eq (s.ana n).residue
    refine ⟨(s.ana n).record n, (s.ana n).residue, (exec_analysisBlockComplete ho hc).trans (if_pos hplace), rfl, rfl, rfl,
      rfl, rfl, rfl, rfl, rfl, rfl, rfl, residualFrom_length _ _ _ _ _, fun k x hx => residualFrom_getElem? _ _ _ _ _ hx,
      isSilent_iff _ _, fun h => ?silent, fun h => ?figures⟩
    case silent =>
      replace h : isSilent (s.ana n).i (s.ana n).q = true := h
      exact ⟨if_pos h, if_pos h, if_pos h, if_pos h⟩
    case figures =>
      replace h : isSilent (s.ana n).i (s.ana n).q = false := h
      have hne : ¬isSilent (s.ana n).i (s.ana n).q = true := Bool.eq_false_iff.1 h
      have henergy := energy_pos_of_not_silent h
      have h0 := ne_zero_of_energy_pos henergy
      have hlf : ((s.ana n).record n).lf = lfOf (s.ana n).i (s.ana n).q := if_neg hne
      have hph : ((s.ana n).record n).ph = phaseOf (s.ana n).i (s.ana n).q := if_neg hne
      have hdn : ((s.ana n).record n).dn = dnOf (s.ana n).i (s.ana n).q (squareSum (s.ana n).residue) := if_neg hne
      have hrb : ((s.ana n).record n).rb = rbOf (s.ana n).i (s.ana n).q (largestStep (s.ana n).residue) := if_neg hne
      rw [hlf, hph, hdn, hrb]
      refine ⟨lfOf_rounds henergy, fun hrms => ?_, fun hrms => ?_, fun hz => ?_, fun hz => ?_,
        ⟨signedTenths (s.ana n).i (s.ana n).q, ?_⟩, fun hi hq => ?_, fun hi hq => ?_, fun hi hq => ?_, fun hi hq => ?_,
        fun hi hq => ?_⟩
      · rw [← hsum, Real.sqrt_eq_zero (by positivity), div_eq_zero_iff, Nat.cast_eq_zero] at hrms
        rw [hrms.resolve_right (by norm_num)]
        exact dnOf_zero henergy
      · rw [← hsum] at hrms ⊢
        exact dnOf_rounds henergy (Nat.pos_of_ne_zero fun hz => hrms (by rw [hz, Nat.cast_zero, zero_div, Real.sqrt_zero]))
      · rw [hstep, hz]
        exact rbOf_zero henergy
      · rw [← hstep]
        rw [← hstep] at hz
        exact rbOf_rounds henergy (Nat.pos_of_ne_zero hz)
      · obtain ⟨hlo, hhi, hnear⟩ := signedTenths_near h0
        exact ⟨hlo, hhi, hnear, phaseOf_eq _ _⟩
      · rw [hi]; exact phaseOf_right hq
      · rw [hq]; exact phaseOf_up hi
      · rw [← hq]; exact phaseOf_diagonal hi
      · rw [hi]; exact phaseOf_left hq
      · rw [hq]; exact phaseOf_down hi

end Sys2Proof.Machine
end
